-- ==== Sys2Proof/Word.lean ====
section
/-! DEFINITION. The words of the TPC-80: bytes and halfwords of the control link and of the store
memory, 7-bit character codes, the 640-dot raster of the head and the 64 positions of the key matrix. -/

namespace Sys2Proof

/-- A byte of a link frame or of a store block (Conventions, "Byte values"). -/
abbrev Byte := BitVec 8

/-- A two-byte value of a link frame, sent high byte first (R175). -/
abbrev Half := BitVec 16

/-- A 7-bit character code (Conventions, "Character codes"). -/
abbrev Code := BitVec 7

/-- One mark per head dot: bit `d` stands for dot `d`, 0…639 (R88, R106). -/
abbrev Dots := BitVec 640

/-- One reading per key position: bit `p` is set when position `p` reads down (R55). -/
abbrev KeyMatrix := BitVec 64

/-- A set of document numbers as the reports send it: bit `n` for document `n` (R184). -/
abbrev DocSet := BitVec 32

end Sys2Proof
end

