-- ==== Sys2Proof/Syntax.lean ====
section
/-! DEFINITION. The commands of the TPC-80: one constructor of `Instr` for each row of
spec/opcode_table.json.  A row is one whole step of the part (95_what_each_step_holds.md).  Its operands are
what reaches the part from outside with that step: a measurement, a reading, the sound of a
received character, the bytes read back from the store memory, or the payload of a request. -/

namespace Sys2Proof

/-- What the receiver hears in its listening band at the instant of one decision (R12): the strengths of the mark tone and of
the space tone, on one scale. -/
structure Sound where
  mark  : Nat
  space : Nat
deriving DecidableEq, Repr

/-- A thermistor reading (R169): a temperature in whole °C, open or shorted. -/
inductive Therm where
  | temp (celsius : Int)
  | openCircuit
  | shorted
deriving DecidableEq, Repr

/-- The two tones of the beeper (R70): the 30 ms click and the 150 ms bell. -/
inductive Tone where
  | click
  | bell
deriving DecidableEq, Repr

/-- The 64 bytes that a block read brings back (R143): those the store memory holds, or others, when the
memory was changed in the field or a cell reads back wrongly. -/
inductive ReadData where
  | stored
  | bytes (data : List Byte)
deriving DecidableEq, Repr

/-- The readings that fall at the same moment as an event which may clear the last of what holds the Engine, and are taken after
it (R111, R115): the boundary at which the Engine resumes judges them.  Their own commands follow (log entry 41). -/
structure Coincident where
  /-- a paper sensor reading, true for present -/
  paper  : Option Bool         := none
  /-- a battery measurement in mV, and a thermistor reading -/
  supply : Option (Nat × Therm) := none
deriving DecidableEq, Repr

/-- What reaches the part with an event at which the Engine may resume: the fresh battery measurement, in mV, that the Supply
monitor takes if a dot line starts (R91), and the readings that fall at the same moment. -/
structure Resumption where
  volts    : Nat
  readings : Coincident := {}
deriving DecidableEq, Repr

/-- The commands, in the order of spec/opcode_table.json.  A `volts` operand named `snapVolts` is the fresh
battery measurement that the Supply monitor takes when the step starts a dot line (R91); a step that starts
none does not use it. -/
inductive Instr where
  /-- R2: a carrier level measurement, in whole dB -/
  | carrierMeasurement (level : Nat)
  /-- R7 -/
  | qualifyTimeExpiry
  /-- R8 -/
  | connectTimeout
  /-- R10 -/
  | lossTimeExpiry
  /-- R6: request 08h -/
  | connect (role : Byte)
  /-- R11: request 09h -/
  | drop
  /-- R20: what was heard at sample 0 to sample 16s + 9 of the character, one list for each modem state that has been in force
  since sample 0, in their order (R12) -/
  | receiveCharacterComplete (sounds : List (List Sound))
  /-- R23 -/
  | breakWatchMark
  /-- R24 -/
  | breakReceived
  /-- R24 -/
  | markWaitEnd
  /-- R37 -/
  | dispatchHead
  /-- R47 -/
  | textHeadDelivery
  /-- R29 -/
  | shiftStageEmpties
  /-- R30 -/
  | holdingStageRefill
  /-- R34 -/
  | breakSpaceEnd
  /-- R34 -/
  | breakMarkEnd
  /-- R32: request 0Ah -/
  | transmitText (text : List Byte)
  /-- R33: request 0Bh -/
  | sendBreak
  /-- R46: request 0Ch -/
  | setAnswerback (text : List Byte)
  /-- R55: the snapshot of the 64 positions -/
  | keyScan (snapshot : KeyMatrix)
  /-- R61 -/
  | translateKeyHead (snapVolts : Nat)
  /-- R67 -/
  | autoRepeatExpiry
  /-- R64: the position whose PAPER FEED key is held -/
  | feedRepeatExpiry (position : Nat) (snapVolts : Nat)
  /-- R70: the tone that ends -/
  | beeperToneEnd (tone : Tone)
  /-- R59: request 18h -/
  | setKeymapEntry (position layer entry : Byte)
  /-- R62: request 1Ah -/
  | setKeyboardMode (mode : Byte)
  /-- R66: request 1Bh -/
  | lockKeyboard (lock : Byte)
  /-- R69: request 19h -/
  | readKeys
  /-- R74: `nextFirst` says whether, at a release, the owner's next character is taken before the release
  (R76 allows both orders) -/
  | printDeposit (nextFirst : Bool)
  /-- R77 -/
  | ownershipTimeout
  /-- R82 -/
  | composerTakeHead (snapVolts : Nat)
  /-- R87 -/
  | idleFlushExpiry (snapVolts : Nat)
  /-- R78: request 10h -/
  | printText (text : List Byte)
  /-- R80: request 11h -/
  | paperFeed (lines : Byte) (snapVolts : Nat)
  /-- R112 -/
  | dotLineComplete (snapVolts : Nat)
  /-- R107 -/
  | coolDownExpiry
  /-- R115: the reading, true for present -/
  | paperSensorReading (present : Bool)
  /-- R115 -/
  | paperPresentExpiry (moment : Resumption)
  /-- R117 -/
  | hotTimerExpiry
  /-- R118: request 12h -/
  | clearHead (moment : Resumption)
  /-- R123 -/
  | elementPatrolExpiry
  /-- R124: the resistance that the sense pulse meets at the element, in milliohms -/
  | elementMeasurementComplete (milliohms : Nat)
  /-- R129: request 14h -/
  | setHeadMark (block : Byte) (element : Half)
  /-- R130: request 15h -/
  | clearHeadMap
  /-- R130: request 13h -/
  | readHeadMap
  /-- R136: whether the memory answered -/
  | statusReadComplete (answered : Bool)
  /-- R143: the first read of the block fails its check -/
  | blockReadRetry
  /-- R143: the bytes of the read -/
  | blockReadComplete (data : ReadData)
  /-- R144: the first comparison of the attempt does not match -/
  | writeCompareMismatch
  /-- R144: whether the comparison matched -/
  | blockWriteAttemptComplete (matched : Bool)
  /-- R146 -/
  | storePatrolExpiry
  /-- R148: request 23h -/
  | delete (document : Byte)
  /-- R149: request 2Bh -/
  | formatStore
  /-- R150: request 2Ch -/
  | remount
  /-- R151: request 2Ah -/
  | storeReadBlock (index : Half)
  /-- R151: request 20h -/
  | storeInfo
  /-- R151: request 21h -/
  | docList
  /-- R151: request 22h -/
  | docInfo (document : Byte)
  /-- R156: request 26h -/
  | send (document : Byte)
  /-- R158: request 27h -/
  | stopSend
  /-- R159: request 28h -/
  | reprint (document mode : Byte)
  /-- R159: request 29h -/
  | stopReprint
  /-- R164: request 24h -/
  | composeStart (document append : Byte)
  /-- R166: request 25h -/
  | composeEnd
  /-- R169: a periodic measurement of the battery in mV and of the thermistor; a paper sensor
  reading that falls at the same moment is taken after it (R111) -/
  | supplyMeasurement (volts : Nat) (therm : Therm) (moment : Resumption)
  /-- R171 -/
  | powerOn
  /-- R173: the first measurement, thermistor reading and paper sensor reading (R122) -/
  | startUp (volts : Nat) (therm : Therm) (paper : Bool)
  /-- R172: request 05h -/
  | reset
  /-- R183: request 01h -/
  | identify
  /-- R183: request 02h -/
  | getStatus (sectionNumber : Byte)
  /-- R181: request 03h -/
  | setParameter (id : Byte) (value : Half)
  /-- R181: request 04h -/
  | getParameter (id : Byte)
  /-- R185: request 06h -/
  | readFaults
  /-- R185: request 07h -/
  | clearFaults
  /-- R177: a request whose kind is not in the catalogue, or whose length the catalogue does not allow -/
  | unknownRequest (kind : Byte) (payload : List Byte)
  /-- R176: a byte from the terminal processor, and whether its stop bit was good -/
  | linkByteReceived (byte : Byte) (goodStop : Bool)
  /-- R176 -/
  | gapTimeout
  /-- R180 -/
  | linkFrameSent
  /-- R19 -/
  | candidateStartBit
  /-- R19 -/
  | falseStart
deriving DecidableEq, Repr

end Sys2Proof
end

