-- ==== Sys2Proof/Config.lean ====
section
/-! DEFINITION. What the manual fixes in the part or in the world but does not state. Each constant has no
body: nothing can be proved of its value, so every theorem holds for every value it might have. -/

namespace Sys2Proof.Config

/-- The character ROM: `glyphRow c k` is row `k` (0…9) of the glyph of code `c`, bit `x` set when glyph
column `x` (0 at the left, to 6) is set.  R88 fixes the patterns in the part and does not list them.
Free value, log entry 4. -/
opaque glyphRow : Code → Nat → BitVec 7

/-- What a block of the store memory holds when a write to it was cut short by a reset, or when its write
attempt failed verification: R145 and R144 leave it in an unknown state.  The first argument counts the
draws, the second is the byte's place 0…63 in the block.  Free value, log entry 5. -/
opaque unknownByte : Nat → Nat → Byte

/-- The one byte of DocInfo that gives a stray count above 255: R182 gives the field one byte, and R139
lets a document have more strays than that.  Free value, log entry 6. -/
opaque strayCountByte : Nat → Byte

/-- Whether a resistance (milliohms) that is no whole percentage of the head resistance (ohms) is read as the percentage above
it: R124 gives a whole percentage and no rounding.  Free value, log entry 15. -/
opaque roundsUp : Nat → Nat → Bool

/-- How many characters the transmitter takes on entry into CONNECTED before the flow conditions are judged: R52 allows none, one,
and one and one more.  The argument counts the draws; above 2 it is used as 2.  Free value, log entry 40. -/
opaque takenFirst : Nat → Nat

end Sys2Proof.Config
end

