-- ==== Sys2Proof/Machine/Keymap.lean ====
section
/-! DEFINITION. The default keymap in ROM (R59), one byte for each of the 64 positions, row × 8 + column. -/

namespace Sys2Proof.Machine

/-- R59: the default plain layer.  00h is none, 01h…7Fh a character, 80h SHIFT, 81h CTRL, 82h CAPS,
83h BREAK, 84h PAPER FEED, 85h END DOC, 86h RELAY. -/
def defaultPlain : Vector Byte 64 := #v[
  0x31, 0x32, 0x33, 0x34, 0x35, 0x36, 0x37, 0x38,
  0x39, 0x30, 0x2D, 0x3D, 0x71, 0x77, 0x65, 0x72,
  0x74, 0x79, 0x75, 0x69, 0x6F, 0x70, 0x5B, 0x5D,
  0x61, 0x73, 0x64, 0x66, 0x67, 0x68, 0x6A, 0x6B,
  0x6C, 0x3B, 0x27, 0x60, 0x7A, 0x78, 0x63, 0x76,
  0x62, 0x6E, 0x6D, 0x2C, 0x2E, 0x2F, 0x5C, 0x20,
  0x0D, 0x0A, 0x08, 0x09, 0x1B, 0x7F, 0x80, 0x80,
  0x81, 0x82, 0x83, 0x84, 0x85, 0x86, 0x86, 0x86]

/-- R59: the default shift layer: the capital of each letter, the paired sign of each other printing key;
space and rows 6 and 7 as in the plain layer. -/
def defaultShift : Vector Byte 64 := #v[
  0x21, 0x40, 0x23, 0x24, 0x25, 0x5E, 0x26, 0x2A,
  0x28, 0x29, 0x5F, 0x2B, 0x51, 0x57, 0x45, 0x52,
  0x54, 0x59, 0x55, 0x49, 0x4F, 0x50, 0x7B, 0x7D,
  0x41, 0x53, 0x44, 0x46, 0x47, 0x48, 0x4A, 0x4B,
  0x4C, 0x3A, 0x22, 0x7E, 0x5A, 0x58, 0x43, 0x56,
  0x42, 0x4E, 0x4D, 0x3C, 0x3E, 0x3F, 0x7C, 0x20,
  0x0D, 0x0A, 0x08, 0x09, 0x1B, 0x7F, 0x80, 0x80,
  0x81, 0x82, 0x83, 0x84, 0x85, 0x86, 0x86, 0x86]

/-- R59: the default control layer: the code less 60h for a letter key, else the plain entry. -/
def defaultControl : Vector Byte 64 :=
  defaultPlain.map fun e => if 0x61 ≤ e.toNat ∧ e.toNat ≤ 0x7A then e - 0x60 else e

end Sys2Proof.Machine
end

