-- ==== Sys2Proof/Machine/State.lean ====
section
/-! DEFINITION. The state of the TPC-80 as plain data, block by block in the order of the block table of
00_scope.md, each field with the rule that gives it and its default the reset value that rule states. -/

namespace Sys2Proof.Machine

/-- The part never stops with a fault: the manual names no condition that stops it, and every address the
part forms lies in the store memory.  No constructor: nothing raises one. -/
inductive Fault
deriving DecidableEq, Repr

/-- Why a command has no meaning. -/
inductive Refusal where
  /-- raised by `exec` for a command that this model gives no meaning; no arm raises it now.
  Safe: the model stops where the part goes on. -/
  | notModelled (mnemonic : String)
deriving DecidableEq, Repr

/-- A timer: stopped, or running toward its limit.  The limit is the value in force when it was started, in the unit
of its rule.  The time run so far is not held: its expiry is a command (log entry 1). -/
inductive Timer where
  | stopped
  | running (limit : Nat)
deriving DecidableEq, Repr, Inhabited

/-- R172: the reset causes. -/
inductive ResetCause where
  | powerOn | brownout | link
deriving DecidableEq, Repr

/-! ### Parameters -/

/-- R17: the parity parameter. -/
inductive Parity where
  | none | even | odd
deriving DecidableEq, Repr

/-- R181: the parameter table, each entry at its default. -/
structure Params where
  bitRate           : Nat    := 300
  onThreshold       : Nat    := 18
  offThreshold      : Nat    := 14
  qualifyTime       : Nat    := 1200
  lossTime          : Nat    := 400
  connectTimeout    : Nat    := 30
  attenuation       : Nat    := 6
  parity            : Parity := .even
  stopBits          : Nat    := 1
  routeBit          : Bool   := false
  breakLength       : Nat    := 250
  /-- R42: a designator value -/
  defaultRoute      : Nat    := 0
  flowControl       : Bool   := true
  pauseCode         : Code   := 0x13
  resumeCode        : Code   := 0x11
  highWater         : Nat    := 384
  lowWater          : Nat    := 128
  composeEcho       : Bool   := true
  repeatDelay       : Nat    := 500
  repeatInterval    : Nat    := 100
  ownershipTimeout  : Nat    := 3
  autoWrap          : Bool   := true
  autoLf            : Bool   := false
  tabInterval       : Nat    := 8
  formLength        : Nat    := 0
  idleFlush         : Nat    := 2
  darkness          : Nat    := 3
  headResistance    : Nat    := 120
  currentBudget     : Nat    := 2000
  elementPatrol     : Bool   := true
  faultThreshold    : Nat    := 3
  sectorThreshold   : Nat    := 4
  patrolInterval    : Nat    := 10
  takeReplaces      : Bool   := false
  sendEndCode       : Code   := 0
  lowThreshold      : Nat    := 6000
  criticalThreshold : Nat    := 5400
  /-- R184: bit `k` enables report kind 40h + k -/
  reportMask        : Half   := 0x03FE
deriving DecidableEq, Repr

/-! ### Modem -/

/-- R1. -/
inductive ModemState where
  | idle | waitCarrier | connected | dropout
deriving DecidableEq, Repr

/-- R1: a role; the state holds `none` for absent. -/
inductive Role where
  | originate | answer
deriving DecidableEq, Repr

structure Modem where
  /-- R1, R15 -/
  state   : ModemState  := .idle
  role    : Option Role := none
  /-- R2: the carrier level, 0…63 dB -/
  level   : Nat         := 0
  /-- R4, R7: the qualify timer, ms -/
  qualify : Timer       := .stopped
  /-- R4, R10: the loss timer, ms -/
  loss    : Timer       := .stopped
  /-- R4, R8: the connect timer, s -/
  connect : Timer       := .stopped
deriving DecidableEq, Repr

/-! ### Framer -/

/-- R21: an entry of the receive FIFO. -/
structure Entry where
  code     : Code
  routeBit : Bool
  poisoned : Bool
  gap      : Bool
deriving DecidableEq, Repr

/-- R17: the character format in force when a character began. -/
structure LineFormat where
  parity   : Parity
  stopBits : Nat
  routeBit : Bool
deriving DecidableEq, Repr

/-- R19: the receive sampler. -/
inductive Sampler where
  | hunting
  /-- the format in force when it began (R17), and the modem states in force since sample 0, one for each change, the latest
  last: they say which of its decisions are real (R12, R22) -/
  | character (format : LineFormat) (states : List ModemState)
  /-- the character that brought it there, and whether the Modem has left CONNECTED since, so that a forced mark ends the
  watch (R23) -/
  | breakWatch (format : LineFormat) (held : Entry) (forced : Bool)
  | markWait
deriving DecidableEq, Repr

/-- The character in the shift stage with the line states it is sent as, one per bit time, true for mark (R31). -/
structure TxChar where
  code : Code
  line : List Bool
deriving DecidableEq, Repr

/-- R34: the phases of a break in progress. -/
inductive BreakPhase where
  | none
  | wait
  /-- the break length it uses, ms (R33) -/
  | space (length : Nat)
  /-- one character time, in bit times (R34) -/
  | mark (bits : Nat)
deriving DecidableEq, Repr

structure Framer where
  /-- R19, R36 -/
  sampler  : Sampler       := .hunting
  /-- R25: the receive FIFO, head first -/
  rxFifo   : List Entry    := []
  /-- R26 -/
  overrun  : Bool          := false
  /-- section 2.5: the shift stage -/
  shift    : Option TxChar := none
  /-- section 2.5: the holding stage -/
  holding  : Option Code   := none
  /-- R34 -/
  brk      : BreakPhase    := .none
  /-- R32: the link text FIFO, head first -/
  linkText : List Code     := []
deriving DecidableEq, Repr

/-! ### Dispatcher -/

/-- Section 3.1: where received text goes. -/
inductive Route where
  | print
  | store (document : Nat)
  | printStore (document : Nat)
  | discard
deriving DecidableEq, Repr

/-- R48: a sink of the delivery record. -/
inductive Sink where
  | print
  | store (document : Nat)
deriving DecidableEq, Repr

/-- R51. -/
inductive FlowState where
  | running | pauseSent
deriving DecidableEq, Repr

/-- Section 3.1: the flow code that waits for the transmitter. -/
inductive FlowCode where
  | pause | resume
deriving DecidableEq, Repr

structure Dispatcher where
  route        : Route           := .print
  /-- R37, R76: the FIFO head has been examined and found to be text, and waits for its sinks -/
  headExamined : Bool            := false
  /-- R47: the delivery record -/
  record       : List Sink       := []
  flow         : FlowState       := .running
  pendingFlow  : Option FlowCode := none
  remotePause  : Bool            := false
  /-- R46: 0…24 characters -/
  answerback   : List Code       := []
  /-- R45: the index of the next answerback character -/
  progress     : Option Nat      := none
deriving DecidableEq, Repr

/-! ### Keyboard -/

/-- R55: the debounce record of one position. -/
structure KeyRecord where
  down       : Bool := false
  count      : Nat  := 0
  withheld   : Bool := false
  unreported : Bool := false
  breakOwed  : Bool := false
deriving DecidableEq, Repr, Inhabited

/-- R57. -/
inductive KeyKind where
  | make | brk | rep
deriving DecidableEq, Repr

/-- R57: an event of the key event queue; R69: of the relay key queue. -/
structure KeyEvent where
  position : Nat
  kind     : KeyKind
deriving DecidableEq, Repr

/-- R60: what a MAKE did. -/
inductive DownRecord where
  | character | shift | ctrl | feed | relayed | other
deriving DecidableEq, Repr

/-- R62, in the order of the catalogue (R182). -/
inductive KeyMode where
  | full | half | local_ | compose | relay
deriving DecidableEq, Repr

/-- R67: the auto-repeat record. -/
structure AutoRepeat where
  position : Nat
  timer    : Timer
deriving DecidableEq, Repr

/-- R64: the feed repeat of one position whose down record is FEED. -/
structure FeedRepeat where
  position : Nat
  timer    : Timer
deriving DecidableEq, Repr

structure Keyboard where
  /-- R55 -/
  keys        : Vector KeyRecord 64         := Vector.replicate 64 {}
  /-- R58: the positions whose breaks are owed, oldest first -/
  owed        : List Nat                    := []
  /-- R57: the key event queue, head first -/
  events      : List KeyEvent               := []
  /-- R74: the head has been judged and waits -/
  headJudged  : Bool                        := false
  /-- R59 -/
  plain       : Vector Byte 64              := defaultPlain
  shift       : Vector Byte 64              := defaultShift
  control     : Vector Byte 64              := defaultControl
  /-- R60: the down records; `none` for a free position -/
  downs       : Vector (Option DownRecord) 64 := Vector.replicate 64 none
  caps        : Bool                        := false
  /-- R67 -/
  autoRepeat  : Option AutoRepeat           := none
  /-- R64 -/
  feedRepeats : List FeedRepeat             := []
  mode        : KeyMode                     := .local_
  lock        : Bool                        := false
  /-- R68: the keyboard transmit FIFO, head first -/
  txFifo      : List Code                   := []
  /-- R69: the relay key queue, head first -/
  relay       : List KeyEvent               := []
  /-- R70: the tones now running on the beeper -/
  tones       : List Tone                   := []
deriving DecidableEq, Repr

/-! ### Print queue and line composer -/

/-- R72, R74: the claimants of print input, which are the sources of print queue entries, highest first. -/
inductive Claimant where
  | line | keys | link | reprint
deriving DecidableEq, Repr

/-- R72. -/
structure PrintEntry where
  code     : Code
  poisoned : Bool
  gap      : Bool
  source   : Claimant
deriving DecidableEq, Repr

/-- R81: one character struck in a cell. -/
structure Overlay where
  code     : Code
  poisoned : Bool
  gap      : Bool
deriving DecidableEq, Repr

/-- The 80 cells of a text line (R81). -/
abbrev Cells := Vector (List Overlay) 80

/-- R79: a job of the output queue.  A FEED job asked by a PAPER FEED key is tagged with the key's position
while it is the latest feed that key asked (R64). -/
inductive Job where
  | text (cells : Cells)
  | feed (lines : Nat) (key : Option Nat)
deriving DecidableEq, Repr

structure Composer where
  /-- R72: the print queue, head first -/
  queue       : List PrintEntry := []
  /-- R74: the owner of print input; `none` when it is free -/
  owner       : Option Claimant := none
  /-- R62, R74: compose-echo as the latest judgement of the translator's head read it; the waiting of KEYS goes by it -/
  keysEcho    : Bool            := true
  /-- R77, s -/
  ownerTimer  : Timer           := .stopped
  /-- R78: the link print FIFO, head first -/
  linkPrint   : List Code       := []
  /-- R79: the output queue, head first -/
  output      : List Job        := []
  /-- R81 -/
  cells       : Cells           := Vector.replicate 80 []
  column      : Nat             := 0
  wrapPending : Bool            := false
  lineSource  : Option Claimant := none
  formCount   : Nat             := 0
  /-- R87, s -/
  idleTimer   : Timer           := .stopped
  /-- R87: a flush is due and waits for a free place in the output queue -/
  flushDue    : Bool            := false
deriving DecidableEq, Repr

/-! ### Strobe unit -/

/-- R102, R103: a firing group. -/
structure Group where
  blocks : List Nat
  phases : Nat
deriving DecidableEq, Repr

/-- R105: the firing plan of a dot line. -/
structure Plan where
  slice  : Nat
  /-- the slice counts of the 640 dots, dot 0 first -/
  counts : List Nat
  groups : List Group
  period : Nat
deriving DecidableEq, Repr

/-- R105: the figures of the most recent dot line, shown in GetStatus. -/
structure Figures where
  volts      : Nat := 0
  celsius    : Int := 0
  slice      : Nat := 0
  dotCurrent : Nat := 0
  dotLimit   : Nat := 0
  groups     : Nat := 0
  period     : Nat := 0
deriving DecidableEq, Repr

structure Strobe where
  /-- R106: fired in the previous dot line -/
  h1       : Dots        := 0
  /-- R106: fired in the dot line before that -/
  h2       : Dots        := 0
  /-- R107, ms -/
  coolDown : Timer       := .stopped
  /-- R105: the plan of the dot line in flight -/
  plan     : Option Plan := none
  figures  : Figures     := {}
deriving DecidableEq, Repr

/-! ### Print engine -/

/-- Section 7.1, in the order of its table. -/
inductive EngineState where
  | idle | printing | feeding | paperOut | powerHold | hotHold | halted
deriving DecidableEq, Repr

structure Engine where
  /-- R109, R122 -/
  state      : EngineState := .idle
  /-- R109: the head job's dot line to be started next, or in flight -/
  position   : Option Nat  := none
  /-- R109: a dot line has started and not yet completed -/
  inFlight   : Bool        := false
  paperCond  : Bool        := false
  powerCond  : Bool        := false
  hotCond    : Bool        := false
  haltDue    : Bool        := false
  /-- R117, s -/
  hotTimer   : Timer       := .stopped
  /-- R115, ms -/
  paperTimer : Timer       := .stopped
  /-- R119 -/
  thermFault : Bool        := false
  /-- R115: the latest paper sensor reading, true for present (log entry 7 for its value before the first) -/
  paper      : Bool        := true
  /-- R112: the half-steps of the stepper that have moved the paper forward since reset, two for each dot line (log entry 32) -/
  halfSteps  : Nat         := 0
deriving DecidableEq, Repr

/-! ### Head element check -/

/-- R124. -/
inductive ElementResult where
  | opened | pass | short
deriving DecidableEq, Repr

/-- Section 8.2: a block record. -/
structure HeadRecord where
  count    : Nat        := 0
  /-- the dead mark: an element index -/
  mark     : Option Nat := none
  degraded : Bool       := false
  failed   : Bool       := false
  clean    : Nat        := 0
deriving DecidableEq, Repr, Inhabited

/-- R124: the most recent completed measurement. -/
structure ElementReading where
  result  : ElementResult
  element : Nat
  reading : Nat
deriving DecidableEq, Repr

structure HeadCheck where
  /-- R123: the patrol index, 0…639 -/
  index     : Nat                   := 0
  /-- R123, ms -/
  timer     : Timer                 := .stopped
  /-- R124: a measurement is in flight -/
  measuring : Bool                  := false
  /-- R125: the count of passes completed -/
  passes    : Nat                   := 0
  records   : Vector HeadRecord 8   := Vector.replicate 8 {}
  last      : Option ElementReading := none
deriving DecidableEq, Repr

/-! ### Store controller -/

/-- R135. -/
inductive StoreState where
  | mounting | ready | absent | unformatted | formatting
deriving DecidableEq, Repr

/-- R139. -/
inductive DocState where
  | free | taking | composing | closed | sending | reprinting | deleting
deriving DecidableEq, Repr

/-- R139: a document's flags. -/
structure DocFlags where
  incomplete : Bool := false
  truncated  : Bool := false
  poisoned   : Bool := false
  damaged    : Bool := false
deriving DecidableEq, Repr

/-- A block of a document's list with what its header says (R133): its sequence, its fill and its flags byte. -/
structure BlockRef where
  seq   : Nat
  block : Nat
  fill  : Nat
  flags : Byte
deriving DecidableEq, Repr

/-- R139: a directory entry.  Its length is `DirEntry.length`. -/
structure DirEntry where
  state         : DocState      := .free
  flags         : DocFlags      := {}
  /-- in sequence order -/
  blocks        : List BlockRef := []
  pendingDamage : Bool          := false
  /-- in index order -/
  strays        : List Nat      := []
deriving DecidableEq, Repr, Inhabited

/-- R141: a sector record. -/
structure Sector where
  count         : Nat  := 0
  retired       : Bool := false
  eventThisPass : Bool := false
deriving DecidableEq, Repr, Inhabited

/-- R142: the claimants of the store port in their order of priority, and the mount. -/
inductive PortClaimant where
  | take | compose | send | reprint | maintenance | link | patrol | mount
deriving DecidableEq, Repr

/-- R144: a data write. -/
structure DataWrite where
  document : Nat
  seq      : Nat
  flags    : Byte
  /-- the payload bytes in use, each a code with its poison mark (R133) -/
  chars    : List Byte
  /-- the block of the first attempt, when that attempt failed: this is then the second -/
  failed   : Option Nat
deriving DecidableEq, Repr

/-- Section 9.5: an operation on the store port. -/
inductive PortOp where
  | statusRead
  | read
  | dataWrite (w : DataWrite)
  | releaseWrite
deriving DecidableEq, Repr

/-- The operation in flight on the store port (R142). -/
structure InFlight where
  claimant  : PortClaimant
  op        : PortOp
  /-- the block read or written; a status read has none, and this is 0 -/
  block     : Nat
  /-- the block is being read a second time (R143), or compared a second time (R144) -/
  again     : Bool := false
  /-- its claimant has stopped, so the bytes read are discarded (R145) -/
  discarded : Bool := false
deriving DecidableEq, Repr

/-- R148: a delete job, from a Delete request or from TAKE. -/
structure DeleteJob where
  document : Nat
  forTake  : Bool
deriving DecidableEq, Repr

/-- R146, R147: the read the patrol has asked, waiting or in flight, with the document whose list held the block. -/
structure PatrolRead where
  block    : Nat
  document : Nat
deriving DecidableEq, Repr

structure Store where
  /-- R135, R153 -/
  state       : StoreState        := .mounting
  /-- R136, R137: the next operation of a mount: `none` the status read, `some k` the read of block `k` -/
  mountNext   : Option Nat        := none
  /-- R149: the next block a format writes -/
  formatNext  : Nat               := 0
  /-- R139: the entries of documents 1…31, document 1 first -/
  dir         : Vector DirEntry 31 := Vector.replicate 31 {}
  /-- R140: the free set, in index order -/
  free        : List Nat          := List.range' 1 511
  /-- R140: the bad set, in index order -/
  bad         : List Nat          := []
  /-- R141 -/
  sectors     : Vector Sector 8   := Vector.replicate 8 {}
  /-- R142: the operation in flight -/
  inFlight    : Option InFlight   := none
  /-- R148: the delete jobs of directory maintenance, first placed first -/
  jobs        : List DeleteJob    := []
  /-- R146: the patrol position -/
  patrolPos   : Nat               := 0
  /-- R146, s -/
  patrolTimer : Timer             := .stopped
  patrolRead  : Option PatrolRead := none
  /-- R151: the block a StoreReadBlock request waits for -/
  linkRead    : Option Nat        := none
deriving DecidableEq, Repr

/-! ### Transfer channels -/

/-- R155: an item a reading channel takes from a loaded buffer. -/
inductive Item where
  | char (code : Code) (poisoned : Bool)
  | lost
deriving DecidableEq, Repr

/-- R154: a block buffer of SEND or REPRINT.  A loaded buffer holds the items not yet taken. -/
inductive ReadBuf where
  | free
  | reading (seq : Nat)
  | loaded (seq fill : Nat) (rest : List Item)
deriving DecidableEq, Repr

/-- R154: the two block buffers and how many blocks of the reading document have been asked. -/
structure Reader where
  bufA  : ReadBuf := .free
  bufB  : ReadBuf := .free
  asked : Nat     := 0
deriving DecidableEq, Repr

structure SendChannel where
  /-- R156 -/
  current : Option Nat  := none
  staged  : Option Nat  := none
  reader  : Reader      := {}
  /-- R157: the end code read at exhaustion, while it waits to be taken -/
  endCode : Option Code := none
deriving DecidableEq, Repr

structure ReprintChannel where
  /-- R159 -/
  document : Option Nat := none
  /-- the mode: WHOLE, or LINE -/
  whole    : Bool       := false
  reader   : Reader     := {}
  /-- R159: the last deposit for the document was an unpoisoned LF or FF -/
  lineEnd  : Bool       := false
deriving DecidableEq, Repr

/-- R167. -/
inductive ChannelOutcome where
  | complete | stopped | lineLost | storeFailed
deriving DecidableEq, Repr

/-- Section 10.4: a document TAKE holds, with its flag record. -/
structure TakeDoc where
  document    : Nat
  /-- it has been ended and is closing (R162) -/
  closing     : Bool           := false
  /-- its delete job is still in progress (R160) -/
  deleting    : Bool           := false
  /-- R161: the next sequence a buffer takes -/
  nextSeq     : Nat            := 0
  poisoned    : Bool           := false
  truncated   : Bool           := false
  incomplete  : Bool           := false
  /-- R162: its final block is an empty block that awaits a buffer -/
  finalAwaits : Bool           := false
  /-- R162: the outcome when closed -/
  outcome     : ChannelOutcome := .complete
deriving DecidableEq, Repr

/-- Section 10.4: a FILLING or FULL buffer of TAKE. -/
structure TakeBuf where
  document : Nat
  seq      : Nat
  chars    : List Byte
  /-- FULL; otherwise FILLING -/
  full     : Bool
  /-- R162: it holds the document's final block -/
  final    : Bool
deriving DecidableEq, Repr

/-- R161: the data write TAKE has asked, waiting or in flight. -/
structure TakeWrite where
  document : Nat
  seq      : Nat
  /-- the block of the first attempt, when that attempt failed -/
  failed   : Option Nat := none
deriving DecidableEq, Repr

structure TakeChannel where
  /-- the current or awaited document and the closing ones, in the order TAKE came to hold them -/
  docs  : List TakeDoc     := []
  /-- `none` when the buffer is FREE -/
  bufA  : Option TakeBuf   := none
  bufB  : Option TakeBuf   := none
  write : Option TakeWrite := none
deriving DecidableEq, Repr

/-- Section 10.5. -/
inductive ComposePhase where
  | idle | loading | composing | ending
deriving DecidableEq, Repr

/-- R165, R166: the data write COMPOSE has asked, waiting or in flight. -/
structure ComposeWrite where
  /-- it is the final block -/
  final  : Bool
  /-- the block of the first attempt, when that attempt failed -/
  failed : Option Nat := none
deriving DecidableEq, Repr

structure ComposeChannel where
  phase    : ComposePhase        := .idle
  document : Nat                 := 0
  /-- the buffer's characters with their poison marks (R133) -/
  chars    : List Byte           := []
  seq      : Nat                 := 0
  /-- the block of a loaded buffer, to be rewritten in place; `none` for a new block -/
  loaded   : Option Nat          := none
  /-- R164: the load of the last block is waiting or in flight -/
  loading  : Bool                := false
  write    : Option ComposeWrite := none
deriving DecidableEq, Repr

/-! ### Supply monitor -/

/-- R170. -/
inductive Power where
  | normal | low | critical
deriving DecidableEq, Repr

structure Supply where
  /-- R169: the measured voltage, mV -/
  volts : Nat   := 0
  /-- R169: the latest thermistor reading -/
  therm : Therm := .temp 0
  /-- R170 -/
  power : Power := .normal
deriving DecidableEq, Repr

/-! ### Control link -/

/-- R176: the receiver's place in the frame it is reading. -/
inductive LinkRx where
  | hunt
  | kind
  | length (kind : Byte)
  | payload (kind length : Byte) (got : List Byte)
  | check (kind length : Byte) (got : List Byte)
deriving DecidableEq, Repr

/-- R179: a request of the queue. -/
structure Request where
  kind    : Byte
  payload : List Byte
deriving DecidableEq, Repr

/-- R179: a reply, with the kind of its request. -/
structure Reply where
  request : Byte
  payload : List Byte
deriving DecidableEq, Repr

/-- R178. -/
structure Reject where
  reason  : Byte
  kind    : Byte
  further : Bool
deriving DecidableEq, Repr

/-- R180: what the transmitter is sending. -/
inductive TxSource where
  | reply | reject | report
deriving DecidableEq, Repr

/-- R175, R180: the frame on the wire. -/
structure TxFrame where
  source  : TxSource
  kind    : Byte
  payload : List Byte
deriving DecidableEq, Repr

structure Link where
  /-- R176, R186 -/
  rx       : LinkRx         := .hunt
  /-- R176, ms -/
  gapTimer : Timer          := .stopped
  /-- R179: the request queue, head first -/
  queue    : List Request   := []
  /-- R179: the reply slot -/
  reply    : Option Reply   := none
  /-- R178: the LinkReject slot -/
  reject   : Option Reject  := none
  /-- R180: the frame being sent; `none` when the transmitter is idle -/
  sending  : Option TxFrame := none
deriving DecidableEq, Repr

/-! ### Reports and faults -/

structure StartedReport where
  cause : ResetCause
  power : Power
  volts : Nat
deriving DecidableEq, Repr

/-- R14. -/
structure ModemReport where
  events : Byte
  state  : ModemState
  role   : Option Role
  level  : Nat
deriving DecidableEq, Repr

/-- R53. -/
structure LineReport where
  events  : Byte
  route   : Route
  refused : Nat
deriving DecidableEq, Repr

/-- R121. -/
structure PrintReport where
  events : Half
  state  : EngineState
  jobs   : Nat
  queue  : Nat
deriving DecidableEq, Repr

/-- R131. -/
structure HeadReport where
  events   : Byte
  blocks   : Byte
  marks    : Nat
  degraded : Nat
deriving DecidableEq, Repr

/-- R152. -/
inductive StoreOutcome where
  | ok | absent | unformatted | formatted
deriving DecidableEq, Repr

/-- R152. -/
structure StoreReport where
  outcome   : Option StoreOutcome
  documents : DocSet
  damage    : Bool
  state     : StoreState
  free      : Nat
deriving DecidableEq, Repr

/-- R167: one slot of the ChannelDone report. -/
structure DoneSlot where
  outcome   : Option ChannelOutcome := none
  documents : DocSet                := 0
deriving DecidableEq, Repr

/-- R167. -/
structure DoneReport where
  send        : DoneSlot := {}
  take        : DoneSlot := {}
  reprint     : DoneSlot := {}
  compose     : DoneSlot := {}
  maintenance : DoneSlot := {}
deriving DecidableEq, Repr

/-- R70. -/
structure KeysReport where
  count   : Nat
  refused : Bool
deriving DecidableEq, Repr

/-- R174. -/
structure PowerReport where
  entered : Byte
  power   : Power
  volts   : Nat
deriving DecidableEq, Repr

/-- R185: the kinds of fault, codes 01h…05h. -/
inductive FaultKind where
  | headShutdown | thermistor | headDegraded | storeWrite | storeAbsent
deriving DecidableEq, Repr

/-- R185: the detail of a fault. -/
structure FaultDetail where
  document  : Option Nat := none
  block     : Option Nat := none
  headBlock : Option Nat := none
deriving DecidableEq, Repr

/-- R185: a fault record that is not empty; bit k − 1 of `kinds` for kind code k. -/
structure FaultRecord where
  first  : FaultKind
  detail : FaultDetail
  kinds  : Byte
deriving DecidableEq, Repr

/-- R184: the accumulated payload of each report kind, 40h to 49h.  A kind is pending exactly when it holds a
payload: recording makes both, and sending, or clearing its enable bit, ends both. -/
structure Reports where
  started : Option StartedReport := none
  modem   : Option ModemReport   := none
  line    : Option LineReport    := none
  print   : Option PrintReport   := none
  head    : Option HeadReport    := none
  store   : Option StoreReport   := none
  done    : Option DoneReport    := none
  keys    : Option KeysReport    := none
  power   : Option PowerReport   := none
  fault   : Option FaultRecord   := none
deriving DecidableEq, Repr

/-! ### The whole part -/

/-- The store memory: the listed bytes, addresses strictly rising, none listed at the value 00h that an
unlisted address reads as (log entry 8). -/
abbrev Memory := List Host.Cell

/-- The state of the part.  Each field's defaults are its block's reset values (R15, R36, R54, R71, R90, R108, R122,
R132, R153, R168, R186). -/
structure State where
  /-- R171, R172: the part is held in reset with this cause, or runs (`none`) -/
  held : Option ResetCause := some .powerOn
  /-- R181: the parameter table -/
  params : Params := {}
  /-- chapter 1 -/
  modem : Modem := {}
  /-- chapter 2 -/
  framer : Framer := {}
  /-- chapter 3 -/
  disp : Dispatcher := {}
  /-- chapter 4 -/
  kbd : Keyboard := {}
  /-- chapter 5 -/
  comp : Composer := {}
  /-- chapter 6 -/
  strobe : Strobe := {}
  /-- chapter 7 -/
  engine : Engine := {}
  /-- chapter 8 -/
  head : HeadCheck := {}
  /-- chapter 9 -/
  store : Store := {}
  /-- section 10.2 -/
  send : SendChannel := {}
  /-- section 10.3 -/
  reprint : ReprintChannel := {}
  /-- section 10.4 -/
  take : TakeChannel := {}
  /-- section 10.5 -/
  compose : ComposeChannel := {}
  /-- chapter 11 -/
  supply : Supply := {}
  /-- chapter 12 -/
  link : Link := {}
  /-- R184: the pending reports with their accumulated payloads -/
  reports : Reports := {}
  /-- R185: the fault record, `none` when it is empty -/
  faults : Option FaultRecord := none
  /-- chapter 9: the bytes of the external store memory, in canonical form -/
  mem : Memory := []
  /-- the MODEL's own counter: how many free values have been drawn (log entries 5 and 40) -/
  draws : Nat := 0
  /-- the MODEL's own queue of commands waiting to be taken, first in, first out -/
  pending : List Instr := []
deriving DecidableEq, Repr

/-- `s` with another `held`. -/
def State.setHeld (s : State) (x : Option ResetCause) : State := { s with held := x }

/-- `s` with another `params`. -/
def State.setParams (s : State) (x : Params) : State := { s with params := x }

/-- `s` with another `modem`. -/
def State.setModem (s : State) (x : Modem) : State := { s with modem := x }

/-- `s` with another `framer`. -/
def State.setFramer (s : State) (x : Framer) : State := { s with framer := x }

/-- `s` with another `disp`. -/
def State.setDisp (s : State) (x : Dispatcher) : State := { s with disp := x }

/-- `s` with another `kbd`. -/
def State.setKbd (s : State) (x : Keyboard) : State := { s with kbd := x }

/-- `s` with another `comp`. -/
def State.setComp (s : State) (x : Composer) : State := { s with comp := x }

/-- `s` with another `strobe`. -/
def State.setStrobe (s : State) (x : Strobe) : State := { s with strobe := x }

/-- `s` with another `engine`. -/
def State.setEngine (s : State) (x : Engine) : State := { s with engine := x }

/-- `s` with another `head`. -/
def State.setHead (s : State) (x : HeadCheck) : State := { s with head := x }

/-- `s` with another `store`. -/
def State.setStore (s : State) (x : Store) : State := { s with store := x }

/-- `s` with another `send`. -/
def State.setSend (s : State) (x : SendChannel) : State := { s with send := x }

/-- `s` with another `reprint`. -/
def State.setReprint (s : State) (x : ReprintChannel) : State := { s with reprint := x }

/-- `s` with another `take`. -/
def State.setTake (s : State) (x : TakeChannel) : State := { s with take := x }

/-- `s` with another `compose`. -/
def State.setCompose (s : State) (x : ComposeChannel) : State := { s with compose := x }

/-- `s` with another `supply`. -/
def State.setSupply (s : State) (x : Supply) : State := { s with supply := x }

/-- `s` with another `link`. -/
def State.setLink (s : State) (x : Link) : State := { s with link := x }

/-- `s` with another `reports`. -/
def State.setReports (s : State) (x : Reports) : State := { s with reports := x }

/-- `s` with another `faults`. -/
def State.setFaults (s : State) (x : Option FaultRecord) : State := { s with faults := x }

/-- `s` with another `mem`. -/
def State.setMem (s : State) (x : Memory) : State := { s with mem := x }

/-- `s` with another `draws`. -/
def State.setDraws (s : State) (x : Nat) : State := { s with draws := x }

/-- `s` with another `pending`. -/
def State.setPending (s : State) (x : List Instr) : State := { s with pending := x }

/-- The part as a POWER_ON reset leaves it: held in reset until a first measurement releases it (R171, R173), every block
at the reset values of its chapter, the store memory with nothing listed, no command waiting. -/
def State.reset : State := {}

end Sys2Proof.Machine
end

