-- ==== Sys2Proof/Machine/Basic.lean ====
section
/-! DEFINITION. Small readings and updates the chapters share: timers, tables by number, sets in index order, modem and
power conditions, document entries. -/

namespace Sys2Proof.Machine

/-- The timer runs. -/
def Timer.isRunning : Timer → Bool
  | .stopped => false
  | .running _ => true

/-- Entry `i` of a fixed table, `d` beyond its end. -/
def nth {α : Type} {n : Nat} (v : Vector α n) (i : Nat) (d : α) : α := v[i]?.getD d

/-- A fixed table with entry `i` replaced; unchanged beyond its end. -/
def put {α : Type} {n : Nat} (v : Vector α n) (i : Nat) (x : α) : Vector α n := v.setIfInBounds i x

/-- A value held within a range (Conventions, "clamped"). -/
def clamp (lo hi x : Nat) : Nat := max lo (min hi x)

/-- A set of indices in index order with `b` joined. -/
def insertAsc (b : Nat) : List Nat → List Nat
  | [] => [b]
  | x :: xs => if b < x then b :: x :: xs else if b = x then x :: xs else x :: insertAsc b xs

/-- A set of indices without `b`. -/
def without (b : Nat) (l : List Nat) : List Nat := l.filter (· ≠ b)

/-- R1: connected means CONNECTED or DROPOUT. -/
def ModemState.isConnected : ModemState → Bool
  | .connected | .dropout => true
  | .idle | .waitCarrier => false

/-- R1, for the whole part. -/
def connected (s : State) : Bool := s.modem.state.isConnected

/-- R142: the power state lets a block write start. -/
def writesMayStart (s : State) : Bool := s.supply.power ≠ .critical

/-! ### The directory (R139) -/

/-- The document numbers of the directory. -/
def isDocument (n : Nat) : Bool := 1 ≤ n && n ≤ 31

/-- The directory entry of document `n`. -/
def dirEntry (s : State) (n : Nat) : DirEntry := nth s.store.dir (n - 1) {}

/-- The part with another directory entry for document `n`. -/
def setDirEntry (n : Nat) (e : DirEntry) (s : State) : State :=
  if isDocument n then s.setStore { s.store with dir := put s.store.dir (n - 1) e } else s

/-- R139: the length is the sum of the fills of the listed blocks. -/
def DirEntry.length (e : DirEntry) : Nat := (e.blocks.map (·.fill)).sum

/-- A block list in sequence order with a block joined at its sequence, replacing one of that sequence. -/
def insertRef (r : BlockRef) : List BlockRef → List BlockRef
  | [] => [r]
  | x :: xs => if r.seq < x.seq then r :: x :: xs else if r.seq = x.seq then r :: xs else x :: insertRef r xs

/-- A block list without block `b`. -/
def dropRef (b : Nat) (l : List BlockRef) : List BlockRef := l.filter (·.block ≠ b)

/-- Block `b` stands in the block list of some document. -/
def isOwned (s : State) (b : Nat) : Bool :=
  s.store.dir.toList.any fun e => e.blocks.any (·.block = b)

/-- R143, R140: the sector of a block. -/
def sectorOf (block : Nat) : Nat := block / 64

end Sys2Proof.Machine
end

