-- ==== Sys2Proof/Machine/Operands.lean ====
section
/-! DEFINITION. How operands are read and values are written: the decisions of a received character (R12, R20, R21), the line
states of a character sent (R31), character bytes of the store (R133), bytes and numbers of link frames (R175,
R182), and the codes of states and enumerated values (R182). -/

namespace Sys2Proof.Machine

/-! ### Characters on the line -/

/-- R12: one decision that the Modem hands the Framer: real, with its line state, or forced to mark with the dropout indication
set (`dropout`) or clear (`quiet`). -/
inductive Decision where
  | real (mark : Bool)
  | dropout
  | quiet
deriving DecidableEq, Repr

/-- R12: the decision in a modem state, from what is heard at its instant: mark when the mark tone is at least as strong as the
space tone. -/
def decisionIn (m : ModemState) (x : Sound) : Decision :=
  match m with
  | .connected => .real (x.space ≤ x.mark)
  | .dropout => .dropout
  | .idle | .waitCarrier => .quiet

/-- R12: the line state of a decision, true for mark. -/
def decisionMark : Decision → Bool
  | .real m => m
  | .dropout | .quiet => true

/-- R12: the dropout indication of a decision. -/
def decisionIndication : Decision → Bool
  | .dropout => true
  | .real _ | .quiet => false

/-- R21: the decision was forced: with the dropout indication set, or as the steady mark of IDLE and WAIT_CARRIER. -/
def decisionForced (d : Decision) : Bool := decisionIndication d || d = .quiet

/-- R12: a decision belongs to the modem state in force at its instant: the decisions of the sounds heard in each of a list of
modem states, one list of sounds for each. -/
def decisionsOf (states : List ModemState) (sounds : List (List Sound)) : List Decision :=
  (states.zip sounds).flatMap fun x => x.2.map (decisionIn x.1)

/-- The parameters' format (R17). -/
def Params.format (p : Params) : LineFormat := ⟨p.parity, p.stopBits, p.routeBit⟩

/-- R20: p, 1 with parity on. -/
def LineFormat.parityBits (f : LineFormat) : Nat := if f.parity = .none then 0 else 1

/-- R20: r, 1 with the route bit present. -/
def LineFormat.routeBits (f : LineFormat) : Nat := if f.routeBit then 1 else 0

/-- R20: s = 8 + p + r, the position of the first stop bit. -/
def LineFormat.stopIndex (f : LineFormat) : Nat := 8 + f.parityBits + f.routeBits

/-- Section 2.1: N, the number of bits of a character. -/
def LineFormat.bits (f : LineFormat) : Nat := f.stopIndex + f.stopBits

/-- R20: the number of a character's samples, 0 to 16s + 9. -/
def LineFormat.samples (f : LineFormat) : Nat := 16 * f.stopIndex + 10

/-- Two or three of three are mark. -/
def majority (a b c : Bool) : Bool := (a && b) || (a && c) || (b && c)

/-- Sample `i` reads mark. -/
def markAt (samples : List Decision) (i : Nat) : Bool := decisionMark (samples.getD i .quiet)

/-- R20: the value of bit `k`, the majority of samples 16k + 7, 16k + 8 and 16k + 9. -/
def bitAt (samples : List Decision) (k : Nat) : Bool :=
  majority (markAt samples (16 * k + 7)) (markAt samples (16 * k + 8)) (markAt samples (16 * k + 9))

/-- R21: the seven data bits, d0 the least significant. -/
def codeOf (samples : List Decision) : Code :=
  BitVec.ofNat 7 ((List.range 7).foldl (fun a i => a + if bitAt samples (i + 1) then 2 ^ i else 0) 0)

/-- The number of 1 bits of a code. -/
def onesIn (c : Code) : Nat := ((List.range 7).filter fun i => c.getLsbD i).length

/-- R18: the parity bit that makes the count of 1 bits among `ones` others right. -/
def parityBit (p : Parity) (ones : Nat) : Bool :=
  match p with
  | .none => false
  | .even => ones % 2 = 1
  | .odd => ones % 2 = 0

/-- R21: the route bit decided, 0 when the format has none. -/
def routeOf (f : LineFormat) (samples : List Decision) : Bool :=
  f.routeBit && bitAt samples (8 + f.parityBits)

/-- R18: the character has a parity error. -/
def parityError (f : LineFormat) (samples : List Decision) : Bool :=
  f.parity ≠ .none &&
    bitAt samples 8 ≠ parityBit f.parity (onesIn (codeOf samples) + if routeOf f samples then 1 else 0)

/-- R20: the value of the first stop bit. -/
def stopIsMark (f : LineFormat) (samples : List Decision) : Bool := bitAt samples f.stopIndex

/-- R21: the entry a completed character is formed into. -/
def entryOf (f : LineFormat) (samples : List Decision) : Entry where
  code := codeOf samples
  routeBit := routeOf f samples
  poisoned := parityError f samples || !stopIsMark f samples || samples.any decisionForced
  gap := false

/-- R20: every sample is space. -/
def allSpace (samples : List Decision) : Bool := samples.all fun d => !decisionMark d

/-- R19, R20, R22: the sounds are those of a whole character that completes now: some for the modem state in force now and a list
for each one before it, as many in all as the format has samples, sample 0 and sample 8 space, and a forced decision among them
when the Modem has been out of CONNECTED since sample 0. -/
def isCharacter (f : LineFormat) (states : List ModemState) (sounds : List (List Sound)) : Bool :=
  let samples := decisionsOf states sounds
  sounds.length = states.length && sounds.getLast?.any (· ≠ []) && samples.length = f.samples &&
    samples.getD 0 .quiet = .real false && samples.getD 8 .quiet = .real false &&
    (states.all (· = .connected) || samples.any decisionForced)

/-- R22, R23: the sampler at a change of modem state. -/
def Sampler.follow (m : ModemState) : Sampler → Sampler
  | .character f states => .character f (states ++ [m])
  | .breakWatch f e forced => .breakWatch f e (forced || m ≠ .connected)
  | .hunting => .hunting
  | .markWait => .markWait

/-- R31: the line states a character is sent as, one per bit time, true for mark. -/
def lineStates (f : LineFormat) (c : Code) : List Bool :=
  [false] ++ (List.range 7).map (fun i => c.getLsbD i)
    ++ (if f.parity = .none then [] else [parityBit f.parity (onesIn c)])
    ++ (if f.routeBit then [false] else [])
    ++ List.replicate f.stopBits true

/-! ### Character bytes -/

/-- R133: a payload byte of the store: the code, with 80h added when poisoned. -/
def storeByte (c : Code) (poisoned : Bool) : Byte := c.setWidth 8 ||| if poisoned then 0x80 else 0

/-- R133: the code of a payload byte. -/
def byteCode (b : Byte) : Code := b.setWidth 7

/-- R133: the poison mark of a payload byte. -/
def bytePoisoned (b : Byte) : Bool := b.getLsbD 7

/-- No byte of a request's text is above 7Fh (R32, R46, R78). -/
def textOk (text : List Byte) : Bool := text.all fun b => !b.getLsbD 7

/-- The catalogue's lengths of TransmitText and PrintText (R182). -/
def textLengthOk (text : List Byte) : Bool := 1 ≤ text.length && text.length ≤ 240

/-- R182: the payload lengths the catalogue allows for a kind; `none` for a kind that is not in it. -/
def catalogueLengths (kind : Nat) : Option (Nat × Nat) :=
  match kind with
  | 0x01 => some (0, 0) | 0x02 => some (1, 1) | 0x03 => some (3, 3) | 0x04 => some (1, 1) | 0x05 => some (0, 0)
  | 0x06 => some (0, 0) | 0x07 => some (0, 0) | 0x08 => some (1, 1) | 0x09 => some (0, 0) | 0x0A => some (1, 240)
  | 0x0B => some (0, 0) | 0x0C => some (0, 24)
  | 0x10 => some (1, 240) | 0x11 => some (1, 1) | 0x12 => some (0, 0) | 0x13 => some (0, 0) | 0x14 => some (3, 3)
  | 0x15 => some (0, 0) | 0x18 => some (3, 3) | 0x19 => some (0, 0) | 0x1A => some (1, 1) | 0x1B => some (1, 1)
  | 0x20 => some (0, 0) | 0x21 => some (0, 0) | 0x22 => some (1, 1) | 0x23 => some (1, 1) | 0x24 => some (2, 2)
  | 0x25 => some (0, 0) | 0x26 => some (1, 1) | 0x27 => some (0, 0) | 0x28 => some (2, 2) | 0x29 => some (0, 0)
  | 0x2A => some (2, 2) | 0x2B => some (0, 0) | 0x2C => some (0, 0)
  | _ => none

/-- The characters of a request's text. -/
def textCodes (text : List Byte) : List Code := text.map byteCode

/-! ### Numbers in frames -/

/-- One byte. -/
def byte1 (n : Nat) : List Byte := [BitVec.ofNat 8 n]

/-- R175: a value of two bytes, high byte first. -/
def byte2 (n : Nat) : List Byte := [BitVec.ofNat 8 (n / 256), BitVec.ofNat 8 n]

/-- A value of four bytes, the set of documents of R184.  R175 gives high byte first for values of two bytes; that the highest of
four comes first is the model's choice (log entry 48). -/
def byte4 (n : Nat) : List Byte := byte2 (n / 65536) ++ byte2 n

/-- R175: the two bytes of a halfword, high byte first. -/
def halfBytes (h : Half) : List Byte := byte2 h.toNat

/-- R183: a yes or no item. -/
def flag1 (b : Bool) : List Byte := byte1 (if b then 1 else 0)

/-- R183: an item of one byte that may be absent. -/
def opt1 (o : Option Nat) : List Byte := byte1 (o.getD 0xFF)

/-- R183: an item of two bytes that may be absent. -/
def opt2 (o : Option Nat) : List Byte := byte2 (o.getD 0xFFFF)

/-- R183: a list item: its count, then its members. -/
def list1 (l : List Nat) : List Byte := byte1 l.length ++ l.flatMap byte1

/-- R183: a value of two bytes in two's complement. -/
def int2 (i : Int) : List Byte := byte2 (BitVec.ofInt 16 i).toNat

/-- R183: a thermistor reading. -/
def thermBytes : Therm → List Byte
  | .temp c => int2 c
  | .openCircuit => byte2 0x7FFE
  | .shorted => byte2 0x7FFF

/-! ### Codes of states (R182) -/

def ModemState.code : ModemState → Nat
  | .idle => 0 | .waitCarrier => 1 | .connected => 2 | .dropout => 3

def Role.code : Role → Nat
  | .originate => 0 | .answer => 1

def Sampler.code : Sampler → Nat
  | .hunting => 0 | .character _ _ => 1 | .breakWatch _ _ _ => 2 | .markWait => 3

/-- R38: a route as its designator value. -/
def Route.code : Route → Nat
  | .print => 0 | .store n => n | .printStore n => n + 32 | .discard => 64

def FlowState.code : FlowState → Nat
  | .running => 0 | .pauseSent => 1

def FlowCode.code : FlowCode → Nat
  | .pause => 0 | .resume => 1

/-- R183: a sink of a delivery record. -/
def Sink.code : Sink → Nat
  | .print => 0 | .store n => n

def KeyMode.code : KeyMode → Nat
  | .full => 0 | .half => 1 | .local_ => 2 | .compose => 3 | .relay => 4

/-- R182: the keyboard mode a byte names. -/
def KeyMode.ofByte (b : Byte) : Option KeyMode :=
  match b.toNat with
  | 0 => some .full | 1 => some .half | 2 => some .local_ | 3 => some .compose | 4 => some .relay
  | _ => none

def Claimant.code : Claimant → Nat
  | .line => 0 | .keys => 1 | .link => 2 | .reprint => 3

def EngineState.code : EngineState → Nat
  | .idle => 0 | .printing => 1 | .feeding => 2 | .paperOut => 3 | .powerHold => 4 | .hotHold => 5 | .halted => 6

def ElementResult.code : ElementResult → Nat
  | .opened => 0 | .pass => 1 | .short => 2

def StoreState.code : StoreState → Nat
  | .mounting => 0 | .ready => 1 | .absent => 2 | .unformatted => 3 | .formatting => 4

def DocState.code : DocState → Nat
  | .free => 0 | .taking => 1 | .composing => 2 | .closed => 3 | .sending => 4 | .reprinting => 5 | .deleting => 6

def Power.code : Power → Nat
  | .normal => 0 | .low => 1 | .critical => 2

def ResetCause.code : ResetCause → Nat
  | .powerOn => 0 | .brownout => 1 | .link => 2

def PortClaimant.code : PortClaimant → Nat
  | .take => 0 | .compose => 1 | .send => 2 | .reprint => 3 | .maintenance => 4 | .link => 5 | .patrol => 6 | .mount => 7

/-- Section 9.5: a status read, a block read or a block write. -/
def PortOp.code : PortOp → Nat
  | .statusRead => 0 | .read => 1 | .dataWrite _ => 2 | .releaseWrite => 2

def ComposePhase.code : ComposePhase → Nat
  | .idle => 0 | .loading => 1 | .composing => 2 | .ending => 3

def StoreOutcome.code : StoreOutcome → Nat
  | .ok => 0 | .absent => 1 | .unformatted => 2 | .formatted => 3

def ChannelOutcome.code : ChannelOutcome → Nat
  | .complete => 0 | .stopped => 1 | .lineLost => 2 | .storeFailed => 3

/-- R185. -/
def FaultKind.code : FaultKind → Nat
  | .headShutdown => 1 | .thermistor => 2 | .headDegraded => 3 | .storeWrite => 4 | .storeAbsent => 5

/-- R133: the flags of a document in a block's flags byte (R182 adds DAMAGED as 10h). -/
def DocFlags.code (f : DocFlags) : Nat :=
  (if f.incomplete then 2 else 0) + (if f.truncated then 4 else 0) + (if f.poisoned then 8 else 0)
    + (if f.damaged then 16 else 0)

/-- R38: the route of a designator value that names one. -/
def Route.ofValue (v : Nat) : Option Route :=
  if v = 0 then some .print
  else if v ≤ 31 then some (.store v)
  else if 33 ≤ v ∧ v ≤ 63 then some (.printStore (v - 32))
  else if v = 64 then some .discard
  else none

/-- The document a store route names (R38). -/
def Route.document : Route → Option Nat
  | .store n | .printStore n => some n
  | .print | .discard => none

/-- R50: the route includes print. -/
def Route.hasPrint : Route → Bool
  | .print | .printStore _ => true
  | .store _ | .discard => false

/-- R47: the sinks of a route. -/
def Route.sinks : Route → List Sink
  | .print => [.print]
  | .store n => [.store n]
  | .printStore n => [.print, .store n]
  | .discard => []

end Sys2Proof.Machine
end

