-- ==== Sys2Proof/Machine/Flags.lean ====
section
/-! DEFINITION. The event and fault flags that other blocks raise: recording an event in a report (R184 and the owners'
report rules) and recording a fault (R185).  Each is recorded after the change that causes it, so that the state fields of a
report read the state as it stands. -/

namespace Sys2Proof.Machine

/-! ### Event bits -/

/-- R14: the events of ModemChange, in the order of its list. -/
inductive ModemEvent where
  | connected | dropoutBegan | dropoutEnded | connectFailed | carrierLost | dropped
deriving DecidableEq, Repr

def ModemEvent.bit : ModemEvent → Nat
  | .connected => 0 | .dropoutBegan => 1 | .dropoutEnded => 2 | .connectFailed => 3 | .carrierLost => 4 | .dropped => 5

/-- R53: the events of LineEvent. -/
inductive LineEvent where
  | break_ | overrun | badDesignator | takeRefused
deriving DecidableEq, Repr

def LineEvent.bit : LineEvent → Nat
  | .break_ => 0 | .overrun => 1 | .badDesignator => 2 | .takeRefused => 3

/-- R121: the events of PrintChange, in the order of its table. -/
inductive PrintEvent where
  | paperOut | paperRestored | powerHeld | powerResumed | hot | cooled | halted | haltCleared | idle
deriving DecidableEq, Repr

def PrintEvent.bit : PrintEvent → Nat
  | .paperOut => 0 | .paperRestored => 1 | .powerHeld => 2 | .powerResumed => 3 | .hot => 4 | .cooled => 5
  | .halted => 6 | .haltCleared => 7 | .idle => 8

/-- R131: the events of HeadEvent. -/
inductive HeadEvent where
  | newMark | degraded | thermistor
deriving DecidableEq, Repr

def HeadEvent.bit : HeadEvent → Nat
  | .newMark => 0 | .degraded => 1 | .thermistor => 2

/-- The set that holds only bit `k`. -/
def bitSet (w k : Nat) : BitVec w := BitVec.twoPow w k

/-- A set of documents. -/
def docSet (ns : List Nat) : DocSet := ns.foldl (fun a n => a ||| bitSet 32 n) 0

/-! ### Recording -/

/-- R184: report kind 40h + k is enabled. -/
def reportEnabled (k : Nat) (s : State) : Bool := s.params.reportMask.getLsbD k

/-- R14. -/
def recordModem (e : ModemEvent) (s : State) : State :=
  if reportEnabled 1 s then
    let events := (s.reports.modem.map (·.events)).getD 0 ||| bitSet 8 e.bit
    s.setReports { s.reports with modem := some ⟨events, s.modem.state, s.modem.role, s.modem.level⟩ }
  else s

/-- R53: `refused` is the document of a take-refused event. -/
def recordLine (e : LineEvent) (refused : Option Nat) (s : State) : State :=
  if reportEnabled 2 s then
    let events := (s.reports.line.map (·.events)).getD 0 ||| bitSet 8 e.bit
    let doc := refused.getD ((s.reports.line.map (·.refused)).getD 0)
    s.setReports { s.reports with line := some ⟨events, s.disp.route, doc⟩ }
  else s

/-- R121: the events of one change; none records nothing. -/
def recordPrint (es : List PrintEvent) (s : State) : State :=
  if reportEnabled 3 s ∧ es ≠ [] then
    let events := es.foldl (fun a e => a ||| bitSet 16 e.bit) ((s.reports.print.map (·.events)).getD 0)
    s.setReports { s.reports with
      print := some ⟨events, s.engine.state, s.comp.output.length, s.comp.queue.length⟩ }
  else s

/-- R131: the count of block records that satisfy `p`. -/
def headCount (p : HeadRecord → Bool) (s : State) : Nat := (s.head.records.toList.filter p).length

/-- R131: `block` is the head block of NEW_MARK or DEGRADED. -/
def recordHead (e : HeadEvent) (block : Option Nat) (s : State) : State :=
  if reportEnabled 4 s then
    let events := (s.reports.head.map (·.events)).getD 0 ||| bitSet 8 e.bit
    let blocks := (s.reports.head.map (·.blocks)).getD 0 ||| (block.map (bitSet 8)).getD 0
    s.setReports { s.reports with
      head := some ⟨events, blocks, headCount (·.mark.isSome) s, headCount (·.degraded) s⟩ }
  else s

/-- R152: the documents recorded, whether damage is recorded with them, and the outcome of a mount or format that ends. -/
def recordStore (docs : List Nat) (damage : Bool) (outcome : Option StoreOutcome) (s : State) : State :=
  if reportEnabled 5 s then
    let old := s.reports.store
    s.setReports { s.reports with
      store := some {
        outcome := outcome.or (old.bind (·.outcome))
        documents := (old.map (·.documents)).getD 0 ||| docSet docs
        damage := damage || (old.map (·.damage)).getD false
        state := s.store.state
        free := s.store.free.length } }
  else s

/-- R167: the slots of ChannelDone. -/
inductive DoneChannel where
  | send | take | reprint | compose | maintenance
deriving DecidableEq, Repr

/-- R167: a recording overwrites the outcome and adds its documents. -/
def DoneSlot.record (o : ChannelOutcome) (docs : List Nat) (d : DoneSlot) : DoneSlot :=
  ⟨some o, d.documents ||| docSet docs⟩

/-- R167. -/
def recordDone (c : DoneChannel) (o : ChannelOutcome) (docs : List Nat) (s : State) : State :=
  if reportEnabled 6 s then
    let d := s.reports.done.getD {}
    let d' := match c with
      | .send => { d with send := d.send.record o docs }
      | .take => { d with take := d.take.record o docs }
      | .reprint => { d with reprint := d.reprint.record o docs }
      | .compose => { d with compose := d.compose.record o docs }
      | .maintenance => { d with maintenance := d.maintenance.record o docs }
    s.setReports { s.reports with done := some d' }
  else s

/-- R70: an event that joined the relay key queue, or a refusal. -/
def recordKeys (refused : Bool) (s : State) : State :=
  if reportEnabled 7 s then
    let old := (s.reports.keys.map (·.refused)).getD false
    s.setReports { s.reports with keys := some ⟨s.kbd.relay.length, old || refused⟩ }
  else s

/-- R174: a change of power state. -/
def recordPower (s : State) : State :=
  if reportEnabled 8 s then
    let entered := (s.reports.power.map (·.entered)).getD 0 ||| bitSet 8 s.supply.power.code
    s.setReports { s.reports with power := some ⟨entered, s.supply.power, s.supply.volts⟩ }
  else s

/-- R185: a fault joins the fault record; the first one is also an event of the Fault report. -/
def recordFault (k : FaultKind) (d : FaultDetail) (s : State) : State :=
  match s.faults with
  | some r => s.setFaults (some { r with kinds := r.kinds ||| bitSet 8 (k.code - 1) })
  | none =>
    let r : FaultRecord := ⟨k, d, bitSet 8 (k.code - 1)⟩
    let s := s.setFaults (some r)
    if reportEnabled 9 s then s.setReports { s.reports with fault := some r } else s

/-- R184: the reports a mask keeps: those of a kind whose bit is set, and Started. -/
def Reports.keep (mask : Half) (r : Reports) : Reports where
  started := r.started
  modem := if mask.getLsbD 1 then r.modem else none
  line := if mask.getLsbD 2 then r.line else none
  print := if mask.getLsbD 3 then r.print else none
  head := if mask.getLsbD 4 then r.head else none
  store := if mask.getLsbD 5 then r.store else none
  done := if mask.getLsbD 6 then r.done else none
  keys := if mask.getLsbD 7 then r.keys else none
  power := if mask.getLsbD 8 then r.power else none
  fault := if mask.getLsbD 9 then r.fault else none

end Sys2Proof.Machine
end

