-- ==== Sys2Proof/Machine/Ops.lean ====
section
/-! DEFINITION. The named operations every chapter builds on: the store memory (canonical list of bytes), the block layout and
its check (R133, R134), and the reset of the whole part (R172). -/

namespace Sys2Proof.Machine

/-! ### The store memory -/

/-- The number of bytes of the store memory, 512 blocks of 64 (section 9.1). -/
def memorySize : Nat := 32768

/-- What a byte that is not listed reads as: 00h (log entry 8). -/
def unlistedByte : Byte := 0

/-- The byte at an address. -/
def Memory.read (m : Memory) (a : Nat) : Byte :=
  match m with
  | [] => unlistedByte
  | (x, b) :: rest => if x = a then b else Memory.read rest a

/-- The memory with one byte written, in canonical form again. -/
def Memory.write (m : Memory) (a : Nat) (b : Byte) : Memory :=
  match m with
  | [] => if b = unlistedByte then [] else [(a, b)]
  | (x, c) :: rest =>
    if a < x then (if b = unlistedByte then (x, c) :: rest else (a, b) :: (x, c) :: rest)
    else if a = x then (if b = unlistedByte then rest else (a, b) :: rest)
    else (x, c) :: Memory.write rest a b

/-- The canonical form: addresses strictly rising, no entry equal to what an unlisted address reads as. -/
def Memory.wf : Memory → Bool
  | [] => true
  | (x, b) :: rest => b ≠ unlistedByte && rest.all (fun c => x < c.1) && Memory.wf rest

/-- Bytes written at consecutive addresses. -/
def Memory.writeBytes (m : Memory) (a : Nat) : List Byte → Memory
  | [] => m
  | b :: bs => Memory.writeBytes (Memory.write m a b) (a + 1) bs

/-- The 64 bytes of a block (section 9.1). -/
def blockBytes (m : Memory) (block : Nat) : List Byte :=
  (List.range 64).map fun i => Memory.read m (64 * block + i)

/-- The bytes of an image as 64 bytes, 00h where it has none. -/
def sized (image : List Byte) : List Byte := (List.range 64).map fun i => image.getD i 0

/-- The part's memory with one block written. -/
def writeBlock (block : Nat) (image : List Byte) (s : State) : State :=
  s.setMem (Memory.writeBytes s.mem (64 * block) (sized image))

/-- The part's memory with one block in an unknown state (R144, R145). -/
def spoilBlock (block : Nat) (s : State) : State :=
  (writeBlock block ((List.range 64).map (Config.unknownByte s.draws)) s).setDraws (s.draws + 1)

/-! ### Block layout -/

/-- R133: one bit of the check, most significant first. -/
def crcBit (crc : Half) : Half :=
  if crc.getLsbD 15 then (crc <<< 1) ^^^ 0x1021 else crc <<< 1

/-- R133: one byte enters the check. -/
def crcByte (crc : Half) (b : Byte) : Half :=
  (List.range 8).foldl (fun c _ => crcBit c) (crc ^^^ (b.setWidth 16 <<< 8))

/-- R133: the check of some bytes: generator x^16 + x^12 + x^5 + 1, register starting at FFFFh, no inversion. -/
def crc (bytes : List Byte) : Half := bytes.foldl crcByte 0xFFFF

/-- A block's 64 bytes: 62 bytes and their check, high byte first (R133). -/
def withCheck (body : List Byte) : List Byte :=
  let body := (List.range 62).map fun i => body.getD i 0
  body ++ halfBytes (crc body)

/-- R133: the block passes its check. -/
def passesCheck (bytes : List Byte) : Bool :=
  halfBytes (crc ((List.range 62).map fun i => bytes.getD i 0)) = [bytes.getD 62 0, bytes.getD 63 0]

/-- R134: the label. -/
def labelImage : List Byte := withCheck [0x52, 0x5A, 0x53, 0x31]

/-- R134: a free block. -/
def freeImage : List Byte := withCheck []

/-- R133: a data block. -/
def dataImage (w : DataWrite) : List Byte :=
  withCheck ([BitVec.ofNat 8 w.document, BitVec.ofNat 8 w.seq, BitVec.ofNat 8 w.chars.length, w.flags] ++ w.chars)

/-- R133: the flag LAST. -/
def lastFlag : Byte := 0x01

/-- R133: a flags byte carries LAST. -/
def isLast (flags : Byte) : Bool := flags.getLsbD 0

/-- R133: the document flags of a block that carries LAST. -/
def flagsOfByte (b : Byte) : DocFlags where
  incomplete := b.getLsbD 1
  truncated := b.getLsbD 2
  poisoned := b.getLsbD 3
  damaged := false

/-- R133: the flags byte of a document's final block. -/
def finalFlags (f : DocFlags) : Byte := lastFlag ||| BitVec.ofNat 8 { f with damaged := false }.code

/-! ### Reset -/

/-- R145: a block write in flight leaves its block in an unknown state. -/
def abandonWrite (s : State) : State :=
  match s.store.inFlight with
  | some ⟨_, .dataWrite _, b, _, _⟩ => spoilBlock b s
  | some ⟨_, .releaseWrite, b, _, _⟩ => spoilBlock b s
  | _ => s

/-- R172: a reset takes hold.  Every block takes the reset values of its chapter and the part is held until a measurement
releases it; the store memory keeps its contents, apart from a block being written (R145).  The latest measurements
stay until the next ones replace them (R169). -/
def resetPart (cause : ResetCause) (s : State) : State :=
  let s := abandonWrite s
  { held := some cause, supply := s.supply, mem := s.mem, draws := s.draws, pending := s.pending }

/-! ### Power state (R170) -/

/-- R170: the power state after a measurement of `v`. -/
def nextPower (p : Power) (low critical v : Nat) : Power :=
  match p with
  | .normal => if v < critical then .critical else if v < low then .low else .normal
  | .low => if v < critical then .critical else if low + 200 ≤ v then .normal else .low
  | .critical => if low + 200 ≤ v then .normal else if critical + 200 ≤ v then .low else .critical

/-- R170, R174: a measurement acts on the power state; a change is recorded. -/
def judgePower (v : Nat) (s : State) : State :=
  let s := s.setSupply { s.supply with volts := v }
  let p := nextPower s.supply.power s.params.lowThreshold s.params.criticalThreshold v
  if p = s.supply.power then s else recordPower (s.setSupply { s.supply with power := p })

/-- R169: what the converter reads for a voltage: at most 12 000 mV. -/
def measured (v : Nat) : Nat := min v 12000

/-- R171: the brownout level. -/
def brownoutLevel : Nat := 5000

/-- R171: the level that releases the reset. -/
def releaseLevel : Nat := 5200

end Sys2Proof.Machine
end

