-- ==== Sys2Proof/Machine/Directory.lean ====
section
/-! DEFINITION. The directory, the block sets and the sector records of the Store controller (section 9.4). -/

namespace Sys2Proof.Machine

/-- R139: the document's state becomes that of a new holder. -/
def holdDoc (n : Nat) (st : DocState) (s : State) : State :=
  setDirEntry n { dirEntry s n with state := st } s

/-- R139: the document returns to CLOSED from its holder with its flags changed by `f`; pending damage is applied, and the
number is recorded (R152). -/
def closeDoc (n : Nat) (f : DocFlags → DocFlags) (s : State) : State :=
  let e := dirEntry s n
  let flags := f e.flags
  let e' := { e with
    state := .closed, pendingDamage := false
    flags := { flags with damaged := flags.damaged || e.pendingDamage } }
  recordStore [n] false none (setDirEntry n e' s)

/-- R147, R155: a block of the document failed: DAMAGED at once when it is CLOSED, pending damage while it is held; the number
and the damage are recorded (R152). -/
def damageDoc (n : Nat) (s : State) : State :=
  let e := dirEntry s n
  let e' := if e.state = .closed then { e with flags := { e.flags with damaged := true } }
    else { e with pendingDamage := true }
  recordStore [n] true none (setDirEntry n e' s)

/-- R148: a deleted document becomes FREE, or TAKING for TAKE: no flags stay (log entry 20), pending damage clears without
effect, and the number is recorded. -/
def emptiedDoc (n : Nat) (st : DocState) (s : State) : State :=
  recordStore [n] false none
    (setDirEntry n { dirEntry s n with state := st, flags := {}, pendingDamage := false } s)

/-- R140: the block leaves the strays of every document. -/
def dropStray (b : Nat) (s : State) : State :=
  s.setStore { s.store with dir := s.store.dir.map fun e => { e with strays := without b e.strays } }

/-- The block leaves every document's block list. -/
def dropListed (b : Nat) (s : State) : State :=
  s.setStore { s.store with dir := s.store.dir.map fun e => { e with blocks := dropRef b e.blocks } }

/-- R140: a block joins the free set. -/
def joinFree (b : Nat) (s : State) : State :=
  s.setStore { s.store with free := insertAsc b s.store.free }

/-- R140: a block leaves the free set. -/
def leaveFree (b : Nat) (s : State) : State :=
  s.setStore { s.store with free := without b s.store.free }

/-- R144: a block that failed verification leaves the free set or its document's list and joins the bad set. -/
def joinBad (b : Nat) (s : State) : State :=
  let s := leaveFree b (dropListed b (dropStray b s))
  s.setStore { s.store with bad := insertAsc b s.store.bad }

/-- R144: a block joins the list of a document at its sequence. -/
def joinList (n : Nat) (r : BlockRef) (s : State) : State :=
  let s := leaveFree r.block s
  let e := dirEntry s n
  setDirEntry n { e with blocks := insertRef r e.blocks } s

/-- R141: a block's sector is retired. -/
def isRetired (s : State) (b : Nat) : Bool := (nth s.store.sectors (sectorOf b) {}).retired

/-- R140: the block an allocation takes: the lowest free index in a sector that is not retired, or else the lowest
free index. -/
def allocate (s : State) : Option Nat :=
  (s.store.free.find? fun b => !isRetired s b).or s.store.free.head?

/-- R141: trouble in a block's sector. -/
def countSector (b : Nat) (s : State) : State :=
  let k := nth s.store.sectors (sectorOf b) {}
  let count := min (k.count + 1) s.params.sectorThreshold
  let k' : Sector := { count := count, retired := k.retired || s.params.sectorThreshold ≤ count, eventThisPass := true }
  s.setStore { s.store with sectors := put s.store.sectors (sectorOf b) k' }

/-- R141: the end of a full patrol pass acts on a sector record. -/
def Sector.endPass (k : Sector) : Sector :=
  { k with count := if k.eventThisPass then k.count else k.count - 1, eventThisPass := false }

/-- R141: a new threshold acts on a sector record. -/
def Sector.withThreshold (t : Nat) (k : Sector) : Sector :=
  { k with count := min k.count t, retired := k.retired || t ≤ k.count }

/-- R136, R149: a directory with nothing in it and every data block outside the bad set in the free set. -/
def emptyDirectory (s : State) : State :=
  s.setStore { s.store with
    dir := Vector.replicate 31 {}
    free := (List.range' 1 511).filter fun b => !s.store.bad.contains b }

/-- R136: a mount begins. -/
def beginMount (s : State) : State :=
  let s := emptyDirectory s
  s.setStore { s.store with state := .mounting, mountNext := none, patrolPos := 0, patrolTimer := .stopped }

/-- R146: the store state becomes READY and the patrol timer starts from zero. -/
def enterReady (s : State) : State :=
  s.setStore { s.store with
    state := .ready
    patrolTimer := if s.params.patrolInterval = 0 then .stopped else .running s.params.patrolInterval }

/-- R149, R150: a patrol read that is waiting is withdrawn; one in flight completes. -/
def withdrawPatrol (s : State) : State :=
  match s.store.inFlight with
  | some ⟨.patrol, _, _, _, _⟩ => s
  | _ => s.setStore { s.store with patrolRead := none }

/-- R145: the claimant of a read in flight stops, so its bytes are discarded. -/
def discardRead (c : PortClaimant) (s : State) : State :=
  match s.store.inFlight with
  | some f => if f.claimant = c then s.setStore { s.store with inFlight := some { f with discarded := true } } else s
  | none => s

end Sys2Proof.Machine
end

