-- ==== Sys2Proof/Machine/TakeOps.lean ====
section
/-! DEFINITION. TAKE's own operations (section 10.4): the claim, the buffers, the end of a document. -/

namespace Sys2Proof.Machine

/-- The capacity of a block in characters (R133). -/
def blockFill : Nat := 58

/-- The highest sequence of a document (R133). -/
def lastSeq : Nat := 63

/-- TAKE's current or awaited document. -/
def TakeChannel.held (t : TakeChannel) : Option TakeDoc := t.docs.find? fun d => !d.closing

/-- TAKE's current document: held, and not awaiting its delete job. -/
def TakeChannel.current (t : TakeChannel) : Option Nat :=
  (t.held.filter fun d => !d.deleting).map (·.document)

/-- TAKE's awaited document. -/
def TakeChannel.awaited (t : TakeChannel) : Option Nat :=
  (t.held.filter fun d => d.deleting).map (·.document)

/-- TAKE's closing documents. -/
def TakeChannel.closing (t : TakeChannel) : List Nat := (t.docs.filter (·.closing)).map (·.document)

/-- The record of a document TAKE holds, changed by `f`. -/
def TakeChannel.modify (t : TakeChannel) (n : Nat) (f : TakeDoc → TakeDoc) : TakeChannel :=
  { t with docs := t.docs.map fun d => if d.document = n then f d else d }

/-- A buffer is FILLING for a document and takes its characters: not FULL and not its final block. -/
def TakeBuf.isFillingFor (n : Nat) (b : TakeBuf) : Bool := b.document = n && !b.full && !b.final

/-- R161: the document has a FILLING buffer. -/
def TakeChannel.hasFilling (t : TakeChannel) (n : Nat) : Bool :=
  (t.bufA.any (·.isFillingFor n)) || (t.bufB.any (·.isFillingFor n))

/-- R161, R162: what a buffer that is FREE comes to hold: the final block of the closing document held first whose final
block awaits one, or else the next sequence of the current or awaited document that has no FILLING buffer. -/
def TakeChannel.nextUse (t : TakeChannel) : Option TakeBuf :=
  match t.docs.find? (·.finalAwaits) with
  | some d => some ⟨d.document, d.nextSeq, [], false, true⟩
  | none =>
    match t.held with
    | some d => if t.hasFilling d.document then none else some ⟨d.document, d.nextSeq, [], false, false⟩
    | none => none

/-- The document of a buffer newly in use: its next sequence advances and its final block no longer waits. -/
def TakeChannel.used (t : TakeChannel) (b : TakeBuf) : TakeChannel :=
  t.modify b.document fun d =>
    { d with nextSeq := b.seq + 1, finalAwaits := if b.final then false else d.finalAwaits }

/-- R161, R162: each FREE buffer is put to its next use, A before B. -/
def TakeChannel.assign (t : TakeChannel) : TakeChannel :=
  let t := if t.bufA.isSome then t else
    match t.nextUse with
    | some b => { t.used b with bufA := some b }
    | none => t
  if t.bufB.isSome then t else
    match t.nextUse with
    | some b => { t.used b with bufB := some b }
    | none => t

/-- R160: TAKE refuses a claim of document `n`. -/
def takeRefuses (n : Nat) (s : State) : Bool :=
  s.store.state ≠ .ready || s.take.held.isSome || 2 ≤ s.take.closing.length || s.store.free = [] ||
    match (dirEntry s n).state with
    | .free => false
    | .closed => !s.params.takeReplaces || s.store.jobs.any (·.forTake)
    | _ => true

/-- R160: TAKE accepts the claim of document `n`. -/
def takeAccept (n : Nat) (s : State) : State :=
  let replaces := (dirEntry s n).state = .closed
  let s := holdDoc n (if replaces then .deleting else .taking) s
  let s := if replaces then s.setStore { s.store with jobs := s.store.jobs ++ [⟨n, true⟩] } else s
  s.setTake ({ s.take with docs := s.take.docs ++ [{ document := n, deleting := replaces }] } : TakeChannel).assign

/-- R162: what the FILLING buffer of an ended document becomes. -/
def TakeBuf.endFor (n : Nat) (b : TakeBuf) : TakeBuf :=
  if b.isFillingFor n then { b with final := true } else b

/-- R162: TAKE ends its current or awaited document: it becomes closing with this outcome and, when `incomplete`, with
INCOMPLETE in its flag record; its FILLING buffer is its final block, or else an empty block that awaits a buffer. -/
def takeEnd (incomplete : Bool) (outcome : ChannelOutcome) (s : State) : State :=
  match s.take.held with
  | none => s
  | some d =>
    let awaits := !s.take.hasFilling d.document
    let t := s.take.modify d.document fun d =>
      { d with closing := true, incomplete := d.incomplete || incomplete, outcome := outcome, finalAwaits := awaits }
    let t := { t with bufA := t.bufA.map (TakeBuf.endFor d.document), bufB := t.bufB.map (TakeBuf.endFor d.document) }
    s.setTake t.assign

/-- R161: TAKE's answer to a text head. -/
inductive TakeAnswer where
  | takes
  | waits
  | overflows
deriving DecidableEq, Repr

/-- The FILLING buffer of a document. -/
def TakeChannel.filling (t : TakeChannel) (n : Nat) : Option TakeBuf :=
  (t.bufA.filter (·.isFillingFor n)).or (t.bufB.filter (·.isFillingFor n))

/-- R161: TAKE's answer to a text head offered for document `n`. -/
def takeAnswer (n : Nat) (s : State) : TakeAnswer :=
  if (s.take.held.map (·.document)) = some n then
    match s.take.filling n with
    | some b => if b.chars.length < blockFill then .takes else if b.seq = lastSeq then .overflows else .waits
    | none => .waits
  else .waits

/-- R161: a character joins a buffer, which becomes FULL at 58 characters below sequence 63. -/
def TakeBuf.push (c : Byte) (b : TakeBuf) : TakeBuf :=
  let chars := b.chars ++ [c]
  { b with chars := chars, full := chars.length = blockFill && b.seq < lastSeq }

/-- R161: TAKE takes a text head for document `n`. -/
def takeHead (n : Nat) (e : Entry) (s : State) : State :=
  let c := storeByte e.code e.poisoned
  let t := s.take.modify n fun d => { d with poisoned := d.poisoned || e.poisoned }
  let t := if t.bufA.any (·.isFillingFor n) then { t with bufA := t.bufA.map (TakeBuf.push c) }
    else { t with bufB := t.bufB.map (TakeBuf.push c) }
  s.setTake t.assign

/-- R161: the documents' order, then the sequences, decide which write TAKE asks next; a document whose delete job runs asks
none.  That it is passed over, so that a document held later may write first, is the model's choice (log entry 47). -/
def TakeChannel.nextWrite (t : TakeChannel) : Option TakeWrite :=
  let ready (n : Nat) : List TakeBuf :=
    (t.bufA.toList ++ t.bufB.toList).filter fun b => b.document = n && (b.full || b.final)
  (t.docs.filter fun d => !d.deleting).findSome? fun d =>
    match ready d.document with
    | [] => none
    | [b] => some { document := b.document, seq := b.seq }
    | b :: c :: _ => some { document := b.document, seq := min b.seq c.seq }

/-- R161: TAKE puts its FREE buffers to use and asks a write when none is asked. -/
def takeSettle (s : State) : State :=
  let t := s.take.assign
  s.setTake { t with write := t.write.or t.nextWrite }

/-- The buffer of a document at a sequence. -/
def TakeChannel.bufferAt (t : TakeChannel) (n seq : Nat) : Option TakeBuf :=
  (t.bufA.toList ++ t.bufB.toList).find? fun b => b.document = n && b.seq = seq

/-- The flag record of a document as document flags. -/
def TakeDoc.flags (d : TakeDoc) : DocFlags :=
  { incomplete := d.incomplete, truncated := d.truncated, poisoned := d.poisoned }

/-- R161, R162: the data write TAKE has asked. -/
def takeDataWrite (s : State) : Option DataWrite :=
  s.take.write.bind fun w =>
    (s.take.bufferAt w.document w.seq).map fun b =>
      let flags := match s.take.docs.find? (·.document = w.document) with
        | some d => if b.final then finalFlags d.flags else 0
        | none => 0
      { document := w.document, seq := w.seq, flags := flags, chars := b.chars, failed := w.failed }

/-- The buffers of a document become FREE when `p` holds of them. -/
def TakeChannel.freeBufs (t : TakeChannel) (p : TakeBuf → Bool) : TakeChannel :=
  { t with bufA := t.bufA.filter (fun b => !p b), bufB := t.bufB.filter (fun b => !p b) }

/-- R162, R163: TAKE holds a document no longer: it is CLOSED, or its write or delete has failed; its buffers are FREE and the
writes not yet made are dropped. -/
def takeForget (n : Nat) (s : State) : State :=
  let t := s.take.freeBufs (fun b => b.document = n)
  let write := t.write.filter fun w => w.document ≠ n
  s.setTake { t with docs := t.docs.filter (·.document ≠ n), write := write }

/-- R161, R162: TAKE's write completes DONE: its buffer becomes FREE, and after a final block the document becomes CLOSED with
the flags of its flag record. -/
def takeWriteDone (w : DataWrite) (s : State) : State :=
  let t := { s.take.freeBufs (fun b => b.document = w.document && b.seq = w.seq) with write := none }
  if isLast w.flags then
    match t.docs.find? (·.document = w.document) with
    | some d =>
      recordDone .take d.outcome [d.document]
        (closeDoc d.document (fun _ => d.flags) (takeForget d.document (s.setTake t)))
    | none => s.setTake t
  else s.setTake t

end Sys2Proof.Machine
end

