-- ==== Sys2Proof/Machine/LineOps.lean ====
section
/-! DEFINITION. The shared operations of the line side: the receive FIFO and overrun, flow control, routes and delivery of text
heads, breaks and the transmitter's stages, and what a change of modem state does (chapters 1 to 3). -/

namespace Sys2Proof.Machine

/-- R25: the receive FIFO's capacity. -/
def rxCapacity : Nat := 16

/-! ### Flow control (R50, R51) -/

/-- R50: the pause condition. -/
def pauseCondition (s : State) : Bool :=
  12 ≤ s.framer.rxFifo.length || (s.disp.route.hasPrint && s.params.highWater ≤ s.comp.queue.length)

/-- R50: the resume condition. -/
def resumeCondition (s : State) : Bool :=
  s.framer.rxFifo.length ≤ 4 && (!s.disp.route.hasPrint || s.comp.queue.length ≤ s.params.lowWater)

/-- R50, R51: the conditions are judged and act on the flow state and the pending flow code. -/
def judgeFlow (s : State) : State :=
  if connected s && s.params.flowControl then
    match s.disp.flow, s.disp.pendingFlow with
    | .running, none =>
      if pauseCondition s then s.setDisp { s.disp with flow := .pauseSent, pendingFlow := some .pause } else s
    | .running, some .resume =>
      if pauseCondition s then s.setDisp { s.disp with flow := .pauseSent, pendingFlow := none } else s
    | .pauseSent, none =>
      if resumeCondition s then s.setDisp { s.disp with flow := .running, pendingFlow := some .resume } else s
    | .pauseSent, some .pause =>
      if resumeCondition s then s.setDisp { s.disp with flow := .running, pendingFlow := none } else s
    | .running, some .pause => s
    | .pauseSent, some .resume => s
  else s

/-! ### The receive FIFO (R25 to R27) -/

/-- R27: the placeholder for the characters lost to an overrun. -/
def gapEntry : Entry := ⟨0x1A, false, true, true⟩

/-- R25, R26: the Framer places an entry, or discards it in overrun. -/
def placeEntry (e : Entry) (s : State) : State :=
  if s.framer.overrun then s
  else if rxCapacity ≤ s.framer.rxFifo.length then s.setFramer { s.framer with overrun := true }
  else judgeFlow (s.setFramer { s.framer with rxFifo := s.framer.rxFifo ++ [e] })

/-- R27: a removal that leaves 12 entries or fewer ends an overrun. -/
def recoverOverrun (s : State) : State :=
  if s.framer.overrun && s.framer.rxFifo.length ≤ 12 then
    recordLine .overrun none
      (s.setFramer { s.framer with rxFifo := s.framer.rxFifo ++ [gapEntry], overrun := false })
  else s

/-- R25, R37, R47: the Dispatcher removes the head; the delivery record is empty for the next one. -/
def removeHead (s : State) : State :=
  let s := s.setFramer { s.framer with rxFifo := s.framer.rxFifo.tail }
  let s := s.setDisp { s.disp with headExamined := false, record := [] }
  judgeFlow (recoverOverrun s)

/-! ### Routes and delivery -/

/-- The route becomes `r`; the flow conditions are judged (R50). -/
def setRoute (r : Route) (s : State) : State :=
  judgeFlow (s.setDisp { s.disp with route := r })

/-- R47: a sink joins the delivery record. -/
def joinRecord (k : Sink) (s : State) : State :=
  s.setDisp { s.disp with record := s.disp.record ++ [k] }

/-- R47: every sink of the route has taken the head. -/
def delivered (s : State) : Bool := s.disp.route.sinks.all fun k => s.disp.record.contains k

/-- R47, R48: a text head that every sink of the route has taken is removed. -/
def finishHead (s : State) : State :=
  if s.disp.headExamined && delivered s then removeHead s else s

/-- R161: an overflow ends the document as a designator would, with TRUNCATED, and TAKE's notice makes the route print (R41). -/
def takeOverflow (n : Nat) (s : State) : State :=
  let s := s.setTake (s.take.modify n fun d => { d with truncated := true })
  setRoute .print (takeEnd false .complete s)

/-- R47, R161: the waiting text head is offered to TAKE. -/
def offerTake (s : State) : State :=
  match s.framer.rxFifo, s.disp.route.document with
  | e :: _, some n =>
    if s.disp.headExamined && !s.disp.record.contains (.store n) then
      match takeAnswer n s with
      | .takes => joinRecord (.store n) (takeHead n e s)
      | .overflows => takeOverflow n s
      | .waits => s
    else s
  | _, _ => s

/-- R47, R48: the waiting text head is offered to the sinks of the route that can take it at once, and is removed when all
have it. -/
def offerHead (s : State) : State := finishHead (offerTake s)

/-- R41: TAKE's notice: it has given up its document, and the route becomes print. -/
def takeNotice (s : State) : State := offerHead (setRoute .print s)

/-- R40, first part: TAKE's hold on the document of the route in force ends on a route reset, and when the new route names a
different document or none. -/
def endRouteHold (new : Route) (isReset : Bool) (s : State) : State :=
  match s.disp.route.document with
  | some n =>
    if isReset || new.document ≠ some n then
      if (s.take.held.map (·.document)) = some n then
        if isReset then takeEnd true .lineLost s else takeEnd false .complete s
      else s
    else s
  | none => s

/-- R40, R41: the route becomes print and take-refused is recorded. -/
def refuseRoute (n : Nat) (s : State) : State :=
  recordLine .takeRefused (some n) (setRoute .print s)

/-- R40, R42: the new route takes effect, with a claim when it names a document that TAKE does not already hold.  While the
modem is not connected no claim is asked: the route becomes print, with take-refused recorded for a designator. -/
def enterRoute (new : Route) (isReset : Bool) (s : State) : State :=
  match new.document with
  | none => setRoute new s
  | some n =>
    if !connected s then
      if isReset then setRoute .print s else refuseRoute n s
    else if (s.take.held.map (·.document)) = some n then setRoute new s
    else if takeRefuses n s then refuseRoute n s
    else setRoute new (takeAccept n s)

/-- R40, R48: the route is changed, and a text head that waits meets the new route. -/
def changeRoute (new : Route) (isReset : Bool) (s : State) : State :=
  offerHead (enterRoute new isReset (endRouteHold new isReset s))

/-- R42: the route returns to the default route. -/
def resetRoute (s : State) : State :=
  changeRoute ((Route.ofValue s.params.defaultRoute).getD .print) true s

/-- R38: a designator that is not poisoned, of value `v`.  It has left the FIFO when the route changes: what its removal does, the
recovery from an overrun and its LineEvent and a flow judgement, is done under the old route (log entry 40). -/
def designate (v : Nat) (s : State) : State :=
  match Route.ofValue v with
  | some r => if r = s.disp.route then s else changeRoute r false s
  | none =>
    recordLine .badDesignator none
      (if s.disp.route = .print then s else changeRoute .print false s)

/-- R37: the classes of a FIFO head. -/
inductive HeadClass where
  | designator
  | flowCode (c : FlowCode)
  | enquiry
  | text
deriving DecidableEq, Repr

/-- R37: the tests in their order. -/
def classify (e : Entry) (s : State) : HeadClass :=
  if e.routeBit then .designator
  else if s.params.flowControl && !e.poisoned && e.code = s.params.pauseCode then .flowCode .pause
  else if s.params.flowControl && !e.poisoned && e.code = s.params.resumeCode then .flowCode .resume
  else if e.code = 0x05 && !e.poisoned && s.disp.answerback ≠ [] then .enquiry
  else .text

/-- R44: an enquiry starts the answerback when the part is connected and none is in progress. -/
def enquire (s : State) : State :=
  if connected s && s.disp.progress = none then s.setDisp { s.disp with progress := some 0 } else s

/-- R37: the Dispatcher examines the head of the receive FIFO. -/
def examineHead (s : State) : State :=
  match s.framer.rxFifo with
  | [] => s
  | e :: _ =>
    if s.disp.headExamined then s
    else match classify e s with
    | .designator =>
      if e.poisoned then recordLine .badDesignator none (removeHead s)
      else designate e.code.toNat (removeHead s)
    | .flowCode .pause => removeHead (s.setDisp { s.disp with remotePause := true })
    | .flowCode .resume => removeHead (s.setDisp { s.disp with remotePause := false })
    | .enquiry => removeHead (enquire s)
    | .text => offerHead (s.setDisp { s.disp with headExamined := true })

/-! ### The transmitter (R28 to R34) -/

/-- R28: the transmitter runs. -/
def transmitting (s : State) : Bool := connected s

/-- R31: a character enters the shift stage and its line states begin. -/
def startShift (c : Code) (s : State) : State :=
  s.setFramer { s.framer with shift := some ⟨c, lineStates s.params.format c⟩ }

/-- R29: the empty shift stage takes the character of the holding stage, if there is one. -/
def fillShift (s : State) : State :=
  match s.framer.holding with
  | some c => startShift c (s.setFramer { s.framer with holding := none })
  | none => s.setFramer { s.framer with shift := none }

/-- R33: a break begins. -/
def beginBreak (s : State) : State :=
  s.setFramer { s.framer with
    brk := if s.framer.shift.isSome then .wait else .space s.params.breakLength }

/-- R33: a break asked for by the BREAK key or by SendBreak, when the transmitter runs and no break is in progress. -/
def askBreak (s : State) : State :=
  if transmitting s && s.framer.brk = .none then beginBreak s else s

/-- R28: both stages empty, no break in progress, the line state mark. -/
def clearTransmitter (s : State) : State :=
  s.setFramer { s.framer with shift := none, holding := none, brk := .none }

/-! ### Changes of modem state -/

/-- R43, R52: what a connection that begins or ends leaves of flow control. -/
def resetFlow (s : State) : State :=
  s.setDisp { s.disp with flow := .running, pendingFlow := none, remotePause := false }

/-- R16, R22, R23: the Modem's state changes; the sampler follows it. -/
def modemBecomes (m : Modem) (s : State) : State :=
  (s.setModem m).setFramer { s.framer with sampler := s.framer.sampler.follow m.state }

/-- R8, R10, R11, R15: the Modem enters IDLE: timers stopped, receiver off, role absent. -/
def modemIdle (s : State) : State := modemBecomes {} s

/-- R158: SEND ends both its documents with this outcome. -/
def endSend (o : ChannelOutcome) (s : State) : State :=
  match s.send.current with
  | none => s
  | some d =>
    let docs := d :: s.send.staged.toList
    let s := discardRead .send s
    let s := s.setSend {}
    let s := docs.foldl (fun s n => closeDoc n id s) s
    recordDone .send o docs s

/-- R28, R35, R42, R45, R52, R158: what the other blocks do when the modem state becomes IDLE from CONNECTED or DROPOUT. -/
def leaveConnection (s : State) : State :=
  let s := clearTransmitter s
  let s := s.setKbd { s.kbd with txFifo := [] }
  let s := s.setDisp { s.disp with progress := none }
  let s := endSend .lineLost s
  resetRoute (resetFlow s)

/-- R8, R10, R11: the Modem enters IDLE from any other state with this event; a connection that ends reaches the other
blocks. -/
def enterIdle (e : ModemEvent) (s : State) : State :=
  let was := connected s
  let s := recordModem e (modemIdle s)
  if was then leaveConnection s else s

end Sys2Proof.Machine
end

