-- ==== Sys2Proof/Machine/Reader.lean ====
section
/-! DEFINITION. Reading a document: the two block buffers of SEND and REPRINT (section 10.1), and what each channel has ready
and completes (R157, R159). -/

namespace Sys2Proof.Machine

/-- R154: the sequence of a loaded buffer. -/
def ReadBuf.loadedSeq : ReadBuf → Option Nat
  | .loaded q _ _ => some q
  | _ => none

/-- R154: the buffer is FREE. -/
def ReadBuf.isFree : ReadBuf → Bool
  | .free => true
  | _ => false

/-- R154: the sequence a READING buffer waits for. -/
def ReadBuf.readingSeq : ReadBuf → Option Nat
  | .reading q => some q
  | _ => none

/-- R154: the sequence of the read the channel has asked, waiting or in flight. -/
def Reader.reading (r : Reader) : Option Nat := r.bufA.readingSeq.or r.bufB.readingSeq

/-- R154: buffer A is the LOADED buffer of lowest sequence. -/
def Reader.firstIsA (r : Reader) : Bool :=
  match r.bufA.loadedSeq, r.bufB.loadedSeq with
  | some a, some b => a ≤ b
  | some _, none => true
  | none, _ => false

/-- R154: the LOADED buffer of lowest sequence. -/
def Reader.front (r : Reader) : ReadBuf := if r.firstIsA then r.bufA else
  if r.bufB.loadedSeq.isSome then r.bufB else .free

/-- The reader with another buffer in place of the front one. -/
def Reader.setFront (r : Reader) (b : ReadBuf) : Reader :=
  if r.firstIsA then { r with bufA := b } else { r with bufB := b }

/-- R154: a front buffer with no character left becomes FREE. -/
def Reader.drain (r : Reader) : Reader :=
  match r.front with
  | .loaded _ _ [] => r.setFront .free
  | _ => r

/-- R154: with a FREE buffer, no read asked and a block unasked, the unasked block of lowest sequence is asked.  Of two FREE
buffers, A becomes READING: the model's choice (log entry 43). -/
def Reader.ask (blocks : List BlockRef) (r : Reader) : Reader :=
  if r.reading.isSome then r
  else match blocks[r.asked]? with
  | none => r
  | some b =>
    if r.bufA.isFree then { r with bufA := .reading b.seq, asked := r.asked + 1 }
    else if r.bufB.isFree then { r with bufB := .reading b.seq, asked := r.asked + 1 }
    else r

/-- R154: empty front buffers are freed, both if need be, and the next read is asked. -/
def Reader.settle (blocks : List BlockRef) (r : Reader) : Reader := r.drain.drain.ask blocks

/-- R154: the next item to be taken. -/
def Reader.next (r : Reader) : Option Item :=
  match r.front with
  | .loaded _ _ (i :: _) => some i
  | _ => none

/-- R154: the next item is taken. -/
def Reader.take (r : Reader) : Reader :=
  match r.front with
  | .loaded q f (_ :: rest) => (r.setFront (.loaded q f rest)).drain
  | _ => r

/-- R154: every block has been read and every buffer is FREE. -/
def Reader.exhausted (blocks : List BlockRef) (r : Reader) : Bool :=
  blocks.length ≤ r.asked && r.bufA.isFree && r.bufB.isFree

/-- R155: a completed read loads the buffer that waits for it. -/
def Reader.load (seq fill : Nat) (items : List Item) (r : Reader) : Reader :=
  if r.bufA.readingSeq = some seq then { r with bufA := .loaded seq fill items }
  else if r.bufB.readingSeq = some seq then { r with bufB := .loaded seq fill items }
  else r

/-- R155: the items of a block that was read: its characters up to its fill, or the lost-block mark. -/
def itemsOf (pass : Bool) (bytes : List Byte) : List Item :=
  if pass then
    ((bytes.drop 4).take (min (bytes.getD 2 0).toNat blockFill)).map fun b => .char (byteCode b) (bytePoisoned b)
  else [.lost]

/-- R155: what SEND offers the Framer for an item. -/
def Item.lineCode : Item → Code
  | .char c false => c
  | .char _ true => 0x1A
  | .lost => 0x1A

/-- R155: what REPRINT deposits for an item. -/
def Item.printEntry : Item → PrintEntry
  | .char c p => ⟨c, p, false, .reprint⟩
  | .lost => ⟨0x1A, true, true, .reprint⟩

/-! ### SEND (R157) -/

/-- The block list of SEND's current document. -/
def sendBlocks (s : State) : List BlockRef :=
  match s.send.current with
  | some d => (dirEntry s d).blocks
  | none => []

/-- R157: SEND's character for the Framer: the next item, or the end code after exhaustion. -/
def sendOffer (s : State) : Option Code :=
  match s.send.current with
  | none => none
  | some _ =>
    match s.send.reader.next with
    | some i => some i.lineCode
    | none => s.send.endCode

/-- R157: SEND's current document is complete; a staged one becomes current. -/
def sendComplete (s : State) : State :=
  match s.send.current with
  | none => s
  | some d =>
    let s := closeDoc d id s
    let s := recordDone .send .complete [d] s
    s.setSend { current := s.send.staged }

/-- R154, R157: one turn of SEND: buffers freed and reads asked; at exhaustion the end code is read. -/
def sendTurn (s : State) : State :=
  match s.send.current with
  | none => s
  | some _ =>
    let blocks := sendBlocks s
    let r := s.send.reader.settle blocks
    let s := s.setSend { s.send with reader := r }
    if r.exhausted blocks && s.send.endCode = none then
      if s.params.sendEndCode = 0 then sendComplete s
      else s.setSend { s.send with endCode := some s.params.sendEndCode }
    else s

/-- R157: SEND settles: at most its current and its staged document can complete at once. -/
def sendSettle (s : State) : State := sendTurn (sendTurn (sendTurn s))

/-- R157: the Framer takes SEND's character. -/
def sendTake (s : State) : State :=
  match s.send.reader.next with
  | some _ => s.setSend { s.send with reader := s.send.reader.take }
  | none => sendComplete s

/-! ### REPRINT (R159) -/

/-- The block list of REPRINT's document. -/
def reprintBlocks (s : State) : List BlockRef :=
  match s.reprint.document with
  | some d => (dirEntry s d).blocks
  | none => []

/-- R159: REPRINT's document is exhausted. -/
def reprintExhausted (s : State) : Bool :=
  s.reprint.document.isSome && s.reprint.reader.exhausted (reprintBlocks s)

/-- R159: the entry REPRINT has ready: the next item, or the final LF. -/
def reprintOffer (s : State) : Option PrintEntry :=
  match s.reprint.document with
  | none => none
  | some _ =>
    match s.reprint.reader.next with
    | some i => some i.printEntry
    | none =>
      if reprintExhausted s && !s.reprint.lineEnd then some ⟨0x0A, false, false, .reprint⟩ else none

/-- R61, R62: compose-echo as KEYS goes by it after print input came to or left claimant `c`: for KEYS that is a judgement of
the translator's head. -/
def echoFor (c : Option Claimant) (s : State) : Bool :=
  if c = some .keys then s.params.composeEcho else s.comp.keysEcho

/-- R76: print input is free. -/
def freeInput (s : State) : State :=
  s.setComp { s.comp with owner := none, ownerTimer := .stopped, keysEcho := echoFor s.comp.owner s }

/-- R159: REPRINT ends with this outcome and releases print input if it owns it. -/
def endReprint (o : ChannelOutcome) (s : State) : State :=
  match s.reprint.document with
  | none => s
  | some d =>
    let s := discardRead .reprint s
    let s := s.setReprint {}
    let s := recordDone .reprint o [d] (closeDoc d id s)
    if s.comp.owner = some .reprint then freeInput s else s

/-- R154, R159: REPRINT settles: buffers freed and reads asked, and an exhausted document whose last deposit ended a line is
complete. -/
def reprintSettle (s : State) : State :=
  match s.reprint.document with
  | none => s
  | some _ =>
    let s := s.setReprint { s.reprint with reader := s.reprint.reader.settle (reprintBlocks s) }
    if reprintExhausted s && s.reprint.lineEnd then endReprint .complete s else s

/-- R159: REPRINT's ready entry has been deposited. -/
def reprintTake (e : PrintEntry) (s : State) : State :=
  s.setReprint { s.reprint with
    reader := s.reprint.reader.take
    lineEnd := !e.poisoned && (e.code = 0x0A || e.code = 0x0C) }

end Sys2Proof.Machine
end

