-- ==== Sys2Proof/Machine/PrintOps.lean ====
section
/-! DEFINITION. The shared operations of the print side: printing a line, feeds, the print queue, and what the Keyboard and
COMPOSE answer for a character (chapter 5, R60 to R62, R165). -/

namespace Sys2Proof.Machine

/-- R72: the print queue's capacity. -/
def printCapacity : Nat := 512

/-- R79: the output queue's capacity. -/
def outputCapacity : Nat := 4

/-- R79: the free places of the output queue. -/
def outputRoom (s : State) : Nat := outputCapacity - s.comp.output.length

/-- R79: the dot lines of a job. -/
def Job.lines : Job → Nat
  | .text _ => 12
  | .feed n _ => n

/-- R81: the text line buffer holds content. -/
def holdsContent (s : State) : Bool := s.comp.cells.toList.any fun c => c ≠ []

/-- R85: the form line count after one more printed line. -/
def nextFormCount (formLength count : Nat) : Nat :=
  if formLength = 0 then 0 else if count + 1 = formLength then 0 else count + 1

/-- R79: a job is placed at the tail of the output queue. -/
def placeJob (j : Job) (s : State) : State :=
  s.setComp { s.comp with output := s.comp.output ++ [j] }

/-- R81: printing the line. -/
def printLine (s : State) : State :=
  let s := placeJob (.text s.comp.cells) s
  s.setComp { s.comp with
    cells := Vector.replicate 80 []
    lineSource := none
    formCount := nextFormCount s.params.formLength s.comp.formCount }

/-- R80: a feed request has its free places. -/
def feedFits (s : State) : Bool := (if holdsContent s then 2 else 1) ≤ outputRoom s

/-- R80: the jobs of a feed request are placed: the line first when the buffer holds content, then the feed. -/
def placeFeed (lines : Nat) (key : Option Nat) (s : State) : State :=
  placeJob (.feed lines key) (if holdsContent s then printLine s else s)

/-- R64: the job no longer counts as the latest feed its key asked. -/
def Job.untag (p : Nat) : Job → Job
  | .feed n (some q) => if q = p then .feed n none else .feed n (some q)
  | j => j

/-- R64: the job is the latest feed that the key at position `p` asked. -/
def Job.isFeedOf (p : Nat) : Job → Bool
  | .feed _ (some q) => q = p
  | _ => false

/-- R64, R80: the key at position `p` asks a feed of 12 dot lines; without room it is dropped and counts as complete. -/
def keyFeed (p : Nat) (s : State) : State :=
  let s := s.setComp { s.comp with output := s.comp.output.map (Job.untag p) }
  if feedFits s then placeFeed 12 (some p) s else s

/-! ### COMPOSE's answers (R164, R165) -/

/-- R62: COMPOSE's answer to a character. -/
inductive ComposeAnswer where
  | accept | wait | refuse
deriving DecidableEq, Repr

/-- The code of BS. -/
def bsCode : Code := 0x08

/-- R164 to R166: COMPOSE's answer to a character.  When ComposeEnd has come while the load still waits or is in flight, R164 says
wait and R165 says refuse: that it is refuse, by the state ending, is the model's choice (log entry 49). -/
def composeAnswer (c : Code) (s : State) : ComposeAnswer :=
  match s.compose.phase with
  | .idle | .ending => .refuse
  | .loading => .wait
  | .composing =>
    if s.compose.write.isSome then .wait
    else if c = bsCode then (if s.compose.chars = [] then .refuse else .accept)
    else if s.compose.chars.length < blockFill then .accept
    else if s.compose.seq = lastSeq then .refuse
    else .wait

/-- R165: a buffer of 58 characters below sequence 63 is written. -/
def composeFullWrite (s : State) : State :=
  if s.compose.chars.length = blockFill && s.compose.seq < lastSeq && s.compose.write = none then
    s.setCompose { s.compose with write := some { final := false } }
  else s

/-- R165: COMPOSE accepts a character: BS removes the last one, any other is appended. -/
def composeAccept (c : Code) (s : State) : State :=
  if c = bsCode then s.setCompose { s.compose with chars := s.compose.chars.dropLast }
  else composeFullWrite (s.setCompose { s.compose with chars := s.compose.chars ++ [storeByte c false] })

/-- R166: COMPOSE may be ended. -/
def composeCanEnd (s : State) : Bool :=
  s.compose.phase = .composing || s.compose.phase = .loading

/-- R166: the final block's write is asked, when no load and no write is outstanding. -/
def composeFinalWrite (s : State) : State :=
  if s.compose.phase = .ending && !s.compose.loading && s.compose.write = none then
    s.setCompose { s.compose with write := some { final := true } }
  else s

/-- R166: COMPOSE becomes ending. -/
def endCompose (s : State) : State :=
  composeFinalWrite (s.setCompose { s.compose with phase := .ending })

/-! ### What the translator makes of its head (R60 to R62) -/

/-- R62: the effective mode. -/
def effectiveMode (s : State) : KeyMode :=
  match s.kbd.mode with
  | .full => if connected s then .full else .local_
  | .half => if connected s then .half else .local_
  | m => m

/-- R60: some position has this down record. -/
def anyDown (r : DownRecord) (s : State) : Bool := s.kbd.downs.toList.any fun d => d = some r

/-- R60: the entry of a position in the layer in force, as CAPS leaves it. -/
def translate (p : Nat) (s : State) : Byte :=
  let layer := if anyDown .ctrl s then s.kbd.control else if anyDown .shift s then s.kbd.shift else s.kbd.plain
  let e := nth layer p 0
  if s.kbd.caps && 0x61 ≤ e.toNat && e.toNat ≤ 0x7A then e - 0x20 else e

/-- R59: the entry is a character. -/
def entryChar (e : Byte) : Option Code :=
  if 1 ≤ e.toNat ∧ e.toNat ≤ 0x7F then some (byteCode e) else none

/-- R60: the down record of a position. -/
def downRecord (p : Nat) (s : State) : Option DownRecord := nth s.kbd.downs p none

/-- R61, R63: the character the translator's head is to be delivered as; `none` when the head needs no sink. -/
def headChar (s : State) : Option Code :=
  match s.kbd.events with
  | [] => none
  | e :: _ =>
    if effectiveMode s = .relay then none
    else match e.kind with
    | .make => entryChar (translate e.position s)
    | .rep =>
      if downRecord e.position s = some .character && !s.kbd.lock then entryChar (translate e.position s) else none
    | .brk => none

/-- R61, R65, R66: the lock or COMPOSE refuses the character. -/
def charRefused (c : Code) (s : State) : Bool :=
  s.kbd.lock || (effectiveMode s = .compose && composeAnswer c s = .refuse)

/-- R62: the print sink is among the sinks of a character, compose-echo read as `echo`. -/
def printsWith (echo : Bool) (s : State) : Bool :=
  match effectiveMode s with
  | .half | .local_ => true
  | .compose => echo
  | .full | .relay => false

/-- R62: the print sink is among the sinks of a character judged now. -/
def modePrints (s : State) : Bool := printsWith s.params.composeEcho s

/-- R68: the keyboard transmit FIFO's capacity. -/
def keyFifoCapacity : Nat := 16

/-- R62: the sinks other than print can take the character. -/
def otherSinksTake (c : Code) (s : State) : Bool :=
  match effectiveMode s with
  | .full | .half => s.kbd.txFifo.length < keyFifoCapacity
  | .compose => composeAnswer c s = .accept
  | .local_ | .relay => true

/-- R74: the translator's head needs the print sink and is not refused, compose-echo read as `echo`. -/
def headNeedsPrint (echo : Bool) (s : State) : Bool :=
  match headChar s with
  | some c => printsWith echo s && !charRefused c s
  | none => false

/-- R61, R62, R72: between `s0` and `s` an event has had the translator judge its waiting head afresh, other than a deposit in the
print queue (`depositEntry`), print input coming to KEYS or leaving it, and a SetKeymapEntry. -/
def judgedAfresh (s0 s : State) : Bool :=
  s.modem.state ≠ s0.modem.state || s.kbd.mode ≠ s0.kbd.mode || s.kbd.lock ≠ s0.kbd.lock ||
    s.kbd.txFifo.length < s0.kbd.txFifo.length || s.comp.queue.length < s0.comp.queue.length ||
    (headChar s).any fun c => composeAnswer c s ≠ composeAnswer c s0

/-- R62: compose-echo acts at the next judgement of the translator's head. -/
def readEcho (s : State) : State := s.setComp { s.comp with keysEcho := s.params.composeEcho }

/-- R61, R62: the waiting head judged afresh reads compose-echo. -/
def echoSettle (s0 s : State) : State := if judgedAfresh s0 s then readEcho s else s

/-! ### Print input (R74 to R77) -/

/-- R74: a claimant waits for print input. -/
def waitsFor (c : Claimant) (s : State) : Bool :=
  match c with
  | .line => s.disp.headExamined && s.framer.rxFifo ≠ [] && s.disp.route.hasPrint && !s.disp.record.contains .print
  | .keys => s.kbd.headJudged && headNeedsPrint s.comp.keysEcho s
  | .link => s.comp.linkPrint ≠ []
  | .reprint => (reprintOffer s).isSome

/-- R74: a claimant's own block would let its character go. -/
def letsGo (c : Claimant) (s : State) : Bool :=
  waitsFor c s && match c with
    | .keys => (headChar s).any fun k => otherSinksTake k s
    | _ => true

/-- R75: the order of preference. -/
def claimants : List Claimant := [.line, .keys, .link, .reprint]

/-- R75: free print input goes to the highest claimant that waits.  Claimants that have come to wait within one step while print
input is free are taken by their priority, where R75 lets either be taken first: the model's choice (log entry 24). -/
def arbitrate (s : State) : State :=
  if s.comp.owner.isSome then s
  else match claimants.find? fun c => waitsFor c s with
  | some c => s.setComp { s.comp with owner := some c, ownerTimer := .stopped, keysEcho := echoFor (some c) s }
  | none => s

/-- R74: the owner is blocked. -/
def ownerBlocked (s : State) : Bool :=
  match s.comp.owner with
  | some c => letsGo c s && printCapacity ≤ s.comp.queue.length
  | none => false

/-- R77: the ownership timer runs for the owner. -/
def ownerTimed (s : State) : Bool :=
  s.comp.owner.isSome && !ownerBlocked s && !(s.comp.owner = some .reprint && s.reprint.whole)

/-- R77: the ownership timer starts from zero when it comes to run, and stands stopped while it may not. -/
def ownerTimerSettle (s : State) : State :=
  if ownerTimed s then
    if s.comp.ownerTimer.isRunning then s
    else s.setComp { s.comp with ownerTimer := .running s.params.ownershipTimeout }
  else s.setComp { s.comp with ownerTimer := .stopped }

/-- R87: the buffer holds content and the print queue is empty. -/
def idleLine (s : State) : Bool := holdsContent s && s.comp.queue = []

/-- R87: the idle-flush timer starts when its condition comes to hold and stops, with any due flush, when it ceases to; `s0`
is the state before the step. -/
def idleTimerSettle (s0 s : State) : State :=
  if idleLine s then
    if idleLine s0 then s
    else s.setComp { s.comp with
      idleTimer := if s.params.idleFlush = 0 then .stopped else .running s.params.idleFlush, flushDue := false }
  else s.setComp { s.comp with idleTimer := .stopped, flushDue := false }

/-- R72, R77: an entry joins the print queue; the Keyboard judges its head, the Dispatcher its flow conditions, and the ownership
timer will start again.  That the head is judged before a release that the deposit causes is the model's choice (log entry 45). -/
def depositEntry (e : PrintEntry) (s : State) : State :=
  judgeFlow (readEcho (s.setComp { s.comp with queue := s.comp.queue ++ [e], ownerTimer := .stopped }))

/-- R76: the entry ends a line, so its owner releases print input, except REPRINT in WHOLE mode. -/
def releases (e : PrintEntry) (s : State) : Bool :=
  !e.poisoned && (e.code = 0x0A || e.code = 0x0C) && !(e.source = .reprint && s.reprint.whole)

end Sys2Proof.Machine
end

