-- ==== Sys2Proof/Machine/StoreOps.lean ====
section
/-! DEFINITION. The store port and what completes on it: which operation each claimant asks, the arbiter (R142), block reads and
writes (R143, R144), the mount (R136 to R138), deletes and the format (R148, R149). -/

namespace Sys2Proof.Machine

/-! ### What each claimant asks -/

/-- R133, R166: the flags COMPOSE's write carries: LAST and the document's flags for the final block. -/
def composeFlags (w : ComposeWrite) (s : State) : Byte :=
  if w.final then finalFlags (dirEntry s s.compose.document).flags else 0

/-- R165, R166: the data write COMPOSE has asked. -/
def composeDataWrite (s : State) : Option DataWrite :=
  s.compose.write.map fun w =>
    { document := s.compose.document, seq := s.compose.seq, flags := composeFlags w s, chars := s.compose.chars,
      failed := w.failed }

/-- The block of a list at a sequence. -/
def blockAt (seq : Nat) (l : List BlockRef) : Option Nat := (l.find? (·.seq = seq)).map (·.block)

/-- R164: the block of the highest sequence. -/
def lastRef (l : List BlockRef) : Option BlockRef := l.getLast?

/-- R148: the next block a delete job releases: sequence 0 first, then the strays in index order. -/
def nextRelease (e : DirEntry) : Option Nat := (e.blocks.head?.map (·.block)).or e.strays.head?

/-- R149: directory maintenance's next operation. -/
def maintenanceBlock (s : State) : Option Nat :=
  match s.store.state with
  | .formatting => some s.store.formatNext
  | _ =>
    match s.store.jobs with
    | j :: _ => nextRelease (dirEntry s j.document)
    | [] => none

/-- R142: the operation a claimant asks and the block it names; a data write of a new sequence names none (R140). -/
def portAsk (c : PortClaimant) (s : State) : Option (PortOp × Option Nat) :=
  match c with
  | .take => (takeDataWrite s).map fun w => (.dataWrite w, none)
  | .compose =>
    if s.compose.loading then
      (lastRef (dirEntry s s.compose.document).blocks).map fun r => (.read, some r.block)
    else (composeDataWrite s).map fun w => (.dataWrite w, if w.failed.isSome then none else s.compose.loaded)
  | .send =>
    s.send.reader.reading.bind fun q => (blockAt q (sendBlocks s)).map fun b => (.read, some b)
  | .reprint =>
    s.reprint.reader.reading.bind fun q => (blockAt q (reprintBlocks s)).map fun b => (.read, some b)
  | .maintenance => (maintenanceBlock s).map fun b => (.releaseWrite, some b)
  | .link => s.store.linkRead.map fun b => (.read, some b)
  | .patrol => s.store.patrolRead.map fun r => (.read, some r.block)
  | .mount =>
    if s.store.state = .mounting then
      match s.store.mountNext with
      | none => some (.statusRead, some 0)
      | some b => some (.read, some b)
    else none

/-- R142: the claimants in their order of priority; the mount has the port to itself while it runs. -/
def portClaimants : List PortClaimant := [.take, .compose, .send, .reprint, .maintenance, .link, .patrol, .mount]

/-- R142: the operation writes a block. -/
def PortOp.isWrite : PortOp → Bool
  | .dataWrite _ | .releaseWrite => true
  | .statusRead | .read => false

/-- R142: the operation a claimant asks and may start now. -/
def portMayStart (c : PortClaimant) (s : State) : Option (PortOp × Option Nat) :=
  (portAsk c s).filter fun a => !a.1.isWrite || writesMayStart s

/-- R142: a claimant's operation is waiting. -/
def portWaits (c : PortClaimant) (s : State) : Bool :=
  (portAsk c s).isSome && match s.store.inFlight with
    | some f => f.claimant ≠ c || f.discarded
    | none => true

/-- R142: an operation starts on a block; a block taken for a write leaves its strays (R139, R140).  That a stray which a delete
releases leaves them here too, and not as its release completes (R148), is the model's choice (log entry 46). -/
def startOp (c : PortClaimant) (op : PortOp) (b : Nat) (s : State) : State :=
  let s := if op.isWrite then dropStray b s else s
  s.setStore { s.store with inFlight := some { claimant := c, op := op, block := b } }

/-! ### How a data write ends (R144, R163, R166) -/

/-- R144: the fault of a data write that completes FAILED. -/
def writeFault (w : DataWrite) (lastFailed : Option Nat) (s : State) : State :=
  recordFault .storeWrite { document := some w.document, block := lastFailed } s

/-- R163: TAKE's data write completes FAILED. -/
def takeWriteFailed (w : DataWrite) (s : State) : State :=
  match s.take.docs.find? (·.document = w.document) with
  | none => s
  | some d =>
    let s := takeForget w.document s
    let s := closeDoc w.document (fun _ => { d.flags with incomplete := true }) s
    let s := recordDone .take .storeFailed [w.document] s
    if d.closing then s else takeNotice s

/-- R166: COMPOSE's data write completes FAILED; a failed rewrite in place has damaged the document (R144). -/
def composeWriteFailed (s : State) : State :=
  let n := s.compose.document
  let s := if s.compose.loaded.isSome then damageDoc n s else s
  let s := closeDoc n (fun f => { f with incomplete := true }) s
  recordDone .compose .storeFailed [n] (s.setCompose {})

/-- R144: a data write completes FAILED. -/
def dataWriteFailed (c : PortClaimant) (w : DataWrite) (lastFailed : Option Nat) (s : State) : State :=
  let s := writeFault w lastFailed s
  match c with
  | .take => takeWriteFailed w s
  | .compose => composeWriteFailed s
  | _ => s

/-- R165, R166: COMPOSE's data write completes DONE. -/
def composeWriteDone (w : DataWrite) (s : State) : State :=
  if isLast w.flags then
    recordDone .compose .complete [w.document] (closeDoc w.document id (s.setCompose {}))
  else
    composeFinalWrite (s.setCompose { s.compose with
      chars := [], seq := s.compose.seq + 1, loaded := none, write := none })

/-- R144: a data write completes DONE on a block, which holds it and stands in the document's list. -/
def dataWriteDone (c : PortClaimant) (w : DataWrite) (b : Nat) (s : State) : State :=
  let s := writeBlock b (dataImage w) s
  let s := joinList w.document { seq := w.seq, block := b, fill := w.chars.length, flags := w.flags } s
  match c with
  | .take => takeWriteDone w s
  | .compose => composeWriteDone w s
  | _ => s

/-- R144: an attempt failed on a block: a second attempt is asked, or the write completes FAILED. -/
def attemptFailed (c : PortClaimant) (w : DataWrite) (b : Nat) (s : State) : State :=
  let s := joinBad b (spoilBlock b s)
  if w.failed.isSome then dataWriteFailed c w (some b) s
  else match c with
  | .take => s.setTake { s.take with write := s.take.write.map fun x => { x with failed := some b } }
  | .compose => s.setCompose { s.compose with write := s.compose.write.map fun x => { x with failed := some b } }
  | _ => s

/-! ### Deletes and the format (R148, R149) -/

/-- R148: the head job of directory maintenance has ended. -/
def popJob (s : State) : State := s.setStore { s.store with jobs := s.store.jobs.tail }

/-- R148: a delete job whose blocks and strays are all released ends. -/
def deleteDone (j : DeleteJob) (s : State) : State :=
  let s := popJob s
  if j.forTake then
    let s := s.setTake (s.take.modify j.document fun d => { d with deleting := false })
    emptiedDoc j.document .taking s
  else recordDone .maintenance .complete [j.document] (emptiedDoc j.document .free s)

/-- R148: the head job ends when nothing of its document is left to release. -/
def deleteTurn (s : State) : State :=
  if s.store.state = .formatting || s.store.inFlight.any (fun f => f.claimant = .maintenance) then s
  else match s.store.jobs with
  | j :: _ => if (nextRelease (dirEntry s j.document)).isNone then deleteDone j s else s
  | [] => s

/-- R148, R163: a release of a delete job failed. -/
def deleteFailed (j : DeleteJob) (b : Nat) (s : State) : State :=
  let s := popJob s
  let s := closeDoc j.document (fun f => { f with damaged := true }) s
  let s := recordStore [j.document] true none s
  let s := recordFault .storeWrite { document := some j.document, block := some b } s
  if j.forTake then
    let notice := (s.take.held.map (·.document)) = some j.document
    let s := recordDone .take .storeFailed [j.document] (takeForget j.document s)
    if notice then takeNotice s else s
  else recordDone .maintenance .storeFailed [j.document] s

/-- R149: the next block a format writes after block `b`: bad blocks are passed over. -/
def nextFormatBlock (b : Nat) (s : State) : Option Nat :=
  (List.range' (b + 1) (511 - b)).find? fun k => !s.store.bad.contains k

/-- R149: the format goes on after block `b`, or ends after block 511. -/
def formatOn (b : Nat) (s : State) : State :=
  match nextFormatBlock b s with
  | some k => s.setStore { s.store with formatNext := k }
  | none => recordStore [] false (some .formatted) (enterReady s)

/-- R149: the label's write failed: the format ends. -/
def formatFailed (s : State) : State :=
  let s := s.setStore { s.store with state := .unformatted }
  recordStore [] false (some .unformatted) (recordFault .storeWrite { block := some 0 } s)

/-- R144, R148, R149: a release write succeeds on a block. -/
def releaseDone (b : Nat) (s : State) : State :=
  if s.store.state = .formatting then
    formatOn b (writeBlock b (if b = 0 then labelImage else freeImage) s)
  else joinFree b (dropListed b (writeBlock b freeImage s))

/-- R144, R148, R149: a release write fails on a block; block 0 stays the label (R140). -/
def releaseFailed (b : Nat) (s : State) : State :=
  let s := spoilBlock b s
  if s.store.state = .formatting then
    if b = 0 then formatFailed s else formatOn b (joinBad b s)
  else
    let s := joinBad b s
    match s.store.jobs with
    | j :: _ => deleteFailed j b s
    | [] => s

/-! ### The settling of the store -/

/-- R47, R161: TAKE puts its FREE buffers to use, and a text head that waits for room goes into them at once. -/
def takeTurn (s : State) : State := takeSettle (offerHead (takeSettle s))

/-- What the channels and directory maintenance do at once: reads and writes asked, documents and jobs that complete. -/
def channelsSettle (s : State) : State := sendSettle (reprintSettle (takeTurn (deleteTurn (deleteTurn s))))

/-- R142: the arbiter's choice: the highest claimant with an operation that may start. -/
def portChoice (s : State) : Option (PortClaimant × PortOp × Option Nat) :=
  portClaimants.findSome? fun c => (portMayStart c s).map fun a => (c, a.1, a.2)

/-- R140, R142: one turn of the arbiter on a free port.  A write with no block to allocate completes FAILED at once
(R144), and the arbiter has not started anything. -/
def portTurn (s : State) : State :=
  if s.store.inFlight.isSome then s
  else match portChoice s with
  | none => s
  | some (c, op, some b) => startOp c op b s
  | some (c, .dataWrite w, none) =>
    match allocate s with
    | some b => startOp c (.dataWrite w) b s
    | none => dataWriteFailed c w w.failed s
  | some (_, _, none) => s

/-- R142: the channels and the port settle.  At most four writes (three documents of TAKE, one of COMPOSE) can
complete FAILED without an attempt before the port starts an operation or stays free. -/
def storeSettle (s : State) : State :=
  let turn (s : State) : State := portTurn (channelsSettle s)
  channelsSettle (turn (turn (turn (turn (turn s)))))

/-! ### How a read ends (R143) -/

/-- R143. -/
inductive ReadResult where
  | pass | passReread | fail
deriving DecidableEq, Repr

def ReadResult.code : ReadResult → Nat
  | .pass => 0 | .passReread => 1 | .fail => 2

/-- R143: the block passed its check at one of the reads. -/
def ReadResult.passed : ReadResult → Bool
  | .pass | .passReread => true
  | .fail => false

/-- R143: the 64 bytes a read brings back. -/
def readBytes (d : ReadData) (b : Nat) (s : State) : List Byte :=
  match d with
  | .stored => blockBytes s.mem b
  | .bytes l => sized l

/-! ### The mount -/

/-- R134: the bytes are the label's. -/
def isLabel (bytes : List Byte) : Bool := bytes = labelImage

/-- R137: the next block the mount reads after block `b`; bad blocks are skipped. -/
def nextMountBlock (b : Nat) (s : State) : Option Nat :=
  (List.range' (b + 1) (511 - b)).find? fun k => !s.store.bad.contains k

/-- R138: the blocks of a list that carry LAST. -/
def lastRefs (l : List BlockRef) : List BlockRef := l.filter fun r => isLast r.flags

/-- R138: the list's sequences are not every number from 0 to the highest one. -/
def hasGap (l : List BlockRef) : Bool := l.map (·.seq) ≠ List.range l.length

/-- R138, case 2. -/
def mountDamaged (e : DirEntry) : Bool :=
  e.strays ≠ [] || hasGap e.blocks || 1 < (lastRefs e.blocks).length ||
    match lastRef e.blocks, (lastRefs e.blocks) with
    | some h, r :: _ => r.seq ≠ h.seq
    | _, _ => false

/-- R138: the flags of the only LAST block, none when there is not exactly one. -/
def onlyLastFlags (l : List BlockRef) : DocFlags :=
  match lastRefs l with
  | [r] => flagsOfByte r.flags
  | _ => {}

/-- R138: a document is settled by the first case that fits. -/
def settleEntry (e : DirEntry) : DirEntry :=
  if e.blocks = [] ∧ e.strays = [] then e
  else if mountDamaged e then { e with state := .closed, flags := { onlyLastFlags e.blocks with damaged := true } }
  else if lastRefs e.blocks = [] then { e with state := .closed, flags := { incomplete := true } }
  else { e with state := .closed, flags := onlyLastFlags e.blocks }

/-- The documents whose entry satisfies `p`. -/
def docsWhere (p : DirEntry → Bool) (s : State) : List Nat :=
  (List.range' 1 31).filter fun n => p (dirEntry s n)

/-- R138: the mount settles every document and ends in READY. -/
def settleMount (s : State) : State :=
  let s := s.setStore { s.store with dir := s.store.dir.map settleEntry }
  let s := enterReady s
  let closed := docsWhere (fun e => e.state = .closed) s
  recordStore closed (closed.any fun n => (dirEntry s n).flags.damaged) (some .ok) s

/-- R137: the mount goes on after block `b`, or settles after block 511. -/
def mountOn (b : Nat) (s : State) : State :=
  match nextMountBlock b s with
  | some k => s.setStore { s.store with mountNext := some k }
  | none => settleMount s

/-- R137: the mount places a data block it has read. -/
def mountBlock (r : ReadResult) (bytes : List Byte) (b : Nat) (s : State) : State :=
  let n := (bytes.getD 0 0).toNat
  let q := (bytes.getD 1 0).toNat
  let fill := (bytes.getD 2 0).toNat
  if !r.passed || n = 0 || 31 < n then s
  else
    let e := dirEntry s n
    if lastSeq < q || blockFill < fill || e.blocks.any (·.seq = q) then
      setDirEntry n { e with strays := insertAsc b e.strays } s
    else joinList n { seq := q, block := b, fill := fill, flags := bytes.getD 3 0 } s

/-- R136: the mount ends without a formatted memory. -/
def mountEnds (st : StoreState) (o : StoreOutcome) (s : State) : State :=
  recordStore [] false (some o) (s.setStore { s.store with state := st })

/-- R136, R137: a read of the mount completes. -/
def mountRead (r : ReadResult) (bytes : List Byte) (b : Nat) (s : State) : State :=
  if b = 0 then
    if r.passed && isLabel bytes then mountOn 0 s else mountEnds .unformatted .unformatted s
  else mountOn b (mountBlock r bytes b s)

/-! ### Reads of the other claimants -/

/-- R155: a read of SEND completes. -/
def sendRead (r : ReadResult) (bytes : List Byte) (s : State) : State :=
  match s.send.current, s.send.reader.reading with
  | some d, some q =>
    let items := itemsOf r.passed bytes
    let fill := if r.passed then min (bytes.getD 2 0).toNat blockFill else 0
    let s := s.setSend { s.send with reader := s.send.reader.load q fill items }
    if r.passed then s else damageDoc d s
  | _, _ => s

/-- R155: a read of REPRINT completes. -/
def reprintRead (r : ReadResult) (bytes : List Byte) (s : State) : State :=
  match s.reprint.document, s.reprint.reader.reading with
  | some d, some q =>
    let items := itemsOf r.passed bytes
    let fill := if r.passed then min (bytes.getD 2 0).toNat blockFill else 0
    let s := s.setReprint { s.reprint with reader := s.reprint.reader.load q fill items }
    if r.passed then s else damageDoc d s
  | _, _ => s

/-- R164: COMPOSE's load completes: the buffer is the loaded block and COMPOSE composes, or ends as asked meanwhile (R166); a
failed load ends the document. -/
def composeLoad (r : ReadResult) (bytes : List Byte) (b : Nat) (s : State) : State :=
  if r.passed then
    let chars := (bytes.drop 4).take (min (bytes.getD 2 0).toNat blockFill)
    let s := s.setCompose { s.compose with
      phase := if s.compose.phase = .ending then .ending else .composing
      chars := chars, loaded := some b, loading := false }
    if s.compose.phase = .ending then composeFinalWrite s else composeFullWrite s
  else
    let n := s.compose.document
    let s := closeDoc n id (damageDoc n s)
    recordDone .compose .storeFailed [n] (s.setCompose {})

/-- R147: a patrol read completes: a failure damages the document whose list still holds the block. -/
def patrolResult (r : ReadResult) (s : State) : State :=
  match s.store.patrolRead with
  | none => s
  | some p =>
    let s := s.setStore { s.store with patrolRead := none }
    if !r.passed && (dirEntry s p.document).blocks.any (·.block = p.block) then damageDoc p.document s else s

/-- R151, R179: the link read completes: the StoreReadBlock request leaves the queue and its reply is formed. -/
def linkReadDone (r : ReadResult) (bytes : List Byte) (s : State) : State :=
  let s := s.setStore { s.store with linkRead := none }
  s.setLink { s.link with
    queue := s.link.queue.tail
    reply := some ⟨0x2A, byte1 0 ++ byte1 r.code ++ bytes⟩ }

/-- R143: a read hands its claimant the result and the bytes. -/
def handRead (c : PortClaimant) (r : ReadResult) (bytes : List Byte) (b : Nat) (s : State) : State :=
  match c with
  | .mount => mountRead r bytes b s
  | .send => sendRead r bytes s
  | .reprint => reprintRead r bytes s
  | .compose => composeLoad r bytes b s
  | .patrol => patrolResult r s
  | .link => linkReadDone r bytes s
  | .take | .maintenance => s

/-- R141, R143: a read completes: the port is free, the sector is counted, and the claimant has its bytes unless it has
stopped (R145). -/
def readDone (f : InFlight) (r : ReadResult) (bytes : List Byte) (s : State) : State :=
  let s := s.setStore { s.store with inFlight := none }
  let s := if r = .pass then s else countSector f.block s
  if f.discarded then s else handRead f.claimant r bytes f.block s

end Sys2Proof.Machine
end

