-- ==== Sys2Proof/Machine/Burn.lean ====
section
/-! DEFINITION. The Strobe unit's computation (chapter 6) and the Composer's rendering of a dot line (R88): pure functions of
the snapshot. -/

namespace Sys2Proof.Machine

/-- The number of head dots. -/
def headDots : Nat := 640

/-- The dots of a list of marks, dot 0 first. -/
def dotsOf (marks : List Bool) : Dots := (BitVec.ofBoolListLE marks).setWidth 640

/-! ### Rendering (R88) -/

/-- R88: the dot of an overlay at glyph column `x`, row `k`. -/
def overlayDot (o : Overlay) (x k : Nat) : Bool :=
  if o.gap then x = 1 || x = 5
  else if o.poisoned then (x + k) % 2 = 0
  else (Config.glyphRow o.code k).getLsbD x

/-- R88: the eight dots of a cell in row `k`; the last one is blank. -/
def cellDots (k : Nat) (cell : List Overlay) : List Bool :=
  (List.range 8).map fun x => x < 7 && cell.any fun o => overlayDot o x k

/-- R88: dot line `k` of a job. -/
def renderLine (j : Job) (k : Nat) : Dots :=
  match j with
  | .text cells => if k < 10 then dotsOf (cells.toList.flatMap (cellDots k)) else 0
  | .feed _ _ => 0

/-! ### Energy and time (R92 to R97) -/

/-- R92: V, the measurement clamped. -/
def burnVolts (v : Nat) : Nat := clamp 4800 9600 v

/-- R93: T, the thermistor reading clamped; an open or shorted thermistor is used as 60. -/
def burnCelsius : Therm → Int
  | .temp c => max (-10) (min 60 c)
  | .openCircuit => 60
  | .shorted => 60

/-- R95: E_base, µJ. -/
def baseEnergy (darkness : Nat) : Nat := 160 + 16 * darkness

/-- R95: E_t, µJ. -/
def dotEnergy (darkness : Nat) (t : Int) : Nat := baseEnergy darkness * (125 - t).toNat / 100

/-- R96: the full on-time, µs. -/
def fullOnTime (energy ohms v : Nat) : Nat := energy * ohms * 1000000 / (v * v)

/-- R97: the slice length, µs. -/
def sliceLength (tFull : Nat) : Nat := clamp 20 120 (tFull / 10)

/-! ### Slice counts (R98 to R100) -/

/-- R98: the dead dots. -/
def deadDots (s : State) : List Nat := s.head.records.toList.filterMap (·.mark)

/-- R99: the slice count of a printed dot that is not dead. -/
def historyCount (h1 h2 : Bool) : Nat :=
  match h1, h2 with
  | false, false => 10
  | false, true => 9
  | true, false => 8
  | true, true => 7

/-- R100: the slices a dot gains from dot `d`, when that is dead and its raster bit is 1. -/
def boostFrom (raster : Dots) (dead : List Nat) (d : Nat) : Nat :=
  if dead.contains d && raster.getLsbD d then 3 else 0

/-- R99, R100: the slice count of dot `d`. -/
def sliceCount (raster h1 h2 : Dots) (dead : List Nat) (d : Nat) : Nat :=
  if !raster.getLsbD d || dead.contains d then 0
  else
    let left := if d = 0 then 0 else boostFrom raster dead (d - 1)
    let right := if d + 1 < headDots then boostFrom raster dead (d + 1) else 0
    min 13 (historyCount (h1.getLsbD d) (h2.getLsbD d) + left + right)

/-- The slice counts of the 640 dots, dot 0 first. -/
def sliceCounts (raster h1 h2 : Dots) (dead : List Nat) : List Nat :=
  (List.range headDots).map (sliceCount raster h1 h2 dead)

/-! ### Current and groups (R101, R102) -/

/-- R101: the dot current, mA. -/
def dotCurrent (v ohms : Nat) : Nat := (v + ohms - 1) / ohms

/-- R101: the budget used, mA. -/
def budgetUsed (power : Power) (budget : Nat) : Nat :=
  match power with
  | .low => budget * 3 / 4
  | .normal | .critical => budget

/-- R101: the dot limit M. -/
def dotLimit (budget current : Nat) : Nat := max 1 (budget / current)

/-- The slice counts of the dots of block `b`. -/
def blockOf (counts : List Nat) (b : Nat) : List Nat := (counts.drop (80 * b)).take 80

/-- R102: the block count c_b. -/
def blockCount (counts : List Nat) (b : Nat) : Nat := ((blockOf counts b).filter (0 < ·)).length

/-- R102: the walk's progress: the groups closed so far, and the open group's blocks with its sum of block counts. -/
structure Walk where
  closed : List (List Nat)
  opened : Option (List Nat × Nat)
deriving DecidableEq, Repr

/-- R102: the open group is closed as it stands. -/
def Walk.close (w : Walk) : Walk :=
  match w.opened with
  | some (bs, _) => ⟨w.closed ++ [bs], none⟩
  | none => w

/-- R102: block `b` with count `c` is handled. -/
def Walk.block (limit : Nat) (w : Walk) (b c : Nat) : Walk :=
  if c = 0 then w
  else if limit < c then { w.close with closed := w.close.closed ++ [[b]] }
  else match w.opened with
  | none => { w with opened := some ([b], c) }
  | some (bs, sum) =>
    if sum + c ≤ limit then { w with opened := some (bs ++ [b], sum + c) }
    else { w.close with opened := some ([b], c) }

/-- R102: the firing groups for the block counts of blocks 0, 1, … -/
def firingGroups (limit : Nat) (blockCounts : List Nat) : List (List Nat) :=
  (blockCounts.zipIdx.foldl (fun (w : Walk) c => w.block limit c.2 c.1) ⟨[], none⟩).close.closed

/-- R103: the phase count of a group of blocks. -/
def phaseCount (counts : List Nat) (blocks : List Nat) : Nat :=
  (blocks.flatMap (blockOf counts)).foldl max 0

/-- R104: the dot-line period, µs. -/
def linePeriod (slice : Nat) (phases : List Nat) : Nat :=
  max 2500 ((phases.map (slice * ·)).sum + 1200)

/-! ### The plan (R105) -/

/-- R105: the firing plan and the figures GetStatus shows, from the snapshot. -/
def computePlan (v : Nat) (t : Int) (p : Params) (power : Power) (raster h1 h2 : Dots) (dead : List Nat) :
    Plan × Figures :=
  let slice := sliceLength (fullOnTime (dotEnergy p.darkness t) p.headResistance v)
  let current := dotCurrent v p.headResistance
  let limit := dotLimit (budgetUsed power p.currentBudget) current
  let counts := sliceCounts raster h1 h2 dead
  let groups := (firingGroups limit ((List.range 8).map (blockCount counts))).map fun bs =>
    (⟨bs, phaseCount counts bs⟩ : Group)
  let period := linePeriod slice (groups.map (·.phases))
  (⟨slice, counts, groups, period⟩,
    { volts := v, celsius := t, slice := slice, dotCurrent := current, dotLimit := limit, groups := groups.length,
      period := period })

/-- R106: the history shifts when the dot line of these slice counts completes. -/
def shiftHistory (counts : List Nat) (u : Strobe) : Strobe :=
  { u with h2 := u.h1, h1 := dotsOf (counts.map (0 < ·)), plan := none }

/-- R107: the history is cleared. -/
def clearHistory (u : Strobe) : Strobe := { u with h1 := 0, h2 := 0 }

/-! ### The strobe outputs (R103) -/

/-- R103: dot `d` of block `b` is heated in phase `k` of group `g`. -/
def heatedIn (p : Plan) (g : Group) (k d : Nat) : Bool :=
  k < g.phases && g.blocks.contains (d / 80) && k < p.counts.getD d 0

end Sys2Proof.Machine
end

