-- ==== Sys2Proof/Machine/EngineOps.lean ====
section
/-! DEFINITION. The Engine's shared operations: its state and what follows a change of it, the boundary (R110, R111), the start
of a dot line (R112) and the events of held states (chapter 7). -/

namespace Sys2Proof.Machine

/-- Section 7.1: the held states. -/
def EngineState.isHeld : EngineState → Bool
  | .paperOut | .powerHold | .hotHold | .halted => true
  | .idle | .printing | .feeding => false

/-- R107: the cool-down timer at a change of engine state from `old` to `new`. -/
def coolDownAfter (old new : EngineState) (t : Timer) : Timer :=
  if old = .printing ∧ new ≠ .printing then .running 50
  else if new = .printing then .stopped
  else t

/-- R123, R124: the element patrol at a change of engine state: the timer starts on entry into IDLE with the patrol on; out of
IDLE it stops and a measurement in flight is abandoned. -/
def patrolAfter (old new : EngineState) (on : Bool) (h : HeadCheck) : HeadCheck :=
  if new = .idle then
    if old = .idle then h else { h with timer := if on then .running 50 else .stopped, measuring := false }
  else { h with timer := .stopped, measuring := false }

/-- The engine state becomes `st`, with what the Strobe unit and the Head check do at the change. -/
def setEngineState (st : EngineState) (s : State) : State :=
  let old := s.engine.state
  let s := s.setStrobe { s.strobe with coolDown := coolDownAfter old st s.strobe.coolDown }
  let s := s.setHead (patrolAfter old st s.params.elementPatrol s.head)
  s.setEngine { s.engine with state := st }

/-- R111: the held state of what stands; `none` when nothing does. -/
def Engine.standing (e : Engine) : Option EngineState :=
  if e.haltDue then some .halted
  else if e.paperCond then some .paperOut
  else if e.powerCond then some .powerHold
  else if e.hotCond then some .hotHold
  else none

/-- R117: the reading is a temperature of 60 °C or more. -/
def isHot : Therm → Bool
  | .temp c => 60 ≤ c
  | .openCircuit | .shorted => false

/-- R117: the reading is a temperature of 52 °C or below. -/
def isCool : Therm → Bool
  | .temp c => c ≤ 52
  | .openCircuit | .shorted => false

/-- R119: the thermistor has failed. -/
def isFailed : Therm → Bool
  | .temp _ => false
  | .openCircuit | .shorted => true

/-- R110, R115: the paper condition judged from the latest reading. -/
def judgePaper (e : Engine) : Engine × List PrintEvent :=
  if !e.paper && !e.paperCond then ({ e with paperCond := true }, [.paperOut]) else (e, [])

/-- R110, R120: the power condition judged from the power state. -/
def judgePowerCond (p : Power) (e : Engine) : Engine × List PrintEvent :=
  if p = .critical then
    if e.powerCond then (e, []) else ({ e with powerCond := true }, [.powerHeld])
  else if e.powerCond then ({ e with powerCond := false }, [.powerResumed]) else (e, [])

/-- R110, R117: the hot condition judged from a reading. -/
def judgeHeat (t : Therm) (e : Engine) : Engine × List PrintEvent :=
  if isHot t && !e.hotCond then ({ e with hotCond := true, hotTimer := .running 30 }, [.hot]) else (e, [])

/-- R117: a reading of 52 °C or below clears the hot condition. -/
def judgeCool (t : Therm) (e : Engine) : Engine × List PrintEvent :=
  if isCool t && e.hotCond then ({ e with hotCond := false, hotTimer := .stopped }, [.cooled]) else (e, [])

/-- R110: each condition judged afresh, in the order of the rule, with the events of the changes. -/
def judgeConditions (p : Power) (t : Therm) (e : Engine) : Engine × List PrintEvent :=
  let a := judgePaper e
  let b := judgePowerCond p a.1
  let c := judgeHeat t b.1
  (c.1, a.2 ++ b.2 ++ c.2)

/-- The working state of a job (section 7.1). -/
def Job.working : Job → EngineState
  | .text _ => .printing
  | .feed _ _ => .feeding

/-- R91, R169 to R171: the snapshot's battery measurement acts like any other. -/
def snapMeasure (v : Nat) (s : State) : State :=
  if v < brownoutLevel then resetPart .brownout (s.setSupply { s.supply with volts := v }) else judgePower v s

/-- R112, step 4: the paper moves forward by one dot line, two half-steps of the stepper. -/
def stepPaper (s : State) : State := s.setEngine { s.engine with halfSteps := s.engine.halfSteps + 2 }

/-- R112: the dot line at the position of `job` starts: raster, snapshot and plan, and, unless the snapshot's measurement is a
brownout, the firing of the groups and the step of the paper. -/
def startDotLine (v : Nat) (job : Job) (s : State) : State :=
  let v := measured v
  let k := s.engine.position.getD 0
  let plan := computePlan (burnVolts v) (burnCelsius s.supply.therm) s.params s.supply.power (renderLine job k)
    s.strobe.h1 s.strobe.h2 (deadDots s)
  let s := s.setStrobe { s.strobe with plan := some plan.1, figures := plan.2 }
  let s := s.setEngine { s.engine with position := some k, inFlight := true }
  let s := snapMeasure v s
  if s.held.isSome then s else stepPaper s

/-- R114: the Engine enters IDLE. -/
def engineIdle (evs : List PrintEvent) (s : State) : State :=
  let s := s.setEngine { s.engine with position := none, inFlight := false }
  recordPrint (evs ++ [.idle]) (setEngineState .idle s)

/-- R110, R111: the Engine at a boundary: conditions judged, its state set, the next dot line started when nothing stands.
`evs` are the events of the change that brought it here. -/
def atBoundary (v : Nat) (evs : List PrintEvent) (s : State) : State :=
  let e := judgeConditions s.supply.power s.supply.therm s.engine
  let s := s.setEngine e.1
  match e.1.standing with
  | some h => recordPrint (evs ++ e.2) (setEngineState h s)
  | none =>
    match s.comp.output with
    | job :: _ => startDotLine v job (recordPrint (evs ++ e.2) (setEngineState job.working s))
    | [] => engineIdle (evs ++ e.2) s

/-- R119: the thermistor reading acts on the thermistor fault flag. -/
def thermFlag (s : State) : State :=
  let failed := isFailed s.supply.therm
  let new := failed && !s.engine.thermFault
  let s := s.setEngine { s.engine with thermFault := failed }
  if new then recordHead .thermistor none (recordFault .thermistor {} s) else s

/-- R169 to R171, R119: a measurement of the battery and a reading of the thermistor: the readings, the power state and the
thermistor fault flag; below 5000 mV a brownout. -/
def supplyReading (volts : Nat) (therm : Therm) (s : State) : State :=
  let v := measured volts
  let s := s.setSupply { s.supply with volts := v, therm := therm }
  if v < brownoutLevel then resetPart .brownout s else thermFlag (judgePower v s)

/-- R110: a reading of the paper sensor becomes the latest one. -/
def paperSeen (reading : Option Bool) (s : State) : State :=
  match reading with
  | some p => s.setEngine { s.engine with paper := p }
  | none => s

/-- R111, R115: the readings that fall at the same moment as an event and are taken after it become the latest ones, so that a
boundary at which the Engine resumes judges them. -/
def coincide (r : Coincident) (s : State) : State :=
  let s := paperSeen r.paper s
  match r.supply with
  | some (v, t) => supplyReading v t s
  | none => s

/-- R111: a condition or halt due has changed with these events; a held Engine stands at a boundary.  A part that has gone into
reset does nothing more. -/
def engineChanged (v : Nat) (evs : List PrintEvent) (s : State) : State :=
  if s.held.isSome then s
  else if s.engine.state.isHeld then
    match s.engine.standing with
    | some h => recordPrint evs (setEngineState h s)
    | none => atBoundary v evs s
  else recordPrint evs s

/-- R110: a job in the output queue brings an IDLE Engine to a boundary at its dot line 0. -/
def engineSettle (v : Nat) (s : State) : State :=
  if s.engine.state = .idle && s.comp.output ≠ [] then
    atBoundary v [] (s.setEngine { s.engine with position := some 0 })
  else s

end Sys2Proof.Machine
end

