-- ==== Sys2Proof/Machine/LinkOps.lean ====
section
/-! DEFINITION. The Control link's shared operations: report payloads (R184), the transmitter's choice (R180), the request
queue (R177 to R179), and the frame every command's meaning is put in: what settles at the end of a step. -/

namespace Sys2Proof.Machine

/-! ### Outcome codes (R179) -/

/-- R179: the outcomes of a reply. -/
inductive ReplyCode where
  | done | doneClamped | busy | conflict | notReady | noSuch | badValue | full | badLength | unknownKind
deriving DecidableEq, Repr

def ReplyCode.byte : ReplyCode → Byte
  | .done => 0x00 | .doneClamped => 0x01 | .busy => 0x10 | .conflict => 0x11 | .notReady => 0x12 | .noSuch => 0x13
  | .badValue => 0x14 | .full => 0x15 | .badLength => 0x21 | .unknownKind => 0x22

/-- A request's effect together with its reply: the outcome and, with DONE or DONE_CLAMPED, its fields. -/
def replies (c : ReplyCode) (fields : List Byte) (s : State) : State × List Byte := (s, c.byte :: fields)

/-! ### Report payloads (R184) -/

/-- R185: the first six bytes of ReadFaults, which are the payload of the Fault report. -/
def faultBytes : Option FaultRecord → List Byte
  | none => byte1 0 ++ byte1 0 ++ byte2 0xFFFF ++ byte1 0xFF ++ byte1 0
  | some r =>
    byte1 r.first.code ++ byte1 (r.detail.document.getD 0) ++ opt2 r.detail.block ++ opt1 r.detail.headBlock ++ [r.kinds]

def StartedReport.bytes (r : StartedReport) : List Byte := byte1 r.cause.code ++ byte1 r.power.code ++ byte2 r.volts

def ModemReport.bytes (r : ModemReport) : List Byte :=
  [r.events] ++ byte1 r.state.code ++ opt1 (r.role.map (·.code)) ++ byte1 r.level

def LineReport.bytes (r : LineReport) : List Byte := [r.events] ++ byte1 r.route.code ++ byte1 r.refused

def PrintReport.bytes (r : PrintReport) : List Byte :=
  halfBytes r.events ++ byte1 r.state.code ++ byte1 r.jobs ++ byte2 r.queue

def HeadReport.bytes (r : HeadReport) : List Byte := [r.events, r.blocks] ++ byte1 r.marks ++ byte1 r.degraded

def StoreReport.bytes (r : StoreReport) : List Byte :=
  opt1 (r.outcome.map (·.code)) ++ byte4 r.documents.toNat ++ flag1 r.damage ++ byte1 r.state.code ++ byte2 r.free

def DoneSlot.bytes (d : DoneSlot) : List Byte := opt1 (d.outcome.map (·.code)) ++ byte4 d.documents.toNat

def DoneReport.bytes (r : DoneReport) : List Byte :=
  r.send.bytes ++ r.take.bytes ++ r.reprint.bytes ++ r.compose.bytes ++ r.maintenance.bytes

def KeysReport.bytes (r : KeysReport) : List Byte := byte1 r.count ++ flag1 r.refused

def PowerReport.bytes (r : PowerReport) : List Byte := [r.entered] ++ byte1 r.power.code ++ byte2 r.volts

/-- R180, R184: the pending report of lowest kind: its kind, its payload, and the reports that stay. -/
def Reports.first (r : Reports) : Option (Byte × List Byte × Reports) :=
  match r.started with
  | some x => some (0x40, x.bytes, { r with started := none })
  | none =>
  match r.modem with
  | some x => some (0x41, x.bytes, { r with modem := none })
  | none =>
  match r.line with
  | some x => some (0x42, x.bytes, { r with line := none })
  | none =>
  match r.print with
  | some x => some (0x43, x.bytes, { r with print := none })
  | none =>
  match r.head with
  | some x => some (0x44, x.bytes, { r with head := none })
  | none =>
  match r.store with
  | some x => some (0x45, x.bytes, { r with store := none })
  | none =>
  match r.done with
  | some x => some (0x46, x.bytes, { r with done := none })
  | none =>
  match r.keys with
  | some x => some (0x47, x.bytes, { r with keys := none })
  | none =>
  match r.power with
  | some x => some (0x48, x.bytes, { r with power := none })
  | none =>
  match r.fault with
  | some x => some (0x49, faultBytes (some x), { r with fault := none })
  | none => none

/-- The set of pending reports, bit k for kind 40h + k (R183). -/
def Reports.pendingSet (r : Reports) : Half :=
  let bit (k : Nat) (b : Bool) : Half := if b then bitSet 16 k else 0
  bit 0 r.started.isSome ||| bit 1 r.modem.isSome ||| bit 2 r.line.isSome ||| bit 3 r.print.isSome |||
    bit 4 r.head.isSome ||| bit 5 r.store.isSome ||| bit 6 r.done.isSome ||| bit 7 r.keys.isSome |||
    bit 8 r.power.isSome ||| bit 9 r.fault.isSome

/-! ### The transmitter (R180) -/

/-- R175: the check byte of a frame. -/
def frameCheck (kind : Byte) (payload : List Byte) : Byte :=
  0 - (kind + BitVec.ofNat 8 payload.length + payload.foldl (· + ·) 0)

/-- R175: a frame's bytes on the wire. -/
def TxFrame.bytes (f : TxFrame) : List Byte :=
  [0xA5, f.kind] ++ byte1 f.payload.length ++ f.payload ++ [frameCheck f.kind f.payload]

/-- R178: the payload of a LinkReject. -/
def Reject.bytes (r : Reject) : List Byte := [r.reason, r.kind] ++ flag1 r.further

/-- R180: an idle transmitter chooses its next frame. -/
def transmitNext (s : State) : State :=
  if s.link.sending.isSome then s
  else match s.link.reply with
  | some r => s.setLink { s.link with sending := some ⟨.reply, r.request + 0x80, r.payload⟩ }
  | none =>
    match s.link.reject with
    | some j => s.setLink { s.link with reject := none, sending := some ⟨.reject, 0xFE, j.bytes⟩ }
    | none =>
      match s.reports.first with
      | some (k, p, rest) => (s.setReports rest).setLink { s.link with sending := some ⟨.report, k, p⟩ }
      | none => s

/-! ### The end of a step -/

/-- What the blocks do at once at the end of a step that began in state `s0`; `volts` is the battery measurement for a dot
line that this settling starts.  A part held in reset does nothing.  The order of the blocks, and with it which of the claimants
that have come to wait within the step is taken first (R75), is the model's choice (log entry 24). -/
def settle (s0 : State) (volts : Option Nat) (s : State) : State :=
  if s.held.isSome then s
  else
    let s := idleTimerSettle s0 (ownerTimerSettle (arbitrate (echoSettle s0 (storeSettle s))))
    let s := match volts with
      | some v => engineSettle v s
      | none => s
    if s.held.isSome then s else transmitNext s

/-- A step of a part that is not held in reset; held in reset, the part takes no notice (R171, R172). -/
def perform (volts : Option Nat) (f : State → State) (s : State) : Host.Outcome State Fault Refusal :=
  .next (if s.held.isSome then s else settle s volts (f s))

/-- A step whose event occurs only while `p` holds; otherwise the state stays as it is (log entry 3). -/
def performWhen (p : Bool) (volts : Option Nat) (f : State → State) (s : State) :
    Host.Outcome State Fault Refusal :=
  if p then perform volts f s else .next s

/-! ### Requests (R177 to R179) -/

/-- R178: a LinkReject is made. -/
def makeReject (reason kind : Byte) (s : State) : State :=
  match s.link.reject with
  | none => s.setLink { s.link with reject := some ⟨reason, kind, false⟩ }
  | some j => s.setLink { s.link with reject := some { j with further := true } }

/-- R177, steps 2 to 4: a whole frame with a good check joins the request queue or is rejected. -/
def frameArrives (r : Request) (s : State) : State :=
  if r.kind = 0 || 0x40 ≤ r.kind.toNat then makeReject 0x22 r.kind s
  else if 2 ≤ s.link.queue.length then makeReject 0x23 r.kind s
  else s.setLink { s.link with queue := s.link.queue ++ [r] }

/-- R179: a request may be executed: the reply slot is empty and no link read is waited for, and the request is the head of
the queue, or joins an empty queue (log entry 10). -/
def inTurn (r : Request) (s : State) : Bool :=
  s.link.reply = none && s.store.linkRead = none && (s.link.queue = [] || s.link.queue.head? = some r)

/-- R179: the request stands at the head of the queue. -/
def standAtHead (r : Request) (s : State) : State :=
  if s.link.queue = [] then s.setLink { s.link with queue := [r] } else s

/-- R179: the head request leaves the queue and its reply fills the reply slot; a reset in the same step has emptied both. -/
def formReply (r : Request) (payload : List Byte) (s : State) : State :=
  if s.held.isSome then s
  else s.setLink { s.link with queue := s.link.queue.tail, reply := some ⟨r.kind, payload⟩ }

/-- R179: the request is executed in its turn with this effect; out of its turn its frame arrives (log entry 10). -/
def executeRequest (r : Request) (effect : State → State × List Byte) (s : State) : State :=
  if inTurn r s then
    let e := effect (standAtHead r s)
    formReply r e.2 e.1
  else frameArrives r s

/-- A request's whole step. -/
def request (volts : Option Nat) (kind : Byte) (payload : List Byte) (effect : State → State × List Byte) (s : State) :
    Host.Outcome State Fault Refusal :=
  perform volts (executeRequest ⟨kind, payload⟩ effect) s

end Sys2Proof.Machine
end

