-- ==== Sys2Proof/Machine/Store.lean ====
section
/-! DEFINITION. The meanings of the Store controller's commands (chapter 9). -/

namespace Sys2Proof.Machine

/-! ### Operations on the store port -/

/-- The operation in flight is a status read. -/
def statusInFlight (s : State) : Bool := s.store.inFlight.any fun f => f.op = .statusRead

/-- The operation in flight is a block read. -/
def readInFlight (s : State) : Bool := s.store.inFlight.any fun f => f.op = .read

/-- The operation in flight is a block write. -/
def writeInFlight (s : State) : Bool := s.store.inFlight.any fun f => f.op.isWrite

/-- The operation in flight has come to its second read or comparison. -/
def secondLook (s : State) : Bool := s.store.inFlight.any (·.again)

/-- The operation in flight goes on to its second read or comparison. -/
def lookAgain (s : State) : State :=
  s.setStore { s.store with inFlight := s.store.inFlight.map fun f => { f with again := true } }

/-- R136: the mount's status read completes. -/
def statusRead (answered : Bool) (s : State) : State :=
  let s := s.setStore { s.store with inFlight := none }
  if answered then s.setStore { s.store with mountNext := some 0 }
  else recordFault .storeAbsent {} (mountEnds .absent .absent s)

/-- STATUS_READ_COMPLETE (R136). -/
def execStatusReadComplete (answered : Bool) (s : State) : Host.Outcome State Fault Refusal :=
  performWhen (statusInFlight s) none (statusRead answered) s

/-- BLOCK_READ_RETRY (R143): the first read fails its check, so the block is read a second time. -/
def execBlockReadRetry (s : State) : Host.Outcome State Fault Refusal :=
  performWhen (readInFlight s && !secondLook s) none lookAgain s

/-- R143: a read of the block in flight brings back its bytes; a first failure asks the second read. -/
def readOutcome (data : ReadData) (s : State) : State :=
  match s.store.inFlight with
  | none => s
  | some f =>
    let bytes := readBytes data f.block s
    if passesCheck bytes then readDone f (if f.again then .passReread else .pass) bytes s
    else if f.again then readDone f .fail bytes s
    else lookAgain s

/-- BLOCK_READ_COMPLETE (R143). -/
def execBlockReadComplete (data : ReadData) (s : State) : Host.Outcome State Fault Refusal :=
  performWhen (readInFlight s) none (readOutcome data) s

/-- R144: the first comparison does not match: the sector is counted and the block is compared again. -/
def mismatch (s : State) : State :=
  match s.store.inFlight with
  | none => s
  | some f => lookAgain (countSector f.block s)

/-- WRITE_COMPARE_MISMATCH (R144). -/
def execWriteCompareMismatch (s : State) : Host.Outcome State Fault Refusal :=
  performWhen (writeInFlight s && !secondLook s) none mismatch s

/-- R144: a write attempt succeeds. -/
def attemptDone (f : InFlight) (s : State) : State :=
  match f.op with
  | .dataWrite w => dataWriteDone f.claimant w f.block s
  | .releaseWrite => releaseDone f.block s
  | .statusRead | .read => s

/-- R144: a write attempt fails at its second comparison. -/
def attemptLost (f : InFlight) (s : State) : State :=
  match f.op with
  | .dataWrite w => attemptFailed f.claimant w f.block s
  | .releaseWrite => releaseFailed f.block s
  | .statusRead | .read => s

/-- R144: a comparison of the attempt in flight; a first mismatch asks the second comparison. -/
def writeOutcome (matched : Bool) (s : State) : State :=
  match s.store.inFlight with
  | none => s
  | some f =>
    if matched then attemptDone f (s.setStore { s.store with inFlight := none })
    else if f.again then attemptLost f (s.setStore { s.store with inFlight := none })
    else mismatch s

/-- BLOCK_WRITE_ATTEMPT_COMPLETE (R144). -/
def execBlockWriteAttemptComplete (matched : Bool) (s : State) : Host.Outcome State Fault Refusal :=
  performWhen (writeInFlight s) none (writeOutcome matched) s

/-! ### The patrol (R146) -/

/-- The owned blocks, in index order. -/
def ownedBlocks (s : State) : List Nat := (List.range 512).filter (isOwned s)

/-- The document in whose list a block stands. -/
def ownerOf (s : State) (b : Nat) : Nat :=
  ((List.range' 1 31).find? fun n => (dirEntry s n).blocks.any (·.block = b)).getD 0

/-- R146: the patrol asks a read of block `b`. -/
def askPatrol (b : Nat) (s : State) : State :=
  s.setStore { s.store with patrolPos := b, patrolRead := some ⟨b, ownerOf s b⟩ }

/-- R141: a full patrol pass ends. -/
def endStorePass (s : State) : State := s.setStore { s.store with sectors := s.store.sectors.map Sector.endPass }

/-- R146: the patrol chooses its next block among the owned blocks: the first above its position, or else the first, which
ends a full pass. -/
def patrolFrom (owned : List Nat) (s : State) : State :=
  match owned.find? fun b => s.store.patrolPos < b with
  | some b => askPatrol b s
  | none =>
    match owned with
    | b :: _ => askPatrol b (endStorePass s)
    | [] => s

/-- R146: the patrol chooses its next block. -/
def choosePatrol (s : State) : State := patrolFrom (ownedBlocks s) s

/-- R146: the patrol timer runs out and starts again; without a read waiting or in flight a block is chosen. -/
def patrolDue (s : State) : State :=
  let s := s.setStore { s.store with patrolTimer := .running s.params.patrolInterval }
  if s.store.patrolRead.isSome then s else choosePatrol s

/-- STORE_PATROL_EXPIRY (R146). -/
def execStorePatrolExpiry (s : State) : Host.Outcome State Fault Refusal :=
  performWhen (s.store.patrolTimer.isRunning && s.store.state = .ready) none patrolDue s

/-! ### Requests -/

/-- R135: the store states in which channel starts, ComposeStart and Delete go on to their own rules. -/
def storeReady (s : State) : Bool := s.store.state = .ready

/-- R135: the store states in which StoreInfo, DocList and DocInfo are answered. -/
def storeAnswers (s : State) : Bool := s.store.state ≠ .mounting && s.store.state ≠ .formatting

/-- R135: the store states in which FormatStore and StoreReadBlock go on to their own rules. -/
def storeResponds (s : State) : Bool := s.store.state = .ready || s.store.state = .unformatted

/-- R149, R150: every channel is idle and directory maintenance has no job. -/
def storeIdle (s : State) : Bool :=
  s.send.current = none && s.take.docs = [] && s.reprint.document = none && s.compose.phase = .idle &&
    s.store.jobs = []

/-- R148: Delete. -/
def deleteEffect (document : Byte) (s : State) : State × List Byte :=
  let n := document.toNat
  if !storeReady s then replies .notReady [] s
  else if !isDocument n then replies .badValue [] s
  else if (dirEntry s n).state ≠ .closed then replies .conflict [] s
  else if s.store.jobs.any (!·.forTake) then replies .busy [] s
  else
    let s := holdDoc n .deleting s
    replies .done [] (s.setStore { s.store with jobs := s.store.jobs ++ [⟨n, false⟩] })

/-- DELETE (R148): request 23h. -/
def execDelete (document : Byte) (s : State) : Host.Outcome State Fault Refusal :=
  request none 0x23 [document] (deleteEffect document) s

/-- R149: the format begins. -/
def beginFormat (s : State) : State :=
  let s := emptyDirectory (withdrawPatrol s)
  s.setStore { s.store with state := .formatting, formatNext := 0, patrolTimer := .stopped }

/-- R149: FormatStore. -/
def formatStoreEffect (s : State) : State × List Byte :=
  if !storeResponds s then replies .notReady [] s
  else if !storeIdle s then replies .busy [] s
  else replies .done [] (beginFormat s)

/-- FORMAT_STORE (R149): request 2Bh. -/
def execFormatStore (s : State) : Host.Outcome State Fault Refusal := request none 0x2B [] formatStoreEffect s

/-- R150: Remount. -/
def remountEffect (s : State) : State × List Byte :=
  if !storeAnswers s then replies .notReady [] s
  else if storeReady s && !storeIdle s then replies .busy [] s
  else replies .done [] (beginMount (withdrawPatrol s))

/-- REMOUNT (R150): request 2Ch. -/
def execRemount (s : State) : Host.Outcome State Fault Refusal := request none 0x2C [] remountEffect s

/-- R151: StoreReadBlock in its turn: refused at once, or a link read is asked and the request stays at the head of the queue
until the read completes (R179). -/
def askLinkRead (r : Request) (index : Nat) (s : State) : State :=
  if !storeResponds s then formReply r [ReplyCode.notReady.byte] s
  else if 511 < index then formReply r [ReplyCode.badValue.byte] s
  else s.setStore { s.store with linkRead := some index }

/-- STORE_READ_BLOCK (R151): request 2Ah. -/
def execStoreReadBlock (index : Half) (s : State) : Host.Outcome State Fault Refusal :=
  let r : Request := ⟨0x2A, halfBytes index⟩
  perform none (fun s => if inTurn r s then askLinkRead r index.toNat (standAtHead r s) else frameArrives r s) s

/-- The count of retired sectors. -/
def retiredCount (s : State) : Nat := (s.store.sectors.toList.filter (·.retired)).length

/-- R151: StoreInfo. -/
def storeInfoEffect (s : State) : State × List Byte :=
  if storeAnswers s then
    replies .done (byte1 s.store.state.code ++ byte2 s.store.free.length ++ byte2 s.store.bad.length
      ++ byte1 (retiredCount s)) s
  else replies .notReady [] s

/-- STORE_INFO (R151): request 20h. -/
def execStoreInfo (s : State) : Host.Outcome State Fault Refusal := request none 0x20 [] storeInfoEffect s

/-- R151: DocList. -/
def docListEffect (s : State) : State × List Byte :=
  if storeAnswers s then
    replies .done (s.store.dir.toList.flatMap fun e => byte1 e.state.code ++ byte1 e.flags.code) s
  else replies .notReady [] s

/-- DOC_LIST (R151): request 21h. -/
def execDocList (s : State) : Host.Outcome State Fault Refusal := request none 0x21 [] docListEffect s

/-- R182: the one byte of a document's stray count; above 255 it is not stated (log entry 6). -/
def strayCount (n : Nat) : List Byte := if n ≤ 255 then byte1 n else [Config.strayCountByte n]

/-- R151, R182: a directory entry in DocInfo's reply. -/
def DirEntry.info (e : DirEntry) : List Byte :=
  byte1 e.state.code ++ byte1 e.flags.code ++ byte1 e.blocks.length ++ byte2 e.length ++ flag1 e.pendingDamage
    ++ strayCount e.strays.length

/-- R151: DocInfo. -/
def docInfoEffect (document : Byte) (s : State) : State × List Byte :=
  if !storeAnswers s then replies .notReady [] s
  else if isDocument document.toNat then replies .done (dirEntry s document.toNat).info s
  else replies .badValue [] s

/-- DOC_INFO (R151): request 22h. -/
def execDocInfo (document : Byte) (s : State) : Host.Outcome State Fault Refusal :=
  request none 0x22 [document] (docInfoEffect document) s

end Sys2Proof.Machine
end

