-- ==== Sys2Proof/Machine/Channels.lean ====
section
/-! DEFINITION. The meanings of the transfer channels' requests (chapter 10). -/

namespace Sys2Proof.Machine

/-- R156: Send. -/
def sendEffect (document : Byte) (s : State) : State × List Byte :=
  let n := document.toNat
  if !storeReady s then replies .notReady [] s
  else if !isDocument n then replies .badValue [] s
  else if !connected s then replies .notReady [] s
  else if s.send.current.isSome && s.send.staged.isSome then replies .busy [] s
  else if (dirEntry s n).state ≠ .closed then replies .conflict [] s
  else
    let s := holdDoc n .sending s
    if s.send.current = none then replies .done [] (s.setSend { current := some n })
    else replies .done [] (s.setSend { s.send with staged := some n })

/-- SEND (R156): request 26h. -/
def execSend (document : Byte) (s : State) : Host.Outcome State Fault Refusal :=
  request none 0x26 [document] (sendEffect document) s

/-- R158: StopSend. -/
def stopSendEffect (s : State) : State × List Byte := replies .done [] (endSend .stopped s)

/-- STOP_SEND (R158): request 27h. -/
def execStopSend (s : State) : Host.Outcome State Fault Refusal := request none 0x27 [] stopSendEffect s

/-- R159: Reprint. -/
def reprintEffect (document mode : Byte) (s : State) : State × List Byte :=
  let n := document.toNat
  if !storeReady s then replies .notReady [] s
  else if !isDocument n || 1 < mode.toNat then replies .badValue [] s
  else if s.reprint.document.isSome then replies .busy [] s
  else if (dirEntry s n).state ≠ .closed then replies .conflict [] s
  else
    let s := holdDoc n .reprinting s
    replies .done [] (s.setReprint { document := some n, whole := mode = 1 })

/-- REPRINT (R159): request 28h. -/
def execReprint (document mode : Byte) (s : State) : Host.Outcome State Fault Refusal :=
  request none 0x28 [document, mode] (reprintEffect document mode) s

/-- R159: StopReprint. -/
def stopReprintEffect (s : State) : State × List Byte := replies .done [] (endReprint .stopped s)

/-- STOP_REPRINT (R159): request 29h. -/
def execStopReprint (s : State) : Host.Outcome State Fault Refusal := request none 0x29 [] stopReprintEffect s

/-- R164: the document a ComposeStart names, 0 for the lowest FREE one. -/
def composeDocument (n : Nat) (s : State) : Option Nat :=
  if n = 0 then (List.range' 1 31).find? fun k => (dirEntry s k).state = .free else some n

/-- R164: COMPOSE begins document `n` with an empty new block at sequence 0. -/
def composeNew (n : Nat) (s : State) : State :=
  (holdDoc n .composing s).setCompose { phase := .composing, document := n }

/-- R164: COMPOSE takes document `n` to be appended: its last block is loaded.  A CLOSED document without a block has none to
load, and begins as a new one (log entry 21). -/
def composeAppend (n : Nat) (s : State) : State :=
  match lastRef (dirEntry s n).blocks with
  | some r => (holdDoc n .composing s).setCompose { phase := .loading, document := n, seq := r.seq, loading := true }
  | none => composeNew n s

/-- R164: document `n` may be appended to. -/
def canAppend (e : DirEntry) : Bool := e.state = .closed && !e.flags.damaged && e.blocks.length < 64

/-- R164: ComposeStart. -/
def composeStartEffect (document append : Byte) (s : State) : State × List Byte :=
  if !storeReady s then replies .notReady [] s
  else if 31 < document.toNat || 1 < append.toNat then replies .badValue [] s
  else if s.compose.phase ≠ .idle then replies .busy [] s
  else match composeDocument document.toNat s with
  | none => replies .full [] s
  | some n =>
    if (dirEntry s n).state = .free then replies .done (byte1 n) (composeNew n s)
    else if append = 1 && canAppend (dirEntry s n) then replies .done (byte1 n) (composeAppend n s)
    else replies .conflict [] s

/-- COMPOSE_START (R164): request 24h. -/
def execComposeStart (document append : Byte) (s : State) : Host.Outcome State Fault Refusal :=
  request none 0x24 [document, append] (composeStartEffect document append) s

/-- R166: ComposeEnd. -/
def composeEndEffect (s : State) : State × List Byte :=
  if composeCanEnd s then replies .done [] (endCompose s) else replies .notReady [] s

/-- COMPOSE_END (R166): request 25h. -/
def execComposeEnd (s : State) : Host.Outcome State Fault Refusal := request none 0x25 [] composeEndEffect s

end Sys2Proof.Machine
end

