-- ==== Sys2Proof/Machine/KeyOps.lean ====
section
/-! DEFINITION. The Keyboard's shared operations: the debounce of a scan (R55 to R58) and the translator's judgement of its head
(R60 to R69). -/

namespace Sys2Proof.Machine

/-! ### The key event queue -/

/-- R57: the key event queue's capacity. -/
def eventCapacity : Nat := 16

/-- R57: an event may be placed: the queue has room and no break is owed. -/
def eventRoom (s : State) : Bool := s.kbd.events.length < eventCapacity && s.kbd.owed = []

/-- R57: an event joins the tail. -/
def pushEvent (p : Nat) (k : KeyKind) (s : State) : State :=
  s.setKbd { s.kbd with events := s.kbd.events ++ [⟨p, k⟩] }

/-- R55: the debounce record of position `p`. -/
def keyRecord (p : Nat) (s : State) : KeyRecord := nth s.kbd.keys p {}

/-- The debounce record of position `p` replaced. -/
def setKey (p : Nat) (r : KeyRecord) (s : State) : State := s.setKbd { s.kbd with keys := put s.kbd.keys p r }

/-- R58: the freed place goes to the oldest owed break. -/
def placeOwed (s : State) : State :=
  match s.kbd.owed with
  | [] => s
  | p :: rest =>
    let s := s.setKbd { s.kbd with owed := rest }
    setKey p { keyRecord p s with down := false, breakOwed := false } (pushEvent p .brk s)

/-- R57, R58: the translator removes the head. -/
def removeEvent (s : State) : State :=
  placeOwed (s.setKbd { s.kbd with events := s.kbd.events.tail, headJudged := false })

/-- R60: the down record of position `p` replaced. -/
def setDown (p : Nat) (d : Option DownRecord) (s : State) : State :=
  s.setKbd { s.kbd with downs := put s.kbd.downs p d }

/-! ### Scanning (R55, R56) -/

/-- R55: a record after a reading, before the passes: the count and the withheld flag.  An owed break freezes it (R58). -/
def KeyRecord.read (down : Bool) (r : KeyRecord) : KeyRecord :=
  if r.breakOwed then r
  else if down = r.down then { r with count := 0, withheld := false }
  else { r with count := min 3 (r.count + 1) }

/-- R55: a change is due. -/
def KeyRecord.due (r : KeyRecord) : Bool := r.count = 3 && !r.breakOwed

/-- R56: three accepted keys complete a rectangle with position `p`. -/
def ghosted (p : Nat) (s : State) : Bool :=
  let isDown (r c : Nat) : Bool := (keyRecord (8 * r + c) s).down
  (List.range 8).any fun r => r ≠ p / 8 && isDown r (p % 8) &&
    (List.range 8).any fun c => c ≠ p % 8 && isDown (p / 8) c && isDown r c

/-- R67: the change to up of the recorded position has become due. -/
def endRepeatOf (p : Nat) (s : State) : State :=
  if (s.kbd.autoRepeat.map (·.position)) = some p then s.setKbd { s.kbd with autoRepeat := none } else s

/-- R57, R58: a due change to up. -/
def keyUp (p : Nat) (s : State) : State :=
  let s := endRepeatOf p s
  let r := keyRecord p s
  if r.unreported then setKey p { r with down := false, count := 0, unreported := false } s
  else if eventRoom s then setKey p { r with down := false, count := 0 } (pushEvent p .brk s)
  else
    let s := setKey p { r with count := 0, breakOwed := true } s
    s.setKbd { s.kbd with owed := s.kbd.owed ++ [p] }

/-- R56, R57: a due change to down. -/
def keyDown (p : Nat) (s : State) : State :=
  let r := keyRecord p s
  if ghosted p s then setKey p { r with withheld := true } s
  else
    let r := { r with down := true, count := 0, withheld := false }
    if eventRoom s then setKey p r (pushEvent p .make s) else setKey p { r with unreported := true } s

/-- R55: position `p` in the pass for changes to up. -/
def upPass (p : Nat) (s : State) : State :=
  let r := keyRecord p s
  if r.due && r.down then keyUp p s else s

/-- R55: position `p` in the pass for changes to down. -/
def downPass (p : Nat) (s : State) : State :=
  let r := keyRecord p s
  if r.due && !r.down then keyDown p s else s

/-- R55: the key positions in order. -/
def positions : List Nat := List.range 64

/-- R55: one scan. -/
def scan (snapshot : KeyMatrix) (s : State) : State :=
  let s := s.setKbd { s.kbd with
    keys := Vector.ofFn fun p : Fin 64 => (s.kbd.keys[p]).read (snapshot.getLsbD p) }
  let s := positions.foldl (fun s p => upPass p s) s
  positions.foldl (fun s p => downPass p s) s

/-! ### The translator -/

/-- R70: a tone starts on the beeper. -/
def startTone (t : Tone) (s : State) : State := s.setKbd { s.kbd with tones := s.kbd.tones ++ [t] }

/-- R65: what a refusal signals. -/
def signalRefusal (s : State) : State := startTone .click (recordKeys true s)

/-- R69: the relay key queue's capacity. -/
def relayCapacity : Nat := 8

/-- R69: an event joins the relay key queue, or is refused when that is full. -/
def relayEvent (p : Nat) (k : KeyKind) (s : State) : State :=
  if s.kbd.relay.length < relayCapacity then
    recordKeys false (s.setKbd { s.kbd with relay := s.kbd.relay ++ [⟨p, k⟩] })
  else signalRefusal s

/-- R69: a MAKE bound for the relay key queue. -/
def relayMake (p : Nat) (s : State) : State := removeEvent (setDown p (some .relayed) (relayEvent p .make s))

/-- R63: a BREAK acts on its position's down record. -/
def takeBreak (p : Nat) (s : State) : State :=
  let s := match downRecord p s with
    | some .relayed => relayEvent p .brk s
    | some .feed => s.setKbd { s.kbd with feedRepeats := s.kbd.feedRepeats.filter (·.position ≠ p) }
    | _ => s
  removeEvent (setDown p none s)

/-- R61: the print sink can take the character, when it is among the sinks. -/
def printTakes (s : State) : Bool :=
  !modePrints s || (s.comp.owner = some .keys && s.comp.queue.length < printCapacity)

/-- R62: the character goes to its sinks together; a line end releases print input (R76). -/
def deliverChar (c : Code) (s : State) : State :=
  let mode := effectiveMode s
  let prints := modePrints s
  let s := match mode with
    | .full | .half => s.setKbd { s.kbd with txFifo := s.kbd.txFifo ++ [c] }
    | .compose => composeAccept c s
    | .local_ | .relay => s
  if prints then
    let e : PrintEntry := ⟨c, false, false, .keys⟩
    let s := depositEntry e s
    if releases e s then freeInput s else s
  else s

/-- R67: the auto-repeat record after a MAKE delivered as a character. -/
def beginRepeat (p : Nat) (s : State) : State :=
  let r := keyRecord p s
  s.setKbd { s.kbd with
    autoRepeat := if r.down && !r.breakOwed then some ⟨p, .running s.params.repeatDelay⟩ else none }

/-- R61: a head that is judged and waits. -/
def headWaits (s : State) : State := readEcho (s.setKbd { s.kbd with headJudged := true })

/-- R61: a MAKE translated to a character is judged. -/
def judgeMake (p : Nat) (c : Code) (s : State) : State :=
  if charRefused c s then
    let s := signalRefusal s
    removeEvent (setDown p (some .other) (s.setKbd { s.kbd with autoRepeat := none }))
  else if printTakes s && otherSinksTake c s then
    removeEvent (setDown p (some .character) (beginRepeat p (deliverChar c s)))
  else headWaits s

/-- R63: a REPEAT translated to a character is judged. -/
def judgeRepeat (c : Code) (s : State) : State :=
  if charRefused c s then removeEvent (s.setKbd { s.kbd with autoRepeat := none })
  else if printTakes s && otherSinksTake c s then removeEvent (deliverChar c s)
  else headWaits s

/-- R64: a MAKE translated to an entry that is not a character. -/
def functionKey (p : Nat) (entry : Byte) (s : State) : State :=
  match entry.toNat with
  | 0x80 => removeEvent (setDown p (some .shift) s)
  | 0x81 => removeEvent (setDown p (some .ctrl) s)
  | 0x82 => removeEvent (setDown p (some .other) (s.setKbd { s.kbd with caps := !s.kbd.caps }))
  | 0x83 => removeEvent (setDown p (some .other) (askBreak s))
  | 0x84 =>
    let s := s.setKbd { s.kbd with feedRepeats := s.kbd.feedRepeats ++ [⟨p, .running s.params.repeatDelay⟩] }
    removeEvent (setDown p (some .feed) (keyFeed p s))
  | 0x85 =>
    if composeCanEnd s then removeEvent (setDown p (some .other) (endCompose s))
    else removeEvent (setDown p (some .other) (signalRefusal s))
  | 0x86 => relayMake p s
  | _ => removeEvent (setDown p (some .other) s)

/-- R61 to R64: the translator judges the head of the key event queue. -/
def judgeHead (s : State) : State :=
  match s.kbd.events with
  | [] => s
  | e :: _ =>
    match e.kind with
    | .brk => takeBreak e.position s
    | .rep =>
      match headChar s with
      | some c => judgeRepeat c s
      | none => removeEvent s
    | .make =>
      if effectiveMode s = .relay then relayMake e.position s
      else
        let entry := translate e.position s
        match entryChar entry with
        | some c => judgeMake e.position c s
        | none => functionKey e.position entry s

end Sys2Proof.Machine
end

