-- ==== Sys2Proof/Machine/Composer.lean ====
section
/-! DEFINITION. The meanings of the Composer's commands (chapter 5). -/

namespace Sys2Proof.Machine

/-! ### Print input (R74 to R77) -/

/-- R74: the owner can deposit now. -/
def canDeposit (s : State) : Bool :=
  match s.comp.owner with
  | some c => letsGo c s && s.comp.queue.length < printCapacity
  | none => false

/-- R47, R73: LINE deposits the Dispatcher's text head, which is then in the delivery record. -/
def lineDeposit (s : State) : State :=
  match s.framer.rxFifo with
  | [] => s
  | h :: _ =>
    let e : PrintEntry := ⟨h.code, h.poisoned, h.gap, .line⟩
    let s := joinRecord .print (depositEntry e s)
    finishHead (if releases e s then freeInput s else s)

/-- R78: LINK deposits the head of the link print FIFO. -/
def linkDeposit (s : State) : State :=
  match s.comp.linkPrint with
  | [] => s
  | c :: rest =>
    let e : PrintEntry := ⟨c, false, false, .link⟩
    let s := depositEntry e (s.setComp { s.comp with linkPrint := rest })
    if releases e s then freeInput s else s

/-- R159: REPRINT deposits its ready entry. -/
def reprintDeposit (s : State) : State :=
  match reprintOffer s with
  | none => s
  | some e =>
    let s := reprintTake e (depositEntry e s)
    if releases e s then freeInput s else s

/-- R74: a claimant deposits; KEYS's deposit is part of the delivery of the translator's head (R61). -/
def depositOf (c : Claimant) (s : State) : State :=
  match c with
  | .line => lineDeposit s
  | .keys => judgeHead s
  | .link => linkDeposit s
  | .reprint => reprintDeposit s

/-- R76: the releasing claimant's source offers its next character before the release: the Dispatcher examines its next
head, or the translator judges that it needs print. -/
def offerNext (c : Claimant) (s : State) : State :=
  match c with
  | .line => examineHead s
  | .keys => readEcho (s.setKbd { s.kbd with headJudged := headNeedsPrint s.params.composeEcho s })
  | .link | .reprint => s

/-- R75, R76: what follows a deposit by `c`: at a release the waiting claimants compete.  LINE and KEYS are among them only when
their next character was taken first; LINK and REPRINT wait again when they have a next character (R74, R78). -/
def afterDeposit (nextFirst : Bool) (c : Claimant) (s : State) : State :=
  if s.comp.owner.isSome then s
  else if nextFirst then arbitrate (offerNext c s)
  else arbitrate s

/-- PRINT_DEPOSIT (R74). -/
def execPrintDeposit (nextFirst : Bool) (s : State) : Host.Outcome State Fault Refusal :=
  match s.comp.owner with
  | some c => performWhen (canDeposit s) none (fun s => afterDeposit nextFirst c (depositOf c s)) s
  | none => .next s

/-- OWNERSHIP_TIMEOUT (R77): the owner loses print input and R75 arbitrates at once. -/
def execOwnershipTimeout (s : State) : Host.Outcome State Fault Refusal :=
  performWhen (s.comp.owner.isSome && s.comp.ownerTimer.isRunning) none (fun s => arbitrate (freeInput s)) s

/-! ### The line composer (R82 to R87) -/

/-- R82: the entry is printable. -/
def PrintEntry.printable (e : PrintEntry) : Bool :=
  e.gap || e.poisoned || (0x20 ≤ e.code.toNat && e.code.toNat ≤ 0x7E)

/-- R83: a source break applies. -/
def sourceBreak (e : PrintEntry) (s : State) : Bool := holdsContent s && s.comp.lineSource ≠ some e.source

/-- R82: the free places of the output queue the head entry may need. -/
def placesNeeded (e : PrintEntry) (s : State) : Nat :=
  if e.printable then
    if sourceBreak e s || (s.comp.wrapPending && holdsContent s) then 1 else 0
  else match e.code.toNat with
  | 0x0A => 1
  | 0x0D => if s.params.autoLf then 1 else 0
  | 0x0C => if s.params.formLength = 0 then 1 else 2
  | _ => 0

/-- R83, step 1. -/
def breakLine (e : PrintEntry) (s : State) : State :=
  if sourceBreak e s || s.comp.wrapPending then
    let s := if holdsContent s then printLine s else s
    s.setComp { s.comp with column := 0, wrapPending := false }
  else s

/-- R83, step 2: the overlay of an entry joins a cell. -/
def strike (e : PrintEntry) (cell : List Overlay) : List Overlay :=
  if !e.gap && !e.poisoned && e.code = 0x20 then cell
  else if cell.length < 3 then cell ++ [⟨e.code, e.poisoned, e.gap⟩]
  else cell

/-- The last column. -/
def lastColumn : Nat := 79

/-- R83: a printable entry. -/
def printEntry (e : PrintEntry) (s : State) : State :=
  let s := breakLine e s
  let c := s.comp.column
  s.setComp { s.comp with
    cells := put s.comp.cells c (strike e (nth s.comp.cells c []))
    lineSource := some e.source
    column := if c < lastColumn then c + 1 else c
    wrapPending := if c < lastColumn then s.comp.wrapPending else s.params.autoWrap }

/-- R85: LF. -/
def lineFeed (s : State) : State :=
  let s := printLine s
  s.setComp { s.comp with wrapPending := false }

/-- R85: FF. -/
def formFeed (s : State) : State :=
  if s.params.formLength = 0 then lineFeed s
  else
    let s := if holdsContent s then printLine s else s
    let s := if s.comp.formCount = 0 then s
      else placeJob (.feed ((s.params.formLength - s.comp.formCount) * 12) none) s
    s.setComp { s.comp with formCount := 0, wrapPending := false }

/-- R84: CR; with auto-LF on it then acts as LF. -/
def carriageReturn (s : State) : State :=
  let s := s.setComp { s.comp with column := 0, wrapPending := false }
  if s.params.autoLf then lineFeed s else s

/-- R84: BS. -/
def backspace (s : State) : State :=
  if s.comp.wrapPending then s.setComp { s.comp with wrapPending := false }
  else s.setComp { s.comp with column := s.comp.column - 1 }

/-- R84: HT. -/
def tabulate (s : State) : State :=
  if s.comp.wrapPending then s
  else
    let t := s.params.tabInterval
    s.setComp { s.comp with column := min lastColumn ((s.comp.column / t + 1) * t) }

/-- R82 to R86: the composer handles an entry it has taken. -/
def handleEntry (e : PrintEntry) (s : State) : State :=
  if e.printable then printEntry e s
  else match e.code.toNat with
  | 0x0A => lineFeed s
  | 0x0C => formFeed s
  | 0x0D => carriageReturn s
  | 0x08 => backspace s
  | 0x09 => tabulate s
  | 0x07 => startTone .bell s
  | _ => s

/-- R72, R82: the composer removes the head, on which the flow conditions are judged (R50), and handles it. -/
def takeEntry (e : PrintEntry) (s : State) : State :=
  handleEntry e (judgeFlow (s.setComp { s.comp with queue := s.comp.queue.tail }))

/-- COMPOSER_TAKE_HEAD (R82). -/
def execComposerTakeHead (snapVolts : Nat) (s : State) : Host.Outcome State Fault Refusal :=
  match s.comp.queue with
  | e :: _ => performWhen (placesNeeded e s ≤ outputRoom s) (some snapVolts) (takeEntry e) s
  | [] => .next s

/-- R87: the idle-flush timer runs out. -/
def flush (s : State) : State :=
  let s := s.setComp { s.comp with idleTimer := .stopped }
  if 0 < outputRoom s then printLine s else s.setComp { s.comp with flushDue := true }

/-- IDLE_FLUSH_EXPIRY (R87). -/
def execIdleFlushExpiry (snapVolts : Nat) (s : State) : Host.Outcome State Fault Refusal :=
  performWhen s.comp.idleTimer.isRunning (some snapVolts) flush s

/-! ### Requests -/

/-- R78: the link print FIFO's capacity. -/
def linkPrintCapacity : Nat := 256

/-- R78: PrintText. -/
def printTextEffect (text : List Byte) (s : State) : State × List Byte :=
  if !textLengthOk text then replies .badLength [] s
  else if !textOk text then replies .badValue [] s
  else if s.comp.linkPrint.length + text.length ≤ linkPrintCapacity then
    replies .done [] (s.setComp { s.comp with linkPrint := s.comp.linkPrint ++ textCodes text })
  else replies .full [] s

/-- PRINT_TEXT (R78): request 10h. -/
def execPrintText (text : List Byte) (s : State) : Host.Outcome State Fault Refusal :=
  request none 0x10 text (printTextEffect text) s

/-- R80: PaperFeed. -/
def paperFeedEffect (lines : Byte) (s : State) : State × List Byte :=
  if lines = 0 then replies .badValue [] s
  else if feedFits s then replies .done [] (placeFeed lines.toNat none s)
  else replies .full [] s

/-- PAPER_FEED (R80): request 11h. -/
def execPaperFeed (lines : Byte) (snapVolts : Nat) (s : State) : Host.Outcome State Fault Refusal :=
  request (some snapVolts) 0x11 [lines] (paperFeedEffect lines) s

end Sys2Proof.Machine
end

