-- ==== Sys2Proof/Machine/Dispatcher.lean ====
section
/-! DEFINITION. The meanings of the Dispatcher's commands (chapter 3). -/

namespace Sys2Proof.Machine

/-- DISPATCH_HEAD (R37): a head not yet examined. -/
def execDispatchHead (s : State) : Host.Outcome State Fault Refusal :=
  performWhen (s.framer.rxFifo ≠ [] && !s.disp.headExamined) none examineHead s

/-- R47: TAKE can act now on the waiting text head, or every sink of the route has it. -/
def deliveryDue (s : State) : Bool :=
  s.disp.headExamined && s.framer.rxFifo ≠ [] &&
    (delivered s || match s.disp.route.document with
      | some n => !s.disp.record.contains (.store n) && takeAnswer n s ≠ .waits
      | none => false)

/-- TEXT_HEAD_DELIVERY (R47): a waiting sink takes the text head.  LINE's deposit is PRINT_DEPOSIT.  An event that makes room in
TAKE's buffer delivers the head in its own step (`takeTurn`), so this command finds a head to deliver only in a state that
has not settled (log entry 42). -/
def execTextHeadDelivery (s : State) : Host.Outcome State Fault Refusal :=
  performWhen (deliveryDue s) none offerHead s

/-- R46: SetAnswerback. -/
def setAnswerbackEffect (text : List Byte) (s : State) : State × List Byte :=
  if 24 < text.length then replies .badLength [] s
  else if !textOk text then replies .badValue [] s
  else if s.disp.progress.isSome then replies .busy [] s
  else replies .done [] (s.setDisp { s.disp with answerback := textCodes text })

/-- SET_ANSWERBACK (R46): request 0Ch. -/
def execSetAnswerback (text : List Byte) (s : State) : Host.Outcome State Fault Refusal :=
  request none 0x0C text (setAnswerbackEffect text) s

end Sys2Proof.Machine
end

