-- ==== Sys2Proof/Machine/Engine.lean ====
section
/-! DEFINITION. The meanings of the Strobe unit's and the Engine's commands (chapters 6 and 7). -/

namespace Sys2Proof.Machine

/-- R87: a due flush is carried out at the first job leaving. -/
def dueFlush (s : State) : State :=
  if s.comp.flushDue && 0 < outputRoom s then
    let s := printLine s
    s.setComp { s.comp with flushDue := false }
  else s

/-- R112: the position advances; a job whose last dot line has completed leaves the output queue (R79). -/
def advancePosition (s : State) : State :=
  match s.comp.output with
  | [] => s.setEngine { s.engine with position := none }
  | job :: rest =>
    let k := s.engine.position.getD 0 + 1
    if k < job.lines then s.setEngine { s.engine with position := some k }
    else
      let s := dueFlush (s.setComp { s.comp with output := rest })
      s.setEngine { s.engine with position := if s.comp.output = [] then none else some 0 }

/-- R106, R112, R114: the dot line in flight completes. -/
def completeLine (v : Nat) (s : State) : State :=
  let s := s.setStrobe (shiftHistory ((s.strobe.plan.map (·.counts)).getD []) s.strobe)
  let s := s.setEngine { s.engine with inFlight := false }
  let s := advancePosition s
  if s.comp.output = [] then engineIdle [] s else atBoundary v [] s

/-- DOT_LINE_COMPLETE (R112). -/
def execDotLineComplete (snapVolts : Nat) (s : State) : Host.Outcome State Fault Refusal :=
  performWhen s.engine.inFlight (some snapVolts) (completeLine snapVolts) s

/-- COOL_DOWN_EXPIRY (R107). -/
def execCoolDownExpiry (s : State) : Host.Outcome State Fault Refusal :=
  performWhen s.strobe.coolDown.isRunning none
    (fun s => s.setStrobe { clearHistory s.strobe with coolDown := .stopped }) s

/-- A held Engine takes the state of what stands (R111); any other only records the events. -/
def engineHolds (evs : List PrintEvent) (s : State) : State :=
  match s.engine.state.isHeld, s.engine.standing with
  | true, some h => recordPrint evs (setEngineState h s)
  | _, _ => recordPrint evs s

/-- R115: a reading acts on the paper-present timer while the paper condition is set. -/
def paperTimerAfter (present : Bool) (e : Engine) : Timer :=
  if e.paperCond then
    if present then (if e.paperTimer.isRunning then e.paperTimer else .running 500) else .stopped
  else e.paperTimer

/-- R115: a paper sensor reading; a held Engine judges it. -/
def paperReading (present : Bool) (s : State) : State :=
  let s := s.setEngine { s.engine with paper := present }
  let j := if s.engine.state.isHeld then judgePaper s.engine else (s.engine, [])
  let s := s.setEngine { j.1 with paperTimer := paperTimerAfter present j.1 }
  if j.2 = [] then s else engineHolds j.2 s

/-- PAPER_SENSOR_READING (R115). -/
def execPaperSensorReading (present : Bool) (s : State) : Host.Outcome State Fault Refusal :=
  perform none (paperReading present) s

/-- R111, R115: the paper-present timer reaches 500 ms; the readings that fall at the same moment are judged where the Engine
resumes. -/
def paperRestored (v : Nat) (readings : Coincident) (s : State) : State :=
  engineChanged v [.paperRestored]
    (coincide readings (s.setEngine { s.engine with paperCond := false, paperTimer := .stopped }))

/-- PAPER_PRESENT_EXPIRY (R115). -/
def execPaperPresentExpiry (moment : Resumption) (s : State) : Host.Outcome State Fault Refusal :=
  performWhen s.engine.paperTimer.isRunning (some moment.volts) (paperRestored moment.volts moment.readings) s

/-- R117: the hot timer reaches 30 s.  When it does so again in HALTED, with halt due already set, HALTED and HEAD_SHUTDOWN are
recorded again: the model's choice (log entry 33). -/
def hotHalt (s : State) : State :=
  let s := s.setEngine { s.engine with hotTimer := .stopped, haltDue := true }
  recordFault .headShutdown {} (engineHolds [.halted] s)

/-- HOT_TIMER_EXPIRY (R117). -/
def execHotTimerExpiry (s : State) : Host.Outcome State Fault Refusal :=
  performWhen s.engine.hotTimer.isRunning none hotHalt s

/-- R118: ClearHead; the readings that fall at the same moment are judged where the Engine resumes (R111). -/
def clearHeadEffect (v : Nat) (readings : Coincident) (s : State) : State × List Byte :=
  if s.engine.state = .halted then
    if isCool s.supply.therm then
      replies .done []
        (engineChanged v [.haltCleared] (coincide readings (s.setEngine { s.engine with haltDue := false })))
    else replies .busy [] s
  else replies .done [] s

/-- CLEAR_HEAD (R118): request 12h. -/
def execClearHead (moment : Resumption) (s : State) : Host.Outcome State Fault Refusal :=
  request (some moment.volts) 0x12 [] (clearHeadEffect moment.volts moment.readings) s

end Sys2Proof.Machine
end

