-- ==== Sys2Proof/Machine/Framing.lean ====
section
/-! DEFINITION. The meanings of the Framer's commands (chapter 2). -/

namespace Sys2Proof.Machine

/-- The sampler takes another state. -/
def setSampler (x : Sampler) (s : State) : State := s.setFramer { s.framer with sampler := x }

/-- R19: the sampler hunts. -/
def Sampler.isHunting : Sampler → Bool
  | .hunting => true
  | _ => false

/-- CANDIDATE_START_BIT (R19): a space decision after a mark decision in HUNTING begins a character in the format in force
(R17).  Only in CONNECTED is a decision space (R12). -/
def execCandidateStartBit (s : State) : Host.Outcome State Fault Refusal :=
  performWhen (s.framer.sampler.isHunting && s.modem.state = .connected) none
    (fun s => setSampler (.character s.params.format [.connected]) s) s

/-- R19: the sampler assembles a character. -/
def Sampler.isCharacter : Sampler → Bool
  | .character _ _ => true
  | _ => false

/-- FALSE_START (R19): sample 8 is mark, so the sampler returns to HUNTING. -/
def execFalseStart (s : State) : Host.Outcome State Fault Refusal :=
  performWhen s.framer.sampler.isCharacter none (setSampler .hunting) s

/-- R20, R22: the sounds are those of the character the sampler assembles. -/
def completes (sounds : List (List Sound)) (s : State) : Bool :=
  match s.framer.sampler with
  | .character f states => isCharacter f states sounds
  | _ => false

/-- R20, R23: a character of these samples completes at its first stop bit: it is placed, or held when every sample is space. -/
def characterEnds (f : LineFormat) (samples : List Decision) (s : State) : State :=
  if allSpace samples then setSampler (.breakWatch f (entryOf f samples) false) s
  else placeEntry (entryOf f samples) (setSampler .hunting s)

/-- R12, R20, R22: the character the sampler assembles completes with what was heard. -/
def completeCharacter (sounds : List (List Sound)) (s : State) : State :=
  match s.framer.sampler with
  | .character f states => characterEnds f (decisionsOf states sounds) s
  | _ => s

/-- RECEIVE_CHARACTER_COMPLETE (R20). -/
def execReceiveCharacterComplete (sounds : List (List Sound)) (s : State) : Host.Outcome State Fault Refusal :=
  performWhen (completes sounds s) none (completeCharacter sounds) s

/-- R23: the character held in BREAK_WATCH. -/
def Sampler.heldEntry : Sampler → Option Entry
  | .breakWatch _ e _ => some e
  | _ => none

/-- R23: a break watch that no forced mark has ended. -/
def Sampler.watches : Sampler → Bool
  | .breakWatch _ _ forced => !forced
  | _ => false

/-- BREAK_WATCH_MARK (R23): a mark decision ends the watch and the held character is placed. -/
def execBreakWatchMark (s : State) : Host.Outcome State Fault Refusal :=
  match s.framer.sampler.heldEntry with
  | some e => perform none (fun s => placeEntry e (setSampler .hunting s)) s
  | none => .next s

/-- BREAK_RECEIVED (R24): the held character is discarded, the route is reset (R42) and the break event is recorded.  When the
Modem has left CONNECTED since the watch began, a forced mark has ended it and no break is received (R23). -/
def execBreakReceived (s : State) : Host.Outcome State Fault Refusal :=
  performWhen (s.framer.sampler.watches && s.modem.state = .connected) none
    (fun s => recordLine .break_ none (resetRoute (setSampler .markWait s))) s

/-- MARK_WAIT_END (R24): the sixteenth consecutive mark. -/
def execMarkWaitEnd (s : State) : Host.Outcome State Fault Refusal :=
  performWhen (s.framer.sampler = .markWait) none (setSampler .hunting) s

/-! ### The transmitter -/

/-- SHIFT_STAGE_EMPTIES (R29, R34): the last stop bit ends; the holding character follows, or a waiting break enters
BREAK_SPACE with the break length in force. -/
def execShiftStageEmpties (s : State) : Host.Outcome State Fault Refusal :=
  performWhen (transmitting s && s.framer.shift.isSome && (s.framer.brk = .none || s.framer.brk = .wait)) none
    (fun s => if s.framer.brk = .none then fillShift s
      else s.setFramer { s.framer with shift := none, brk := .space s.params.breakLength }) s

/-- R30: the transmit sources. -/
inductive TxChoice where
  | flow (c : FlowCode)
  | answerback (index : Nat) (code : Code)
  | keyboard (code : Code)
  | send (code : Code)
  | linkText (code : Code)
deriving DecidableEq, Repr

/-- R30: the first eligible source that has a character. -/
def txChoice (s : State) : Option TxChoice :=
  match s.disp.pendingFlow with
  | some c => some (.flow c)
  | none =>
  match s.disp.progress.bind fun k => s.disp.answerback[k]?.map fun c => TxChoice.answerback k c with
  | some t => some t
  | none =>
  match s.kbd.txFifo with
  | c :: _ => some (.keyboard c)
  | [] =>
  if s.disp.remotePause then none
  else match sendOffer s with
  | some c => some (.send c)
  | none =>
  match s.framer.linkText with
  | c :: _ => some (.linkText c)
  | [] => none

/-- R30: the character a source gives. -/
def TxChoice.code (s : State) : TxChoice → Code
  | .flow .pause => s.params.pauseCode
  | .flow .resume => s.params.resumeCode
  | .answerback _ c => c
  | .keyboard c => c
  | .send c => c
  | .linkText c => c

/-- R30: what the source's owner does as its character is taken. -/
def takeFrom (t : TxChoice) (s : State) : State :=
  match t with
  | .flow _ => s.setDisp { s.disp with pendingFlow := none }
  | .answerback k _ =>
    s.setDisp { s.disp with progress := if k + 1 < s.disp.answerback.length then some (k + 1) else none }
  | .keyboard _ => s.setKbd { s.kbd with txFifo := s.kbd.txFifo.tail }
  | .send _ => sendTake s
  | .linkText _ => s.setFramer { s.framer with linkText := s.framer.linkText.tail }

/-- R29: the holding stage takes a character, which passes at once into an empty shift stage. -/
def enterHolding (c : Code) (s : State) : State :=
  let s := s.setFramer { s.framer with holding := some c }
  if s.framer.shift.isSome then s else fillShift s

/-- R29, R30: the holding stage is refilled. -/
def refill (s : State) : State :=
  match txChoice s with
  | some t => enterHolding (t.code s) (takeFrom t s)
  | none => s

/-- HOLDING_STAGE_REFILL (R30). -/
def execHoldingStageRefill (s : State) : Host.Outcome State Fault Refusal :=
  performWhen (transmitting s && s.framer.brk = .none && s.framer.holding = none && (txChoice s).isSome) none refill s

/-- R34: the break is in BREAK_SPACE. -/
def BreakPhase.isSpace : BreakPhase → Bool
  | .space _ => true
  | _ => false

/-- R34: the break is in BREAK_MARK. -/
def BreakPhase.isMark : BreakPhase → Bool
  | .mark _ => true
  | _ => false

/-- BREAK_SPACE_END (R34): mark for one character time, N bit times. -/
def execBreakSpaceEnd (s : State) : Host.Outcome State Fault Refusal :=
  performWhen (transmitting s && s.framer.brk.isSpace) none
    (fun s => s.setFramer { s.framer with brk := .mark s.params.format.bits }) s

/-- BREAK_MARK_END (R34): the break is over and the shift stage takes the holding character. -/
def execBreakMarkEnd (s : State) : Host.Outcome State Fault Refusal :=
  performWhen (transmitting s && s.framer.brk.isMark) none
    (fun s => fillShift (s.setFramer { s.framer with brk := .none })) s

/-- R32: the link text FIFO's capacity. -/
def linkTextCapacity : Nat := 256

/-- R32: TransmitText. -/
def transmitTextEffect (text : List Byte) (s : State) : State × List Byte :=
  if !textLengthOk text then replies .badLength [] s
  else if !textOk text then replies .badValue [] s
  else if s.framer.linkText.length + text.length ≤ linkTextCapacity then
    replies .done [] (s.setFramer { s.framer with linkText := s.framer.linkText ++ textCodes text })
  else replies .full [] s

/-- TRANSMIT_TEXT (R32): request 0Ah. -/
def execTransmitText (text : List Byte) (s : State) : Host.Outcome State Fault Refusal :=
  request none 0x0A text (transmitTextEffect text) s

/-- R33: SendBreak. -/
def sendBreakEffect (s : State) : State × List Byte :=
  if transmitting s then replies .done [] (askBreak s) else replies .notReady [] s

/-- SEND_BREAK (R33): request 0Bh. -/
def execSendBreak (s : State) : Host.Outcome State Fault Refusal := request none 0x0B [] sendBreakEffect s

end Sys2Proof.Machine
end

