-- ==== Sys2Proof/Machine/HeadCheck.lean ====
section
/-! DEFINITION. The meanings of the Head check's commands (chapter 8). -/

namespace Sys2Proof.Machine

/-- R123: the patrol timer runs out and a measurement begins; the timer starts again from zero. -/
def beginMeasurement (s : State) : State :=
  s.setHead { s.head with measuring := true, timer := .running 50 }

/-- ELEMENT_PATROL_EXPIRY (R123). -/
def execElementPatrolExpiry (s : State) : Host.Outcome State Fault Refusal :=
  performWhen s.head.timer.isRunning none beginMeasurement s

/-- R124: the reading of a resistance in milliohms: the whole percentage of the head resistance `ohms` that it comes to, at most
255.  Which way it is rounded is not stated (log entry 15). -/
def elementReading (milliohms ohms : Nat) : Nat :=
  let percent := milliohms / (10 * ohms)
  min 255 (if milliohms % (10 * ohms) ≠ 0 && Config.roundsUp milliohms ohms then percent + 1 else percent)

/-- R124: a reading judged against the two limits. -/
def judgeReading (reading : Nat) : ElementResult :=
  if 150 < reading then .opened else if reading < 50 then .short else .pass

/-- R123: the head block of an element. -/
def headBlock (element : Nat) : Nat := element / 80

/-- The record of head block `b` replaced. -/
def setRecord (b : Nat) (r : HeadRecord) (s : State) : State :=
  s.setHead { s.head with records := put s.head.records b r }

/-- R126: a failing reading that counts. -/
def countFailure (threshold : Nat) (r : HeadRecord) : HeadRecord :=
  { r with count := min threshold (r.count + 1), failed := true }

/-- R127: a failing reading of element `e` has left block `b`'s count at the threshold, in record `r`. -/
def atThreshold (e b : Nat) (r : HeadRecord) (s : State) : State :=
  match r.mark with
  | none => recordHead .newMark (some b) (setRecord b { r with mark := some e, count := 0 } s)
  | some _ =>
    if r.degraded then setRecord b r s
    else recordHead .degraded (some b)
      (recordFault .headDegraded { headBlock := some b } (setRecord b { r with degraded := true } s))

/-- R126: a failing reading of element `e`. -/
def failReading (e : Nat) (s : State) : State :=
  let b := headBlock e
  let r := nth s.head.records b {}
  if r.mark = some e then s
  else
    let r := countFailure s.params.faultThreshold r
    if r.count = s.params.faultThreshold then atThreshold e b r s else setRecord b r s

/-- R128: the end of a full pass acts on a block record. -/
def HeadRecord.endPass (r : HeadRecord) : HeadRecord :=
  if r.failed then { r with clean := 0, failed := false }
  else if r.clean + 1 = 4 then { r with count := r.count - 1, clean := 0 }
  else { r with clean := r.clean + 1 }

/-- R125: the patrol index advances; its wrap ends a full pass. -/
def advancePatrol (s : State) : State :=
  if s.head.index + 1 < headDots then s.setHead { s.head with index := s.head.index + 1 }
  else s.setHead { s.head with
    index := 0, passes := min 65535 (s.head.passes + 1), records := s.head.records.map HeadRecord.endPass }

/-- R124, R125: the measurement completes with a reading, taken with the head resistance in force now (R94). -/
def completeMeasurement (milliohms : Nat) (s : State) : State :=
  let reading := elementReading milliohms s.params.headResistance
  let result := judgeReading reading
  let e := s.head.index
  let s := s.setHead { s.head with measuring := false, last := some ⟨result, e, reading⟩ }
  advancePatrol (if result = .pass then s else failReading e s)

/-- ELEMENT_MEASUREMENT_COMPLETE (R124). -/
def execElementMeasurementComplete (milliohms : Nat) (s : State) : Host.Outcome State Fault Refusal :=
  performWhen s.head.measuring none (completeMeasurement milliohms) s

/-- R182: the element of SetHeadMark that stands for none. -/
def noElement : Half := 0xFFFF

/-- R129: SetHeadMark. -/
def setHeadMarkEffect (block : Byte) (element : Half) (s : State) : State × List Byte :=
  if 7 < block.toNat then replies .badValue [] s
  else if element = noElement then replies .done [] (setRecord block.toNat {} s)
  else if headBlock element.toNat = block.toNat then
    replies .done [] (setRecord block.toNat { mark := some element.toNat } s)
  else replies .badValue [] s

/-- SET_HEAD_MARK (R129): request 14h. -/
def execSetHeadMark (block : Byte) (element : Half) (s : State) : Host.Outcome State Fault Refusal :=
  request none 0x14 ([block] ++ halfBytes element) (setHeadMarkEffect block element) s

/-- R130: ClearHeadMap. -/
def clearHeadMapEffect (s : State) : State × List Byte :=
  replies .done [] (s.setHead { s.head with records := Vector.replicate 8 {} })

/-- CLEAR_HEAD_MAP (R130): request 15h. -/
def execClearHeadMap (s : State) : Host.Outcome State Fault Refusal := request none 0x15 [] clearHeadMapEffect s

/-- R182: a block record in ReadHeadMap's reply. -/
def HeadRecord.bytes (r : HeadRecord) : List Byte :=
  byte1 r.count ++ opt2 r.mark ++ flag1 r.degraded ++ byte1 r.clean

/-- R130: ReadHeadMap. -/
def readHeadMapEffect (s : State) : State × List Byte :=
  replies .done (flag1 s.params.elementPatrol ++ byte2 s.head.index ++ byte2 s.head.passes
    ++ byte1 s.params.faultThreshold ++ s.head.records.toList.flatMap HeadRecord.bytes) s

/-- READ_HEAD_MAP (R130): request 13h. -/
def execReadHeadMap (s : State) : Host.Outcome State Fault Refusal := request none 0x13 [] readHeadMapEffect s

end Sys2Proof.Machine
end

