-- ==== Sys2Proof/Machine/Keyboard.lean ====
section
/-! DEFINITION. The meanings of the Keyboard's commands (chapter 4). -/

namespace Sys2Proof.Machine

/-- KEY_SCAN (R55): every 4 ms, one snapshot of the 64 positions. -/
def execKeyScan (snapshot : KeyMatrix) (s : State) : Host.Outcome State Fault Refusal := perform none (scan snapshot) s

/-- TRANSLATE_KEY_HEAD (R61). -/
def execTranslateKeyHead (snapVolts : Nat) (s : State) : Host.Outcome State Fault Refusal :=
  performWhen (s.kbd.events ≠ []) (some snapVolts) judgeHead s

/-- R67: the auto-repeat timer runs out: a REPEAT is placed or skipped, and the timer starts again for the interval. -/
def repeatDue (a : AutoRepeat) (s : State) : State :=
  let s := if eventRoom s then pushEvent a.position .rep s else s
  s.setKbd { s.kbd with autoRepeat := some { a with timer := .running s.params.repeatInterval } }

/-- AUTO_REPEAT_EXPIRY (R67). -/
def execAutoRepeatExpiry (s : State) : Host.Outcome State Fault Refusal :=
  match s.kbd.autoRepeat with
  | some a => perform none (repeatDue a) s
  | none => .next s

/-- R64: the feed repeat of the key at position `p` comes round: a further feed when the previous one has completed. -/
def feedDue (p : Nat) (s : State) : State :=
  let s := if s.comp.output.any (Job.isFeedOf p) then s else keyFeed p s
  s.setKbd { s.kbd with feedRepeats := s.kbd.feedRepeats.map fun f =>
    if f.position = p then { f with timer := .running s.params.repeatInterval } else f }

/-- FEED_REPEAT_EXPIRY (R64). -/
def execFeedRepeatExpiry (position snapVolts : Nat) (s : State) : Host.Outcome State Fault Refusal :=
  performWhen (s.kbd.feedRepeats.any (·.position = position)) (some snapVolts) (feedDue position) s

/-- BEEPER_TONE_END (R70): one tone of this length ends. -/
def execBeeperToneEnd (tone : Tone) (s : State) : Host.Outcome State Fault Refusal :=
  performWhen (s.kbd.tones.contains tone) none (fun s => s.setKbd { s.kbd with tones := s.kbd.tones.erase tone }) s

/-- R59: SetKeymapEntry, on which the translator judges its waiting head afresh (R61). -/
def setKeymapEntryEffect (position layer entry : Byte) (s : State) : State × List Byte :=
  if 63 < position.toNat || 2 < layer.toNat || 0x86 < entry.toNat then replies .badValue [] s
  else
    let p := position.toNat
    replies .done [] ((readEcho s).setKbd (match layer.toNat with
      | 0 => { s.kbd with plain := put s.kbd.plain p entry }
      | 1 => { s.kbd with shift := put s.kbd.shift p entry }
      | _ => { s.kbd with control := put s.kbd.control p entry }))

/-- SET_KEYMAP_ENTRY (R59): request 18h. -/
def execSetKeymapEntry (position layer entry : Byte) (s : State) : Host.Outcome State Fault Refusal :=
  request none 0x18 [position, layer, entry] (setKeymapEntryEffect position layer entry) s

/-- R62: SetKeyboardMode. -/
def setKeyboardModeEffect (mode : Byte) (s : State) : State × List Byte :=
  match KeyMode.ofByte mode with
  | some m => replies .done [] (s.setKbd { s.kbd with mode := m, autoRepeat := none })
  | none => replies .badValue [] s

/-- SET_KEYBOARD_MODE (R62): request 1Ah. -/
def execSetKeyboardMode (mode : Byte) (s : State) : Host.Outcome State Fault Refusal :=
  request none 0x1A [mode] (setKeyboardModeEffect mode) s

/-- R66: LockKeyboard; setting the lock on clears the auto-repeat record. -/
def lockKeyboardEffect (lock : Byte) (s : State) : State × List Byte :=
  match lock.toNat with
  | 0 => replies .done [] (s.setKbd { s.kbd with lock := false })
  | 1 => replies .done [] (s.setKbd { s.kbd with lock := true, autoRepeat := none })
  | _ => replies .badValue [] s

/-- LOCK_KEYBOARD (R66): request 1Bh. -/
def execLockKeyboard (lock : Byte) (s : State) : Host.Outcome State Fault Refusal :=
  request none 0x1B [lock] (lockKeyboardEffect lock) s

/-- R182: an event of the relay key queue in a reply: its position, with 80h added for BREAK. -/
def KeyEvent.relayByte (e : KeyEvent) : Byte :=
  BitVec.ofNat 8 (e.position + if e.kind = .brk then 0x80 else 0)

/-- R69: ReadKeys. -/
def readKeysEffect (s : State) : State × List Byte :=
  let taken := s.kbd.relay.take relayCapacity
  replies .done (byte1 taken.length ++ taken.map KeyEvent.relayByte)
    (s.setKbd { s.kbd with relay := s.kbd.relay.drop relayCapacity })

/-- READ_KEYS (R69): request 19h. -/
def execReadKeys (s : State) : Host.Outcome State Fault Refusal := request none 0x19 [] readKeysEffect s

end Sys2Proof.Machine
end

