-- ==== Sys2Proof/Machine/Link.lean ====
section
/-! DEFINITION. The meanings of the Control link's own commands: bytes received, the gap timer, frames sent, and requests
outside the catalogue (chapter 12). -/

namespace Sys2Proof.Machine

/-! ### The request a command is (R182) -/

/-- R182: the kind and payload of the frame that a request command came in; `none` for a command that is no request. -/
def requestOf (i : Instr) : Option Request :=
  match i with
  | .identify => some ⟨0x01, []⟩
  | .getStatus n => some ⟨0x02, [n]⟩
  | .setParameter id v => some ⟨0x03, [id] ++ halfBytes v⟩
  | .getParameter id => some ⟨0x04, [id]⟩
  | .reset => some ⟨0x05, []⟩
  | .readFaults => some ⟨0x06, []⟩
  | .clearFaults => some ⟨0x07, []⟩
  | .connect r => some ⟨0x08, [r]⟩
  | .drop => some ⟨0x09, []⟩
  | .transmitText text => some ⟨0x0A, text⟩
  | .sendBreak => some ⟨0x0B, []⟩
  | .setAnswerback text => some ⟨0x0C, text⟩
  | .printText text => some ⟨0x10, text⟩
  | .paperFeed n _ => some ⟨0x11, [n]⟩
  | .clearHead _ => some ⟨0x12, []⟩
  | .readHeadMap => some ⟨0x13, []⟩
  | .setHeadMark b e => some ⟨0x14, [b] ++ halfBytes e⟩
  | .clearHeadMap => some ⟨0x15, []⟩
  | .setKeymapEntry p l e => some ⟨0x18, [p, l, e]⟩
  | .readKeys => some ⟨0x19, []⟩
  | .setKeyboardMode m => some ⟨0x1A, [m]⟩
  | .lockKeyboard l => some ⟨0x1B, [l]⟩
  | .storeInfo => some ⟨0x20, []⟩
  | .docList => some ⟨0x21, []⟩
  | .docInfo d => some ⟨0x22, [d]⟩
  | .delete d => some ⟨0x23, [d]⟩
  | .composeStart d a => some ⟨0x24, [d, a]⟩
  | .composeEnd => some ⟨0x25, []⟩
  | .send d => some ⟨0x26, [d]⟩
  | .stopSend => some ⟨0x27, []⟩
  | .reprint d m => some ⟨0x28, [d, m]⟩
  | .stopReprint => some ⟨0x29, []⟩
  | .storeReadBlock i => some ⟨0x2A, halfBytes i⟩
  | .formatStore => some ⟨0x2B, []⟩
  | .remount => some ⟨0x2C, []⟩
  | .unknownRequest k p => some ⟨k, p⟩
  | .carrierMeasurement _ | .qualifyTimeExpiry | .connectTimeout | .lossTimeExpiry | .receiveCharacterComplete _
  | .breakWatchMark | .breakReceived | .markWaitEnd | .dispatchHead | .textHeadDelivery | .shiftStageEmpties
  | .holdingStageRefill | .breakSpaceEnd | .breakMarkEnd | .keyScan _ | .translateKeyHead _ | .autoRepeatExpiry
  | .feedRepeatExpiry _ _ | .beeperToneEnd _ | .printDeposit _ | .ownershipTimeout | .composerTakeHead _
  | .idleFlushExpiry _ | .dotLineComplete _ | .coolDownExpiry | .paperSensorReading _ | .paperPresentExpiry _
  | .hotTimerExpiry | .elementPatrolExpiry | .elementMeasurementComplete _ | .statusReadComplete _ | .blockReadRetry
  | .blockReadComplete _ | .writeCompareMismatch | .blockWriteAttemptComplete _ | .storePatrolExpiry
  | .supplyMeasurement _ _ _ | .powerOn | .startUp _ _ _ | .linkByteReceived _ _ | .gapTimeout | .linkFrameSent
  | .candidateStartBit | .falseStart => none

/-- R177: the outcome of a request that cannot be carried out; `none` for one that the catalogue allows. -/
def unknownOutcome (kind : Byte) (payload : List Byte) : Option ReplyCode :=
  match catalogueLengths kind.toNat with
  | none => some .unknownKind
  | some (lo, hi) => if lo ≤ payload.length && payload.length ≤ hi then none else some .badLength

/-- UNKNOWN_REQUEST (R177): answered UNKNOWN_KIND or BAD_LENGTH in its turn. -/
def execUnknownRequest (kind : Byte) (payload : List Byte) (s : State) : Host.Outcome State Fault Refusal :=
  match unknownOutcome kind payload with
  | none => .next s
  | some c =>
    if kind = 0 || 0x40 ≤ kind.toNat then perform none (frameArrives ⟨kind, payload⟩) s
    else request none kind payload (replies c []) s

/-! ### The receiver (R176, R177) -/

/-- R176: the receiver's new place with its gap timer, which runs from a byte received in KIND, LENGTH, PAYLOAD or CHECK while
the frame is not complete. -/
def setRx (rx : LinkRx) (gap : Timer) (s : State) : State := s.setLink { s.link with rx := rx, gapTimer := gap }

/-- R176: the gap timer's 10 ms. -/
def gapLimit : Timer := .running 10

/-- R176: the receiver returns to HUNT. -/
def toHunt (s : State) : State := setRx .hunt .stopped s

/-- R175, R177: the sum of Kind, Length, Payload and Check is 00h. -/
def checkHolds (kind length : Byte) (payload : List Byte) (check : Byte) : Bool :=
  kind + length + payload.foldl (· + ·) 0 + check = 0

/-- R177: a completed frame is judged. -/
def judgeFrame (kind length : Byte) (payload : List Byte) (check : Byte) (s : State) : State :=
  if checkHolds kind length payload check then frameArrives ⟨kind, payload⟩ s else makeReject 0x20 kind s

/-- R176: a byte with a good stop bit. -/
def receiveByte (b : Byte) (s : State) : State :=
  match s.link.rx with
  | .hunt => if b = 0xA5 then setRx .kind .stopped s else s
  | .kind => setRx (.length b) gapLimit s
  | .length k =>
    if 240 < b.toNat then toHunt s
    else if b = 0 then setRx (.check k b []) gapLimit s
    else setRx (.payload k b []) gapLimit s
  | .payload k n got =>
    if n.toNat ≤ got.length + 1 then setRx (.check k n (got ++ [b])) gapLimit s
    else setRx (.payload k n (got ++ [b])) gapLimit s
  | .check k n got => judgeFrame k n got b (toHunt s)

/-- LINK_BYTE_RECEIVED (R176): a byte with a bad stop bit is discarded, and so is the partial frame. -/
def execLinkByteReceived (byte : Byte) (goodStop : Bool) (s : State) : Host.Outcome State Fault Refusal :=
  perform none (if goodStop then receiveByte byte else toHunt) s

/-- GAP_TIMEOUT (R176). -/
def execGapTimeout (s : State) : Host.Outcome State Fault Refusal :=
  performWhen s.link.gapTimer.isRunning none toHunt s

/-! ### The transmitter (R179, R180) -/

/-- R179: the last byte of a frame has been sent; a reply's slot empties. -/
def frameGone (f : TxFrame) (s : State) : State :=
  s.setLink { s.link with
    sending := none
    reply := if f.source = .reply then none else s.link.reply }

/-- R172: the frame is the reply DONE to Reset. -/
def isResetReply (f : TxFrame) : Bool := f.source = .reply && f.kind = 0x85 && f.payload = [ReplyCode.done.byte]

/-- R172, R180: a frame has gone; after the reply to Reset the LINK reset takes hold. -/
def frameSent (f : TxFrame) (s : State) : State :=
  if isResetReply f then resetPart .link (frameGone f s) else frameGone f s

/-- LINK_FRAME_SENT (R180): the transmitter chooses again. -/
def execLinkFrameSent (s : State) : Host.Outcome State Fault Refusal :=
  match s.link.sending with
  | some f => perform none (frameSent f) s
  | none => .next s

end Sys2Proof.Machine
end

