-- ==== Sys2Proof/Machine/Modem.lean ====
section
/-! DEFINITION. The meanings of the Modem's commands (chapter 1). -/

namespace Sys2Proof.Machine

/-- R2: what a carrier level measurement reads: at most 63. -/
def carrierLevel (level : Nat) : Nat := min level 63

/-- R7: a measurement in WAIT_CARRIER acts on the qualify timer. -/
def qualifyMeasure (s : State) : State :=
  s.setModem { s.modem with
    qualify := if s.params.onThreshold ≤ s.modem.level then
        if s.modem.qualify.isRunning then s.modem.qualify else .running s.params.qualifyTime
      else .stopped }

/-- R9: a measurement in CONNECTED may begin a dropout. -/
def dropoutMeasure (s : State) : State :=
  if s.modem.level < s.params.offThreshold then
    recordModem .dropoutBegan (modemBecomes { s.modem with state := .dropout, loss := .running s.params.lossTime } s)
  else s

/-- R10: a measurement in DROPOUT may end it. -/
def recoverMeasure (s : State) : State :=
  if s.params.onThreshold ≤ s.modem.level then
    recordModem .dropoutEnded (modemBecomes { s.modem with state := .connected, loss := .stopped } s)
  else s

/-- R2, R7, R9, R10: a carrier level measurement acts by the modem state. -/
def measureCarrier (level : Nat) (s : State) : State :=
  let s := s.setModem { s.modem with level := carrierLevel level }
  match s.modem.state with
  | .idle => s
  | .waitCarrier => qualifyMeasure s
  | .connected => dropoutMeasure s
  | .dropout => recoverMeasure s

/-- CARRIER_MEASUREMENT (R2): in IDLE the receiver is off and takes none. -/
def execCarrierMeasurement (level : Nat) (s : State) : Host.Outcome State Fault Refusal :=
  performWhen (s.modem.state ≠ .idle) none (measureCarrier level) s

/-- R29: the empty holding stage takes a character, if a source has one. -/
def takeFirst (s : State) : State := if s.framer.holding = none then refill s else s

/-- R52: what the transmitter takes before the flow conditions are judged: no character, one, or one and one more. -/
def startTransmitter (first : Nat) (s : State) : State :=
  match first with
  | 0 => s
  | 1 => takeFirst s
  | _ => takeFirst (takeFirst s)

/-- R52: how many characters that is, a free value (log entry 40). -/
def takenFirst (s : State) : Nat := min 2 (Config.takenFirst s.draws)

/-- R7, R28, R42, R52: entry into CONNECTED from WAIT_CARRIER.  R52 allows the Framer's reaction before the Dispatcher's and after
it, and which comes about is free.  That remote-pause clears before the transmitter takes a character, and that the flow conditions are
judged under the route in force before the route reset, and again by it, is the model's choice (log entry 40). -/
def enterConnected (s : State) : State :=
  let first := takenFirst s
  let s := s.setDraws (s.draws + 1)
  let s := modemBecomes { s.modem with state := .connected, qualify := .stopped, connect := .stopped } s
  let s := recordModem .connected s
  resetRoute (judgeFlow (startTransmitter first (resetFlow (clearTransmitter s))))

/-- QUALIFY_TIME_EXPIRY (R7). -/
def execQualifyTimeExpiry (s : State) : Host.Outcome State Fault Refusal :=
  performWhen (s.modem.state = .waitCarrier && s.modem.qualify.isRunning) none enterConnected s

/-- CONNECT_TIMEOUT (R8). -/
def execConnectTimeout (s : State) : Host.Outcome State Fault Refusal :=
  performWhen (s.modem.state = .waitCarrier && s.modem.connect.isRunning) none (enterIdle .connectFailed) s

/-- LOSS_TIME_EXPIRY (R10). -/
def execLossTimeExpiry (s : State) : Host.Outcome State Fault Refusal :=
  performWhen (s.modem.state = .dropout && s.modem.loss.isRunning) none (enterIdle .carrierLost) s

/-- R182: the role a byte names. -/
def Role.ofByte (b : Byte) : Option Role :=
  match b.toNat with
  | 0 => some .originate
  | 1 => some .answer
  | _ => none

/-- R6: Connect. -/
def connectEffect (role : Byte) (s : State) : State × List Byte :=
  match Role.ofByte role with
  | none => replies .badValue [] s
  | some r =>
    if s.modem.state = .idle then
      replies .done [] (modemBecomes { s.modem with
        state := .waitCarrier, role := some r, level := 0, connect := .running s.params.connectTimeout } s)
    else replies .busy [] s

/-- CONNECT (R6): request 08h. -/
def execConnect (role : Byte) (s : State) : Host.Outcome State Fault Refusal :=
  request none 0x08 [role] (connectEffect role) s

/-- R11: Drop. -/
def dropEffect (s : State) : State × List Byte :=
  if s.modem.state = .idle then replies .done [] s else replies .done [] (enterIdle .dropped s)

/-- DROP (R11): request 09h. -/
def execDrop (s : State) : Host.Outcome State Fault Refusal := request none 0x09 [] dropEffect s

end Sys2Proof.Machine
end

