-- ==== Sys2Proof/Machine/Params.lean ====
section
/-! DEFINITION. The parameter table and the meanings of SetParameter and GetParameter (R181 and the owners' rules). -/

namespace Sys2Proof.Machine

/-- R181: the parameters, in the order of the table. -/
inductive Param where
  | bitRate | onThreshold | offThreshold | qualifyTime | lossTime | connectTimeout | attenuation
  | parity | stopBits | routeBit | breakLength
  | defaultRoute | flowControl | pauseCode | resumeCode | highWater | lowWater
  | composeEcho | repeatDelay | repeatInterval
  | ownershipTimeout | autoWrap | autoLf | tabInterval | formLength | idleFlush
  | darkness | headResistance | currentBudget
  | elementPatrol | faultThreshold
  | sectorThreshold | patrolInterval
  | takeReplaces | sendEndCode
  | lowThreshold | criticalThreshold
  | reportMask
deriving DecidableEq, Repr

/-- R181: the parameter of an id. -/
def Param.ofId (id : Nat) : Option Param :=
  match id with
  | 0x01 => some .bitRate | 0x02 => some .onThreshold | 0x03 => some .offThreshold | 0x04 => some .qualifyTime
  | 0x05 => some .lossTime | 0x06 => some .connectTimeout | 0x07 => some .attenuation | 0x08 => some .parity
  | 0x09 => some .stopBits | 0x0A => some .routeBit | 0x0B => some .breakLength
  | 0x10 => some .defaultRoute | 0x11 => some .flowControl | 0x12 => some .pauseCode | 0x13 => some .resumeCode
  | 0x14 => some .highWater | 0x15 => some .lowWater
  | 0x18 => some .composeEcho | 0x19 => some .repeatDelay | 0x1A => some .repeatInterval
  | 0x20 => some .ownershipTimeout | 0x21 => some .autoWrap | 0x22 => some .autoLf | 0x23 => some .tabInterval
  | 0x24 => some .formLength | 0x25 => some .idleFlush
  | 0x28 => some .darkness | 0x29 => some .headResistance | 0x2A => some .currentBudget
  | 0x2C => some .elementPatrol | 0x2D => some .faultThreshold
  | 0x30 => some .sectorThreshold | 0x31 => some .patrolInterval
  | 0x34 => some .takeReplaces | 0x35 => some .sendEndCode
  | 0x38 => some .lowThreshold | 0x39 => some .criticalThreshold
  | 0x3C => some .reportMask
  | _ => none

/-- R181: the line parameters, marked L. -/
def Param.isLine : Param → Bool
  | .bitRate | .onThreshold | .offThreshold | .qualifyTime | .lossTime | .connectTimeout | .attenuation
  | .parity | .stopBits | .routeBit | .flowControl | .pauseCode | .resumeCode => true
  | .breakLength | .defaultRoute | .highWater | .lowWater | .composeEcho | .repeatDelay | .repeatInterval
  | .ownershipTimeout | .autoWrap | .autoLf | .tabInterval | .formLength | .idleFlush
  | .darkness | .headResistance | .currentBudget | .elementPatrol | .faultThreshold
  | .sectorThreshold | .patrolInterval | .takeReplaces | .sendEndCode
  | .lowThreshold | .criticalThreshold | .reportMask => false

/-- A flag as a parameter value. -/
def flagValue (b : Bool) : Nat := if b then 1 else 0

/-- The parity parameter's value. -/
def Parity.code : Parity → Nat
  | .none => 0 | .even => 1 | .odd => 2

/-- The parity of a value. -/
def Parity.ofValue (v : Nat) : Parity := if v = 0 then .none else if v = 1 then .even else .odd

/-- R181: the value in force of a parameter. -/
def Param.get (p : Params) : Param → Nat
  | .bitRate => p.bitRate
  | .onThreshold => p.onThreshold
  | .offThreshold => p.offThreshold
  | .qualifyTime => p.qualifyTime
  | .lossTime => p.lossTime
  | .connectTimeout => p.connectTimeout
  | .attenuation => p.attenuation
  | .parity => p.parity.code
  | .stopBits => p.stopBits
  | .routeBit => flagValue p.routeBit
  | .breakLength => p.breakLength
  | .defaultRoute => p.defaultRoute
  | .flowControl => flagValue p.flowControl
  | .pauseCode => p.pauseCode.toNat
  | .resumeCode => p.resumeCode.toNat
  | .highWater => p.highWater
  | .lowWater => p.lowWater
  | .composeEcho => flagValue p.composeEcho
  | .repeatDelay => p.repeatDelay
  | .repeatInterval => p.repeatInterval
  | .ownershipTimeout => p.ownershipTimeout
  | .autoWrap => flagValue p.autoWrap
  | .autoLf => flagValue p.autoLf
  | .tabInterval => p.tabInterval
  | .formLength => p.formLength
  | .idleFlush => p.idleFlush
  | .darkness => p.darkness
  | .headResistance => p.headResistance
  | .currentBudget => p.currentBudget
  | .elementPatrol => flagValue p.elementPatrol
  | .faultThreshold => p.faultThreshold
  | .sectorThreshold => p.sectorThreshold
  | .patrolInterval => p.patrolInterval
  | .takeReplaces => flagValue p.takeReplaces
  | .sendEndCode => p.sendEndCode.toNat
  | .lowThreshold => p.lowThreshold
  | .criticalThreshold => p.criticalThreshold
  | .reportMask => p.reportMask.toNat

/-- A SetParameter that is stored: the table after it, and whether any value was adjusted. -/
structure Stored where
  params   : Params
  adjusted : Bool
deriving DecidableEq, Repr

/-- R181: a numeric value clamped to its range and stored. -/
def storeNumeric (lo hi v : Nat) (f : Nat → Params) : Option Stored :=
  some ⟨f (clamp lo hi v), clamp lo hi v ≠ v⟩

/-- R181: an on-off value. -/
def storeFlag (v : Nat) (f : Bool → Params) : Option Stored :=
  if v ≤ 1 then some ⟨f (v = 1), false⟩ else none

/-- R181: a value of a list. -/
def storeListed (ok : Bool) (p : Params) : Option Stored := if ok then some ⟨p, false⟩ else none

/-- R3: the on threshold, which may lower the off threshold. -/
def storeOn (v : Nat) (p : Params) : Stored :=
  let on := clamp 8 40 v
  let off := min p.offThreshold (on - 2)
  ⟨{ p with onThreshold := on, offThreshold := off }, on ≠ v || off ≠ p.offThreshold⟩

/-- R3: the off threshold. -/
def storeOff (v : Nat) (p : Params) : Stored :=
  let off := min (clamp 6 38 v) (p.onThreshold - 2)
  ⟨{ p with offThreshold := off }, off ≠ v⟩

/-- R49: high-water, which may lower low-water. -/
def storeHigh (v : Nat) (p : Params) : Stored :=
  let high := clamp 64 480 v
  let low := min p.lowWater (high - 32)
  ⟨{ p with highWater := high, lowWater := low }, high ≠ v || low ≠ p.lowWater⟩

/-- R49: low-water. -/
def storeLow (v : Nat) (p : Params) : Stored :=
  let low := min (clamp 32 448 v) (p.highWater - 32)
  ⟨{ p with lowWater := low }, low ≠ v⟩

/-- R170: the low threshold, which may lower the critical threshold. -/
def storeLowThreshold (v : Nat) (p : Params) : Stored :=
  let low := clamp 5400 7000 v
  let critical := min p.criticalThreshold (low - 200)
  ⟨{ p with lowThreshold := low, criticalThreshold := critical }, low ≠ v || critical ≠ p.criticalThreshold⟩

/-- R170: the critical threshold. -/
def storeCritical (v : Nat) (p : Params) : Stored :=
  let critical := min (clamp 5000 6000 v) (p.lowThreshold - 200)
  ⟨{ p with criticalThreshold := critical }, critical ≠ v⟩

/-- R181, steps 3 and 4: a value is stored, or refused BAD_VALUE (`none`). -/
def Param.store (v : Nat) (p : Params) : Param → Option Stored
  | .bitRate => storeListed (v = 110 || v = 150 || v = 300) { p with bitRate := v }
  | .onThreshold => some (storeOn v p)
  | .offThreshold => some (storeOff v p)
  | .qualifyTime => storeNumeric 200 3000 v fun x => { p with qualifyTime := x }
  | .lossTime => storeNumeric 100 2000 v fun x => { p with lossTime := x }
  | .connectTimeout => storeNumeric 5 60 v fun x => { p with connectTimeout := x }
  | .attenuation => storeNumeric 0 15 v fun x => { p with attenuation := x }
  | .parity => storeListed (v ≤ 2) { p with parity := Parity.ofValue v }
  | .stopBits => storeListed (v = 1 || v = 2) { p with stopBits := v }
  | .routeBit => storeFlag v fun b => { p with routeBit := b }
  | .breakLength => storeNumeric 100 1000 v fun x => { p with breakLength := x }
  | .defaultRoute => storeListed (v ≤ 31 || (33 ≤ v && v ≤ 64)) { p with defaultRoute := v }
  | .flowControl => storeFlag v fun b => { p with flowControl := b }
  | .pauseCode => storeListed (v ≤ 0x7F && v ≠ p.resumeCode.toNat) { p with pauseCode := BitVec.ofNat 7 v }
  | .resumeCode => storeListed (v ≤ 0x7F && v ≠ p.pauseCode.toNat) { p with resumeCode := BitVec.ofNat 7 v }
  | .highWater => some (storeHigh v p)
  | .lowWater => some (storeLow v p)
  | .composeEcho => storeFlag v fun b => { p with composeEcho := b }
  | .repeatDelay => storeNumeric 200 1500 v fun x => { p with repeatDelay := x }
  | .repeatInterval => storeNumeric 30 500 v fun x => { p with repeatInterval := x }
  | .ownershipTimeout => storeNumeric 1 10 v fun x => { p with ownershipTimeout := x }
  | .autoWrap => storeFlag v fun b => { p with autoWrap := b }
  | .autoLf => storeFlag v fun b => { p with autoLf := b }
  | .tabInterval => storeNumeric 1 16 v fun x => { p with tabInterval := x }
  | .formLength => storeNumeric 0 127 v fun x => { p with formLength := x }
  | .idleFlush => storeNumeric 0 10 v fun x => { p with idleFlush := x }
  | .darkness => storeNumeric 0 7 v fun x => { p with darkness := x }
  | .headResistance => storeNumeric 80 200 v fun x => { p with headResistance := x }
  | .currentBudget => storeNumeric 500 4000 v fun x => { p with currentBudget := x }
  | .elementPatrol => storeFlag v fun b => { p with elementPatrol := b }
  | .faultThreshold => storeNumeric 1 15 v fun x => { p with faultThreshold := x }
  | .sectorThreshold => storeNumeric 1 15 v fun x => { p with sectorThreshold := x }
  | .patrolInterval => storeNumeric 0 255 v fun x => { p with patrolInterval := x }
  | .takeReplaces => storeFlag v fun b => { p with takeReplaces := b }
  | .sendEndCode => storeListed (v ≤ 0x7F) { p with sendEndCode := BitVec.ofNat 7 v }
  | .lowThreshold => some (storeLowThreshold v p)
  | .criticalThreshold => some (storeCritical v p)
  | .reportMask => storeListed (v < 0x400) { p with reportMask := BitVec.ofNat 16 v }

/-! ### What a stored value does at once -/

/-- R123, R124: the element patrol set on or off. -/
def patrolSet (was : Bool) (s : State) : State :=
  if s.params.elementPatrol then
    if !was && s.engine.state = .idle then s.setHead { s.head with timer := .running 50 } else s
  else s.setHead { s.head with timer := .stopped, measuring := false }

/-- R123: a new element fault threshold lowers the fault counts to it. -/
def lowerCounts (s : State) : State :=
  s.setHead { s.head with
    records := s.head.records.map fun r => { r with count := min r.count s.params.faultThreshold } }

/-- R141: a new sector threshold. -/
def lowerSectors (s : State) : State :=
  s.setStore { s.store with sectors := s.store.sectors.map (Sector.withThreshold s.params.sectorThreshold) }

/-- R146: a new patrol interval: 0 stops the timer, and a change from 0 starts it in READY. -/
def intervalSet (was : Nat) (s : State) : State :=
  if s.params.patrolInterval = 0 then s.setStore { s.store with patrolTimer := .stopped }
  else if was = 0 && s.store.state = .ready then
    s.setStore { s.store with patrolTimer := .running s.params.patrolInterval }
  else s

/-- What a SetParameter does beside storing the value; `old` is the table before it.  Flow control set off leaves a remote-pause
that a pause code left in the FIFO has set in IDLE (R43) until the next entry into CONNECTED: the model's choice (log entry
44). -/
def paramSet (old : Params) (k : Param) (s : State) : State :=
  match k with
  | .formLength => s.setComp { s.comp with formCount := 0 }
  | .highWater => judgeFlow s
  | .lowWater => judgeFlow s
  | .elementPatrol => patrolSet old.elementPatrol s
  | .faultThreshold => lowerCounts s
  | .sectorThreshold => lowerSectors s
  | .patrolInterval => intervalSet old.patrolInterval s
  | .reportMask => s.setReports (s.reports.keep s.params.reportMask)
  | _ => s

/-- R181: the fields of a reply: the id and the value in force. -/
def paramFields (id : Byte) (k : Param) (s : State) : List Byte := [id] ++ byte2 (k.get s.params)

/-- R181: SetParameter. -/
def setParameterEffect (id : Byte) (value : Half) (s : State) : State × List Byte :=
  match Param.ofId id.toNat with
  | none => replies .noSuch [] s
  | some k =>
    if k.isLine && s.modem.state ≠ .idle then replies .busy [] s
    else match k.store value.toNat s.params with
    | none => replies .badValue [] s
    | some r =>
      let t := paramSet s.params k (s.setParams r.params)
      replies (if r.adjusted then .doneClamped else .done) (paramFields id k t) t

/-- SET_PARAMETER (R181): request 03h. -/
def execSetParameter (id : Byte) (value : Half) (s : State) : Host.Outcome State Fault Refusal :=
  request none 0x03 ([id] ++ halfBytes value) (setParameterEffect id value) s

/-- R181: GetParameter. -/
def getParameterEffect (id : Byte) (s : State) : State × List Byte :=
  match Param.ofId id.toNat with
  | none => replies .noSuch [] s
  | some k => replies .done (paramFields id k s) s

/-- GET_PARAMETER (R181): request 04h. -/
def execGetParameter (id : Byte) (s : State) : Host.Outcome State Fault Refusal :=
  request none 0x04 [id] (getParameterEffect id) s

end Sys2Proof.Machine
end

