-- ==== Sys2Proof/Machine/Status.lean ====
section
/-! DEFINITION. GetStatus section by section (R183), and the meanings of Identify, GetStatus, ReadFaults and ClearFaults. -/

namespace Sys2Proof.Machine

/-- Section 0, Modem (R2, R14).  Both rules name the carrier level: that it is sent once, in R2's place, before the state and the
role, is the model's choice (log entry 18). -/
def modemStatus (s : State) : List Byte :=
  byte1 s.modem.level ++ byte1 s.modem.state.code ++ opt1 (s.modem.role.map (·.code))

/-- Section 1, Framer (R25, R27, R29, R32). -/
def framerStatus (s : State) : List Byte :=
  byte1 s.framer.rxFifo.length ++ flag1 s.framer.overrun ++ byte1 s.framer.sampler.code ++ flag1 s.framer.shift.isSome
    ++ flag1 s.framer.holding.isSome ++ flag1 (s.framer.brk ≠ .none) ++ byte2 s.framer.linkText.length

/-- Section 2, Dispatcher (section 3.1, R53): last, whether a text head is partly delivered, with its delivery record.  That the
items which both name are sent once, and that the record's sinks stand in the order in which they took the head, is the model's
choice (log entry 18). -/
def dispatcherStatus (s : State) : List Byte :=
  byte1 s.disp.route.code ++ byte1 s.disp.flow.code ++ opt1 (s.disp.pendingFlow.map (·.code))
    ++ flag1 s.disp.remotePause ++ opt1 s.disp.progress ++ flag1 (s.disp.record ≠ [])
    ++ list1 (s.disp.record.map (·.code))

/-- Section 3, Keyboard (R57, R60, R68). -/
def keyboardStatus (s : State) : List Byte :=
  byte1 s.kbd.events.length ++ flag1 (anyDown .shift s) ++ flag1 (anyDown .ctrl s) ++ flag1 s.kbd.caps
    ++ byte1 s.kbd.txFifo.length

/-- R75: the claimants that wait; the owner is not one of them.  That they stand in the order of R75, which orders the claimants
and not this list, is the model's choice (log entry 18). -/
def waitingClaimants (s : State) : List Claimant :=
  claimants.filter fun c => waitsFor c s && s.comp.owner ≠ some c

/-- Section 4, Composer (R72, R75, R78, R79). -/
def composerStatus (s : State) : List Byte :=
  byte2 s.comp.queue.length ++ opt1 (s.comp.queue.head?.map (·.source.code)) ++ opt1 (s.comp.owner.map (·.code))
    ++ list1 ((waitingClaimants s).map (·.code)) ++ byte2 s.comp.linkPrint.length ++ byte1 s.comp.output.length

/-- Section 5, Strobe unit (R97, R105).  Both rules name the slice length: that it is sent once, in R105's place, after the V and
T used, is the model's choice (log entry 18). -/
def strobeStatus (s : State) : List Byte :=
  let f := s.strobe.figures
  byte2 f.volts ++ int2 f.celsius ++ byte1 f.slice ++ byte1 f.dotCurrent ++ byte1 f.dotLimit ++ byte1 f.groups
    ++ byte2 f.period

/-- The kind of a job: its place in the table of R79. -/
def Job.kindCode : Job → Nat
  | .text _ => 0
  | .feed _ _ => 1

/-- Section 6, Engine (R109). -/
def engineStatus (s : State) : List Byte :=
  let e := s.engine
  byte1 e.state.code ++ opt2 e.position ++ opt1 (s.comp.output.head?.map (·.kindCode)) ++ flag1 e.paperCond
    ++ flag1 e.powerCond ++ flag1 e.hotCond ++ flag1 e.haltDue ++ flag1 e.thermFault ++ byte1 (if e.paper then 0 else 1)

/-- Section 7, Head check (R124). -/
def headStatus (s : State) : List Byte :=
  opt1 (s.head.last.map (·.result.code)) ++ opt2 (s.head.last.map (·.element)) ++ opt1 (s.head.last.map (·.reading))

/-- R141: a sector record. -/
def Sector.bytes (k : Sector) : List Byte := byte1 k.count ++ flag1 k.retired ++ flag1 k.eventThisPass

/-- R142: the claimants that wait for the store port.  That they stand in the order of R142, with the mount last, is the model's
choice (log entry 18). -/
def portWaiting (s : State) : List PortClaimant := portClaimants.filter fun c => portWaits c s

/-- R142: the block of the operation in flight; a status read has none. -/
def InFlight.named (f : InFlight) : Option Nat := if f.op = .statusRead then none else some f.block

/-- Section 8, Store (R135, R140, R141, R142). -/
def storeStatus (s : State) : List Byte :=
  byte1 s.store.state.code ++ byte2 s.store.free.length ++ byte2 s.store.bad.length
    ++ s.store.sectors.toList.flatMap Sector.bytes
    ++ opt1 (s.store.inFlight.map (·.op.code)) ++ opt1 (s.store.inFlight.map (·.claimant.code))
    ++ opt2 (s.store.inFlight.bind (·.named)) ++ list1 ((portWaiting s).map (·.code))

/-- A block buffer of SEND or REPRINT: its state in the order of R154, its sequence and its fill.  A buffer that holds no
characters of a block (FREE, READING, or a lost-block mark) is sent with fill 0: the model's choice (log entry 18). -/
def ReadBuf.bytes : ReadBuf → List Byte
  | .free => byte1 0 ++ opt1 none ++ byte1 0
  | .reading q => byte1 1 ++ byte1 q ++ byte1 0
  | .loaded q f _ => byte1 2 ++ byte1 q ++ byte1 f

/-- A buffer of TAKE: its state in the order of section 10.4, its sequence and its fill, 0 when it is FREE (log entry 18). -/
def takeBufBytes : Option TakeBuf → List Byte
  | none => byte1 0 ++ opt1 none ++ byte1 0
  | some b => byte1 (if b.full then 2 else 1) ++ byte1 b.seq ++ byte1 b.chars.length

/-- The state of SEND, TAKE or REPRINT, for which no rule lists the states: 0 for idle and 1 for busy, the model's choice (log
entry 18). -/
def busyCode (b : Bool) : List Byte := byte1 (if b then 1 else 0)

/-- COMPOSE's buffer: its sequence and fill, and its kind, new or loaded.  The buffer of a load not yet completed is sent as new,
and that of an idle COMPOSE as absent: the model's choice (log entry 18). -/
def composeBufBytes (c : ComposeChannel) : List Byte :=
  if c.phase = .idle then opt1 none ++ byte1 0 ++ opt1 none
  else byte1 c.seq ++ byte1 c.chars.length ++ byte1 (if c.loaded.isSome then 1 else 0)

/-- Section 9, Channels (R167).  COMPOSE's state, which R167 names with the channels and again with the buffer kind, is sent once,
with the channels: the model's choice (log entry 18). -/
def channelsStatus (s : State) : List Byte :=
  busyCode s.send.current.isSome ++ opt1 s.send.current ++ opt1 s.send.staged
    ++ busyCode (s.take.docs ≠ []) ++ opt1 s.take.current ++ opt1 s.take.awaited ++ list1 s.take.closing
    ++ busyCode s.reprint.document.isSome ++ opt1 s.reprint.document
    ++ byte1 s.compose.phase.code ++ opt1 (if s.compose.phase = .idle then none else some s.compose.document)
    ++ s.send.reader.bufA.bytes ++ s.send.reader.bufB.bytes ++ takeBufBytes s.take.bufA ++ takeBufBytes s.take.bufB
    ++ s.reprint.reader.bufA.bytes ++ s.reprint.reader.bufB.bytes ++ composeBufBytes s.compose

/-- Section 10, Supply monitor (R169). -/
def supplyStatus (s : State) : List Byte :=
  byte2 s.supply.volts ++ thermBytes s.supply.therm ++ byte1 s.supply.power.code

/-- Section 11, Control link (R183). -/
def linkStatus (s : State) : List Byte :=
  byte1 s.link.queue.length ++ flag1 s.link.reject.isSome ++ halfBytes s.params.reportMask
    ++ halfBytes s.reports.pendingSet

/-- R183: the items of a section, 0…11. -/
def statusItems (n : Nat) (s : State) : Option (List Byte) :=
  match n with
  | 0 => some (modemStatus s)
  | 1 => some (framerStatus s)
  | 2 => some (dispatcherStatus s)
  | 3 => some (keyboardStatus s)
  | 4 => some (composerStatus s)
  | 5 => some (strobeStatus s)
  | 6 => some (engineStatus s)
  | 7 => some (headStatus s)
  | 8 => some (storeStatus s)
  | 9 => some (channelsStatus s)
  | 10 => some (supplyStatus s)
  | 11 => some (linkStatus s)
  | _ => none

/-- R185: the kind of the first fault, 00h for an empty record. -/
def firstFault (s : State) : List Byte := byte1 ((s.faults.map (·.first.code)).getD 0)

/-- R183: GetStatus. -/
def getStatusEffect (sectionNumber : Byte) (s : State) : State × List Byte :=
  match statusItems sectionNumber.toNat s with
  | some items => replies .done (firstFault s ++ [sectionNumber] ++ items) s
  | none => replies .badValue [] s

/-- GET_STATUS (R183): request 02h. -/
def execGetStatus (sectionNumber : Byte) (s : State) : Host.Outcome State Fault Refusal :=
  request none 0x02 [sectionNumber] (getStatusEffect sectionNumber) s

/-- R182, R183: Identify. -/
def identifyEffect (s : State) : State × List Byte :=
  replies .done (byte2 0x0850 ++ byte1 1 ++ byte2 512 ++ byte2 640) s

/-- IDENTIFY (R183): request 01h. -/
def execIdentify (s : State) : Host.Outcome State Fault Refusal := request none 0x01 [] identifyEffect s

/-- R185: ReadFaults. -/
def readFaultsEffect (s : State) : State × List Byte := replies .done (faultBytes s.faults ++ byte1 0) s

/-- READ_FAULTS (R185): request 06h. -/
def execReadFaults (s : State) : Host.Outcome State Fault Refusal := request none 0x06 [] readFaultsEffect s

/-- R185: ClearFaults empties the record and leaves the Fault report as it stands. -/
def clearFaultsEffect (s : State) : State × List Byte := replies .done [] (s.setFaults none)

/-- CLEAR_FAULTS (R185): request 07h. -/
def execClearFaults (s : State) : Host.Outcome State Fault Refusal := request none 0x07 [] clearFaultsEffect s

end Sys2Proof.Machine
end

