-- ==== Sys2Proof/Machine/Supply.lean ====
section
/-! DEFINITION. The meanings of the Supply monitor's commands: measurements, resets and start-up (chapter 11). -/

namespace Sys2Proof.Machine

/-! ### A periodic measurement -/

/-- R120: a change of power state while the Engine is held or IDLE acts on the power condition. -/
def powerCondition (s : State) : State × List PrintEvent :=
  if s.engine.state.isHeld || (s.engine.state = .idle && s.supply.power ≠ .critical) then
    let j := judgePowerCond s.supply.power s.engine
    (s.setEngine j.1, j.2)
  else (s, [])

/-- R117: the thermistor reading acts on the hot condition: cooling in any state, heat while the Engine is held. -/
def heatCondition (s : State) : State × List PrintEvent :=
  let j := if s.engine.state.isHeld then judgeHeat s.supply.therm s.engine else (s.engine, [])
  let k := judgeCool s.supply.therm j.1
  (s.setEngine k.1, j.2 ++ k.2)

/-- R110, R111: the held Engine takes what the measurement changed. -/
def engineMeasured (snapVolts : Nat) (evs : List PrintEvent) (s : State) : State :=
  if evs = [] then s else engineChanged snapVolts evs s

/-- R169 to R171: a periodic measurement of the battery and of the thermistor; `paper` is a paper sensor reading at the same
moment, which the boundary judges when this measurement clears what held the Engine (R111).  When it ends CRITICAL (R170), the
Engine reacts before the store port: a dot line that resumes here may take its snapshot in CRITICAL again, and a write that waits
then does not start.  That order is the model's choice (log entry 24). -/
def measure (volts : Nat) (therm : Therm) (snapVolts : Nat) (paper : Option Bool) (s : State) : State :=
  let s := supplyReading volts therm s
  if s.held.isSome then s
  else
    let p := powerCondition (paperSeen paper s)
    let h := heatCondition p.1
    engineMeasured snapVolts (p.2 ++ h.2) h.1

/-- R169, R171: a measurement while the part is held in reset replaces the readings; below 5000 mV it is a brownout, which a
LINK reset becomes (log entries 12 and 14). -/
def measureHeld (volts : Nat) (therm : Therm) (s : State) : State :=
  let s := s.setSupply { s.supply with volts := measured volts, therm := therm }
  if s.held = some .link && measured volts < brownoutLevel then s.setHeld (some .brownout) else s

/-- SUPPLY_MEASUREMENT (R169). -/
def execSupplyMeasurement (volts : Nat) (therm : Therm) (moment : Resumption) (s : State) : Host.Outcome State Fault Refusal :=
  if s.held.isSome then .next (measureHeld volts therm s)
  else perform (some moment.volts) (measure volts therm moment.volts moment.readings.paper) s

/-! ### Resets and start-up -/

/-- POWER_ON (R171, R172): the supply rises from off: every block takes its reset values and the part is held until a
measurement releases it. -/
def execPowerOn (s : State) : Host.Outcome State Fault Refusal := .next (resetPart .powerOn s)

/-- R171: the measurement releases the reset.  A LINK reset is released at the first measurement that is no brownout (log
entry 12). -/
def releasesReset (cause : ResetCause) (v : Nat) : Bool :=
  match cause with
  | .powerOn | .brownout => releaseLevel ≤ v
  | .link => brownoutLevel ≤ v

/-- R173: the power state set from the first measurement alone. -/
def firstPower (p : Params) (v : Nat) : Power :=
  if p.lowThreshold ≤ v then .normal else if p.criticalThreshold ≤ v then .low else .critical

/-- R173: the part starts from its reset values.  The thermistor reading taken here reaches the Engine with the next periodic
one (log entry 13). -/
def startPart (cause : ResetCause) (volts : Nat) (therm : Therm) (paper : Bool) (s : State) : State :=
  let v := measured volts
  let s := s.setHeld none
  let s := s.setSupply ⟨v, therm, firstPower s.params v⟩
  let s := s.setEngine { s.engine with paper := paper }
  let s := s.setHead { s.head with timer := .running 50 }
  let s := s.setReports { s.reports with started := some ⟨cause, s.supply.power, v⟩ }
  beginMount s

/-- START_UP (R173): the measurement that releases the reset, with the first thermistor and paper sensor readings. -/
def execStartUp (volts : Nat) (therm : Therm) (paper : Bool) (s : State) : Host.Outcome State Fault Refusal :=
  match s.held with
  | none => .next s
  | some cause =>
    if releasesReset cause (measured volts) then
      .next (settle s none (startPart cause volts therm paper s))
    else .next (measureHeld volts therm s)

/-- R172: Reset is answered DONE in its turn; the reset takes hold when that reply has gone (R180). -/
def resetEffect (s : State) : State × List Byte := replies .done [] s

/-- RESET (R172): request 05h. -/
def execReset (s : State) : Host.Outcome State Fault Refusal := request none 0x05 [] resetEffect s

end Sys2Proof.Machine
end

