-- ==== Sys2Proof/Machine/Dispatch.lean ====
section
/-! DEFINITION. One arm for each command, each a direct call of its meaning. -/

namespace Sys2Proof.Machine

def exec (i : Instr) (s : State) : Host.Outcome State Fault Refusal :=
  match i with
  | .carrierMeasurement level => Sys2Proof.Machine.execCarrierMeasurement level s
  | .qualifyTimeExpiry => Sys2Proof.Machine.execQualifyTimeExpiry s
  | .connectTimeout => Sys2Proof.Machine.execConnectTimeout s
  | .lossTimeExpiry => Sys2Proof.Machine.execLossTimeExpiry s
  | .connect role => Sys2Proof.Machine.execConnect role s
  | .drop => Sys2Proof.Machine.execDrop s
  | .receiveCharacterComplete sounds => Sys2Proof.Machine.execReceiveCharacterComplete sounds s
  | .breakWatchMark => Sys2Proof.Machine.execBreakWatchMark s
  | .breakReceived => Sys2Proof.Machine.execBreakReceived s
  | .markWaitEnd => Sys2Proof.Machine.execMarkWaitEnd s
  | .dispatchHead => Sys2Proof.Machine.execDispatchHead s
  | .textHeadDelivery => Sys2Proof.Machine.execTextHeadDelivery s
  | .shiftStageEmpties => Sys2Proof.Machine.execShiftStageEmpties s
  | .holdingStageRefill => Sys2Proof.Machine.execHoldingStageRefill s
  | .breakSpaceEnd => Sys2Proof.Machine.execBreakSpaceEnd s
  | .breakMarkEnd => Sys2Proof.Machine.execBreakMarkEnd s
  | .transmitText text => Sys2Proof.Machine.execTransmitText text s
  | .sendBreak => Sys2Proof.Machine.execSendBreak s
  | .setAnswerback text => Sys2Proof.Machine.execSetAnswerback text s
  | .keyScan snapshot => Sys2Proof.Machine.execKeyScan snapshot s
  | .translateKeyHead snapVolts => Sys2Proof.Machine.execTranslateKeyHead snapVolts s
  | .autoRepeatExpiry => Sys2Proof.Machine.execAutoRepeatExpiry s
  | .feedRepeatExpiry position snapVolts => Sys2Proof.Machine.execFeedRepeatExpiry position snapVolts s
  | .beeperToneEnd tone => Sys2Proof.Machine.execBeeperToneEnd tone s
  | .setKeymapEntry position layer entry => Sys2Proof.Machine.execSetKeymapEntry position layer entry s
  | .setKeyboardMode mode => Sys2Proof.Machine.execSetKeyboardMode mode s
  | .lockKeyboard lock => Sys2Proof.Machine.execLockKeyboard lock s
  | .readKeys => Sys2Proof.Machine.execReadKeys s
  | .printDeposit nextFirst => Sys2Proof.Machine.execPrintDeposit nextFirst s
  | .ownershipTimeout => Sys2Proof.Machine.execOwnershipTimeout s
  | .composerTakeHead snapVolts => Sys2Proof.Machine.execComposerTakeHead snapVolts s
  | .idleFlushExpiry snapVolts => Sys2Proof.Machine.execIdleFlushExpiry snapVolts s
  | .printText text => Sys2Proof.Machine.execPrintText text s
  | .paperFeed lines snapVolts => Sys2Proof.Machine.execPaperFeed lines snapVolts s
  | .dotLineComplete snapVolts => Sys2Proof.Machine.execDotLineComplete snapVolts s
  | .coolDownExpiry => Sys2Proof.Machine.execCoolDownExpiry s
  | .paperSensorReading present => Sys2Proof.Machine.execPaperSensorReading present s
  | .paperPresentExpiry moment => Sys2Proof.Machine.execPaperPresentExpiry moment s
  | .hotTimerExpiry => Sys2Proof.Machine.execHotTimerExpiry s
  | .clearHead moment => Sys2Proof.Machine.execClearHead moment s
  | .elementPatrolExpiry => Sys2Proof.Machine.execElementPatrolExpiry s
  | .elementMeasurementComplete milliohms => Sys2Proof.Machine.execElementMeasurementComplete milliohms s
  | .setHeadMark block element => Sys2Proof.Machine.execSetHeadMark block element s
  | .clearHeadMap => Sys2Proof.Machine.execClearHeadMap s
  | .readHeadMap => Sys2Proof.Machine.execReadHeadMap s
  | .statusReadComplete answered => Sys2Proof.Machine.execStatusReadComplete answered s
  | .blockReadRetry => Sys2Proof.Machine.execBlockReadRetry s
  | .blockReadComplete data => Sys2Proof.Machine.execBlockReadComplete data s
  | .writeCompareMismatch => Sys2Proof.Machine.execWriteCompareMismatch s
  | .blockWriteAttemptComplete matched => Sys2Proof.Machine.execBlockWriteAttemptComplete matched s
  | .storePatrolExpiry => Sys2Proof.Machine.execStorePatrolExpiry s
  | .delete document => Sys2Proof.Machine.execDelete document s
  | .formatStore => Sys2Proof.Machine.execFormatStore s
  | .remount => Sys2Proof.Machine.execRemount s
  | .storeReadBlock index => Sys2Proof.Machine.execStoreReadBlock index s
  | .storeInfo => Sys2Proof.Machine.execStoreInfo s
  | .docList => Sys2Proof.Machine.execDocList s
  | .docInfo document => Sys2Proof.Machine.execDocInfo document s
  | .send document => Sys2Proof.Machine.execSend document s
  | .stopSend => Sys2Proof.Machine.execStopSend s
  | .reprint document mode => Sys2Proof.Machine.execReprint document mode s
  | .stopReprint => Sys2Proof.Machine.execStopReprint s
  | .composeStart document append => Sys2Proof.Machine.execComposeStart document append s
  | .composeEnd => Sys2Proof.Machine.execComposeEnd s
  | .supplyMeasurement volts therm moment => Sys2Proof.Machine.execSupplyMeasurement volts therm moment s
  | .powerOn => Sys2Proof.Machine.execPowerOn s
  | .startUp volts therm paper => Sys2Proof.Machine.execStartUp volts therm paper s
  | .reset => Sys2Proof.Machine.execReset s
  | .identify => Sys2Proof.Machine.execIdentify s
  | .getStatus sectionNumber => Sys2Proof.Machine.execGetStatus sectionNumber s
  | .setParameter id value => Sys2Proof.Machine.execSetParameter id value s
  | .getParameter id => Sys2Proof.Machine.execGetParameter id s
  | .readFaults => Sys2Proof.Machine.execReadFaults s
  | .clearFaults => Sys2Proof.Machine.execClearFaults s
  | .unknownRequest kind payload => Sys2Proof.Machine.execUnknownRequest kind payload s
  | .linkByteReceived byte goodStop => Sys2Proof.Machine.execLinkByteReceived byte goodStop s
  | .gapTimeout => Sys2Proof.Machine.execGapTimeout s
  | .linkFrameSent => Sys2Proof.Machine.execLinkFrameSent s
  | .candidateStartBit => Sys2Proof.Machine.execCandidateStartBit s
  | .falseStart => Sys2Proof.Machine.execFalseStart s

end Sys2Proof.Machine
end

