-- ==== Sys2Proof/Machine/Pins.lean ====
section
/-! DEFINITION. The outputs of the part, each a function of its state: the cup speaker (R1, R13), the beeper (R70), the head
strobes (R103, R111) and the stepper (R112). -/

namespace Sys2Proof.Machine

/-- Section 1.1: the bands. -/
inductive Band where
  | originate | answer
deriving DecidableEq, Repr

/-- Section 1.1: the tone of a line state in a band, Hz. -/
def Band.tone : Band → Bool → Nat
  | .originate, false => 1070
  | .originate, true => 1270
  | .answer, false => 2025
  | .answer, true => 2225

/-- R1: the band a role transmits in. -/
def Role.transmits : Role → Band
  | .originate => .originate
  | .answer => .answer

/-- R1: the band a role listens in. -/
def Role.listens : Role → Band
  | .originate => .answer
  | .answer => .originate

/-- R28, R31, R34: the line states the Framer asks for, true for mark: those of the character in the shift stage one after
another, the space of a break, or mark. -/
def lineAsked (s : State) : List Bool :=
  match s.framer.shift with
  | some c => c.line
  | none =>
    match s.framer.brk with
    | .space _ => [false]
    | _ => [true]

/-- R13: the tones the cup speaker sounds one after another, Hz; none when it is silent. -/
def speakerTones (s : State) : List Nat :=
  match s.modem.state, s.modem.role with
  | .waitCarrier, some .answer => [Band.answer.tone true]
  | .connected, some r => (lineAsked s).map r.transmits.tone
  | .dropout, some r => (lineAsked s).map r.transmits.tone
  | _, _ => []

/-- R5: how far below full output the tones are, dB. -/
def speakerAttenuation (s : State) : Nat := s.params.attenuation

/-- R70: the beeper sounds while at least one tone runs. -/
def beeperSounds (s : State) : Bool := s.kbd.tones ≠ []

/-- R105, R111: the plan the head strobes fire; none when no dot line is in flight or the part is held in reset. -/
def strobePlan (s : State) : Option Plan :=
  if s.held.isSome || !s.engine.inFlight then none else s.strobe.plan

/-- R112: the dot lines by which the stepper has moved the paper forward since reset. -/
def paperAdvance (s : State) : Nat := s.engine.halfSteps / 2

end Sys2Proof.Machine
end

