-- ==== Sys2Proof/Safety.lean ====
section
/-! DEFINITION. What a safe run is, in the terms the statements use: the invariants of the manual's whole-machine rules, and
what the settling at the end of a step leaves alone. -/

namespace Sys2Proof.Machine

/-! ### Outcomes -/

/-- A step answers a next state: nothing stopped. -/
def Completes (o : Host.Outcome State Fault Refusal) : Prop := ∃ t, o = .next t

/-! ### What settling leaves alone -/

/-- `t` agrees with `x` on everything that the settling at the end of a step cannot change while the Engine has no dot line to
start.  Not in the list, since settling may act on them: the receive FIFO and its overrun flag, the route, the delivery record
and the flow state with its pending code (TAKE's notice), the owner of print input and its timers, the directory, the delete
jobs and the operation in flight, the channels, the reports and the fault record, and the frame being sent with the
LinkReject slot it came from. -/
structure Keeps (x t : State) : Prop where
  held        : t.held = x.held
  params      : t.params = x.params
  modem       : t.modem = x.modem
  sampler     : t.framer.sampler = x.framer.sampler
  shift       : t.framer.shift = x.framer.shift
  holding     : t.framer.holding = x.framer.holding
  brk         : t.framer.brk = x.framer.brk
  linkText    : t.framer.linkText = x.framer.linkText
  remotePause : t.disp.remotePause = x.disp.remotePause
  answerback  : t.disp.answerback = x.disp.answerback
  progress    : t.disp.progress = x.disp.progress
  kbd         : t.kbd = x.kbd
  queue       : t.comp.queue = x.comp.queue
  linkPrint   : t.comp.linkPrint = x.comp.linkPrint
  output      : t.comp.output = x.comp.output
  cells       : t.comp.cells = x.comp.cells
  column      : t.comp.column = x.comp.column
  wrapPending : t.comp.wrapPending = x.comp.wrapPending
  lineSource  : t.comp.lineSource = x.comp.lineSource
  formCount   : t.comp.formCount = x.comp.formCount
  strobe      : t.strobe = x.strobe
  engine      : t.engine = x.engine
  head        : t.head = x.head
  storeState  : t.store.state = x.store.state
  mountNext   : t.store.mountNext = x.store.mountNext
  formatNext  : t.store.formatNext = x.store.formatNext
  free        : t.store.free = x.store.free
  bad         : t.store.bad = x.store.bad
  sectors     : t.store.sectors = x.store.sectors
  patrolPos   : t.store.patrolPos = x.store.patrolPos
  patrolTimer : t.store.patrolTimer = x.store.patrolTimer
  patrolRead  : t.store.patrolRead = x.store.patrolRead
  linkRead    : t.store.linkRead = x.store.linkRead
  supply      : t.supply = x.supply
  rx          : t.link.rx = x.link.rx
  gapTimer    : t.link.gapTimer = x.link.gapTimer
  requests    : t.link.queue = x.link.queue
  reply       : t.link.reply = x.link.reply
  mem         : t.mem = x.mem
  draws       : t.draws = x.draws
  pending     : t.pending = x.pending

/-! ### What a command answers -/

/-- The command answers a next state that agrees with `x` on everything `Keeps` lists: it has made `x` of the state, and
settling has done the rest. -/
def Answers (c : Instr) (s x : State) : Prop := ∃ t, exec c s = .next t ∧ Keeps x t

/-- R179: the command is a request whose turn it is, on a part that runs: the reply slot is empty, no link read is waited for,
and the request is the head of the queue or comes to an empty queue. -/
structure Turn (c : Instr) (s : State) : Prop where
  runs  : s.held = none
  reply : s.link.reply = none
  read  : s.store.linkRead = none
  head  : ∃ r, requestOf c = some r ∧ (s.link.queue = [] ∨ s.link.queue.head? = some r)

/-- R179: `x` with the request of the command gone from the queue and its reply, an outcome with its fields, in the slot. -/
def answered (c : Instr) (o : ReplyCode) (fields : List Byte) (x : State) : State :=
  match requestOf c with
  | some r => x.setLink { x.link with queue := x.link.queue.tail, reply := some ⟨r.kind, o.byte :: fields⟩ }
  | none => x

/-- The Engine has nothing to start at the end of a step: it is not IDLE, or there is no job. -/
def NothingToStart (x : State) : Prop := x.engine.state ≠ .idle ∨ x.comp.output = []

/-- R8, R10, R11, R22, R23, R28, R43, R45, R68: what the end of a call leaves of the Modem, the sampler, the transmitter, the
Dispatcher's flags and the keyboard transmit FIFO. -/
def callEnded (s : State) : State :=
  (((s.setModem {}).setFramer { s.framer with
      sampler := s.framer.sampler.follow .idle, shift := none, holding := none, brk := .none }).setDisp
    { s.disp with remotePause := false, progress := none }).setKbd { s.kbd with txFifo := [] }

/-- R57, R58: the head of the key event queue has gone and `rest` is left: the oldest BREAK owed takes the freed place, and its
position is up. -/
def keyHeadGone (rest : List KeyEvent) (s : State) : State :=
  match s.kbd.owed with
  | [] => s.setKbd { s.kbd with events := rest, headJudged := false }
  | q :: owed => s.setKbd { s.kbd with
      events := rest ++ [⟨q, .brk⟩], headJudged := false, owed := owed,
      keys := put s.kbd.keys q { keyRecord q s with down := false, breakOwed := false } }

/-- The decisions of a character of these line states when every sample shows them: 16 of each bit time, up to the last sample
that decides the first stop bit (R12, R20). -/
def sampled (f : LineFormat) (c : Code) : List Decision :=
  ((lineStates f c).flatMap fun m => List.replicate 16 (Decision.real m)).take f.samples

/-- One decision shown as the other line state. -/
def flipped (samples : List Decision) (i : Nat) : List Decision := samples.set i (.real (!markAt samples i))

/-! ### Invariants -/

/-- R25, R32, R46, R57, R68, R69, R72, R78, R79, R179: no queue or FIFO holds more than its capacity. -/
structure WithinCapacity (s : State) : Prop where
  rxFifo     : s.framer.rxFifo.length ≤ rxCapacity
  linkText   : s.framer.linkText.length ≤ 256
  answerback : s.disp.answerback.length ≤ 24
  events     : s.kbd.events.length ≤ eventCapacity
  txFifo     : s.kbd.txFifo.length ≤ keyFifoCapacity
  relay      : s.kbd.relay.length ≤ relayCapacity
  queue      : s.comp.queue.length ≤ printCapacity
  linkPrint  : s.comp.linkPrint.length ≤ 256
  output     : s.comp.output.length ≤ outputCapacity
  requests   : s.link.queue.length ≤ 2

/-- R3, R49, R170: the parameters whose ranges depend on one another. -/
structure ParamsAgree (p : Params) : Prop where
  carrier : p.offThreshold + 2 ≤ p.onThreshold
  water   : p.lowWater + 32 ≤ p.highWater
  power   : p.criticalThreshold + 200 ≤ p.lowThreshold
  codes   : p.pauseCode ≠ p.resumeCode

/-- R1, R2, R4, R15: the Modem in IDLE has no role, no level and no timer, and every other state has a role. -/
structure ModemLegal (m : Modem) : Prop where
  idle : m.state = .idle → m = {}
  role : m.state ≠ .idle → m.role ≠ none

/-- R111: a dot line is in flight only while the Engine works, and a part held in reset fires none. -/
structure EngineLegal (s : State) : Prop where
  working : s.engine.inFlight = true → s.engine.state = .printing ∨ s.engine.state = .feeding
  held    : s.held ≠ none → s.engine.inFlight = false

/-- Section 8.2: each block record's dead mark lies in its block and its fault count does not exceed the threshold. -/
structure HeadLegal (s : State) : Prop where
  marks  : ∀ b e, (nth s.head.records b {}).mark = some e → e / 80 = b
  counts : ∀ b, (nth s.head.records b {}).count ≤ s.params.faultThreshold

/-- R139, R140: each block index is the label, in the free set, in the bad set or in the list of one document, and in one of
these only; the sets are in index order, the lists in the order of their sequences, and strays are blocks of the free set. -/
structure BlocksLegal (s : State) : Prop where
  once      : ∀ b, s.store.free.count b + s.store.bad.count b +
    ((s.store.dir.toList.flatMap (·.blocks)).map (·.block)).count b = if 1 ≤ b ∧ b ≤ 511 then 1 else 0
  freeOrder : s.store.free.Pairwise (· < ·)
  badOrder  : s.store.bad.Pairwise (· < ·)
  listOrder : ∀ n, (dirEntry s n).blocks.Pairwise (·.seq < ·.seq)
  strays    : ∀ n, ∀ b ∈ (dirEntry s n).strays, b ∈ s.store.free

/-- The document is in this state. -/
def inState (s : State) (n : Nat) (st : DocState) : Prop := isDocument n = true ∧ (dirEntry s n).state = st

/-- R139: a document is in the state that names a holder exactly when that holder holds it, and no holder holds it twice; a
channel and directory maintenance work only while the store is READY (R135). -/
structure HoldersAgree (s : State) : Prop where
  sending     : ∀ n, inState s n .sending ↔ s.send.current = some n ∨ s.send.staged = some n
  staged      : s.send.staged ≠ none → s.send.current ≠ none ∧ s.send.current ≠ s.send.staged
  reprinting  : ∀ n, inState s n .reprinting ↔ s.reprint.document = some n
  composing   : ∀ n, inState s n .composing ↔ s.compose.phase ≠ .idle ∧ s.compose.document = n
  taking      : ∀ n, inState s n .taking ↔ ∃ d ∈ s.take.docs, d.document = n ∧ d.deleting = false
  deleting    : ∀ n, inState s n .deleting ↔ ∃ j ∈ s.store.jobs, j.document = n
  awaited     : ∀ d ∈ s.take.docs, d.deleting = true → ⟨d.document, true⟩ ∈ s.store.jobs
  docsOnce    : s.take.docs.Pairwise (·.document ≠ ·.document)
  jobsOnce    : s.store.jobs.Pairwise (·.document ≠ ·.document)
  idle        : s.store.state ≠ .ready → s.take.docs = [] ∧ s.store.jobs = [] ∧ s.send.current = none ∧
    s.reprint.document = none ∧ s.compose.phase = .idle

/-- R138, R161, R164 to R166: a FREE document has no blocks, and the sequences that TAKE and COMPOSE will write are not yet in
the lists of their documents, except for the loaded block that COMPOSE rewrites in place. -/
structure WritersFresh (s : State) : Prop where
  free      : s.store.state = .ready → ∀ n, (dirEntry s n).state = .free → (dirEntry s n).blocks = []
  takeDocs  : ∀ d ∈ s.take.docs, d.deleting = false → ∀ r ∈ (dirEntry s d.document).blocks, r.seq < d.nextSeq
  takeBufs  : ∀ b ∈ s.take.bufA.toList ++ s.take.bufB.toList, ∃ d ∈ s.take.docs, d.document = b.document ∧
    b.seq < d.nextSeq ∧ (d.deleting = false → ∀ r ∈ (dirEntry s d.document).blocks, r.seq ≠ b.seq)
  takeWrite : ∀ w, s.take.write = some w → ∃ d ∈ s.take.docs, d.document = w.document ∧ d.deleting = false
  phase     : (s.compose.phase = .loading → s.compose.loading = true) ∧
    (s.compose.phase = .composing → s.compose.loading = false)
  top       : s.compose.phase ≠ .idle → ∀ r ∈ (dirEntry s s.compose.document).blocks, r.seq ≤ s.compose.seq
  loading   : s.compose.phase ≠ .idle → s.compose.loading = true → s.compose.write = none ∧
    ∃ r, lastRef (dirEntry s s.compose.document).blocks = some r ∧ r.seq = s.compose.seq
  newest    : s.compose.phase ≠ .idle → s.compose.loading = false →
    ∀ r ∈ (dirEntry s s.compose.document).blocks, r.seq = s.compose.seq → s.compose.loaded = some r.block
  loaded    : s.compose.phase ≠ .idle → s.compose.loading = false →
    (∀ w, s.compose.write = some w → w.failed = none) → ∀ b, s.compose.loaded = some b →
    ∃ r ∈ (dirEntry s s.compose.document).blocks, r.seq = s.compose.seq ∧ r.block = b
  retried   : s.compose.phase ≠ .idle → ∀ w, s.compose.write = some w → w.failed ≠ none →
    ∀ r ∈ (dirEntry s s.compose.document).blocks, r.seq ≠ s.compose.seq

/-- R136, R137, R142, R144, R148, R149: the operation in flight belongs to what its claimant does, a mount finds every block
below the one it reads and no other, and a format has no document. -/
structure PortLegal (s : State) : Prop where
  write  : ∀ f, s.store.inFlight = some f → f.op.isWrite = true →
    f.block ∉ s.store.bad ∧ ∀ n, f.block ∉ (dirEntry s n).strays
  data   : ∀ f w, s.store.inFlight = some f → f.op = .dataWrite w →
    ((f.claimant = .take ∧ ∃ d ∈ s.take.docs, d.document = w.document ∧ d.deleting = false ∧ w.seq < d.nextSeq) ∨
      (f.claimant = .compose ∧ s.compose.phase ≠ .idle ∧ s.compose.loading = false ∧
        s.compose.document = w.document ∧ s.compose.seq = w.seq ∧ s.compose.write ≠ none)) ∧
    ((f.block ∈ s.store.free ∧ ∀ r ∈ (dirEntry s w.document).blocks, r.seq ≠ w.seq) ∨
      ∃ r ∈ (dirEntry s w.document).blocks, r.seq = w.seq ∧ r.block = f.block)
  free   : ∀ f, s.store.inFlight = some f → f.op = .releaseWrite → f.claimant = .maintenance ∧
    ((s.store.state = .formatting ∧ f.block = s.store.formatNext) ∨
      (s.store.state ≠ .formatting ∧ 1 ≤ f.block ∧ f.block ≤ 511 ∧ s.store.jobs ≠ []))
  load   : ∀ f, s.store.inFlight = some f → f.op = .read → f.claimant = .compose → f.discarded = false →
    s.compose.phase ≠ .idle ∧ s.compose.loading = true ∧
      ∃ r, lastRef (dirEntry s s.compose.document).blocks = some r ∧ r.block = f.block
  mount  : ∀ f, s.store.inFlight = some f → f.op = .read → f.claimant = .mount →
    s.store.state = .mounting ∧ s.store.mountNext = some f.block
  status : ∀ f, s.store.inFlight = some f → f.op = .statusRead →
    s.store.state = .mounting ∧ s.store.mountNext = none
  found  : s.store.state = .mounting → ∀ n b,
    (b ∈ (dirEntry s n).strays ∨ b ∈ (dirEntry s n).blocks.map (·.block)) → ∃ k, s.store.mountNext = some k ∧ b < k
  next   : s.store.state = .mounting → ∀ k, s.store.mountNext = some k → k ≤ 511 ∧ k ∉ s.store.bad
  format : s.store.state = .formatting → s.store.formatNext ≤ 511 ∧ s.store.formatNext ∉ s.store.bad ∧
    ∀ n, (dirEntry s n).blocks = []
  held   : s.held ≠ none → s.store.state = .mounting ∧ s.store.inFlight = none

/-- R139, R140: the block sets and the holders, with what keeps them so. -/
structure StoreLegal (s : State) : Prop where
  blocks  : BlocksLegal s
  holders : HoldersAgree s
  fresh   : WritersFresh s
  port    : PortLegal s

/-- R68, R52: out of a connection the keyboard transmit FIFO is empty and no flow code of the part is pending or sent. -/
structure QuietLine (s : State) : Prop where
  txFifo  : connected s = false → s.kbd.txFifo = []
  flow    : connected s = false → s.disp.flow = .running
  pending : connected s = false → s.disp.pendingFlow = none

end Sys2Proof.Machine
end

