-- ==== Sys2Proof/WellFormed.lean ====
section
/-! DEFINITION. Which commands are well formed: the operands lie in the ranges that the manual gives for what reaches the part.
A request's own argument checks are not here: a bad argument is a request the part answers. -/

namespace Sys2Proof

/-- R169: a battery measurement: 10 mV steps from 0 to 12 000 mV. -/
def voltsOk (v : Nat) : Bool := v ≤ 12000 && v % 10 = 0

/-- R169: a thermistor reading. -/
def Therm.ok : Therm → Bool
  | .temp c => -40 ≤ c && c ≤ 125
  | .openCircuit => true
  | .shorted => true

/-- The readings of a coincident moment. -/
def Coincident.ok (r : Coincident) : Bool := r.supply.all fun x => voltsOk x.1 && x.2.ok

/-- What reaches the part at an event at which the Engine may resume. -/
def Resumption.ok (m : Resumption) : Bool := voltsOk m.volts && m.readings.ok

/-- R20: the numbers of samples of a character: 16s + 10 for s from 8 to 10. -/
def sampleCountOk (n : Nat) : Bool := n = 138 || n = 154 || n = 170

/-- R143: a block read brings back 64 bytes. -/
def ReadData.ok : ReadData → Bool
  | .stored => true
  | .bytes l => l.length = 64

/-- R177: a request that joins the queue and cannot be carried out: kind 01h…3Fh, outside the catalogue or of a length the
catalogue does not allow. -/
def unknownOk (kind : Byte) (payload : List Byte) : Bool :=
  1 ≤ kind.toNat && kind.toNat ≤ 0x3F && payload.length ≤ 240 &&
    match Machine.catalogueLengths kind.toNat with
    | none => true
    | some (lo, hi) => payload.length < lo || hi < payload.length

/-- The command is well formed. -/
def Instr.wf (i : Instr) : Bool :=
  match i with
  | .carrierMeasurement l => l ≤ 63
  | .receiveCharacterComplete sounds => sampleCountOk sounds.flatten.length
  | .transmitText text => Machine.textLengthOk text
  | .setAnswerback text => text.length ≤ 24
  | .translateKeyHead v => voltsOk v
  | .feedRepeatExpiry p v => p < 64 && voltsOk v
  | .composerTakeHead v => voltsOk v
  | .idleFlushExpiry v => voltsOk v
  | .printText text => Machine.textLengthOk text
  | .paperFeed _ v => voltsOk v
  | .dotLineComplete v => voltsOk v
  | .paperPresentExpiry m => m.ok
  | .clearHead m => m.ok
  | .blockReadComplete d => d.ok
  | .supplyMeasurement v t m => voltsOk v && t.ok && m.ok && m.readings.supply = none
  | .startUp v t _ => voltsOk v && t.ok
  | .unknownRequest k p => unknownOk k p
  | .elementMeasurementComplete _ | .qualifyTimeExpiry | .connectTimeout | .lossTimeExpiry | .connect _ | .drop | .breakWatchMark | .breakReceived
  | .markWaitEnd | .dispatchHead | .textHeadDelivery | .shiftStageEmpties | .holdingStageRefill | .breakSpaceEnd
  | .breakMarkEnd | .sendBreak | .keyScan _ | .autoRepeatExpiry | .beeperToneEnd _ | .setKeymapEntry _ _ _
  | .setKeyboardMode _ | .lockKeyboard _ | .readKeys | .printDeposit _ | .ownershipTimeout | .coolDownExpiry
  | .paperSensorReading _ | .hotTimerExpiry | .elementPatrolExpiry | .setHeadMark _ _ | .clearHeadMap | .readHeadMap
  | .statusReadComplete _ | .blockReadRetry | .writeCompareMismatch | .blockWriteAttemptComplete _
  | .storePatrolExpiry | .delete _ | .formatStore | .remount | .storeReadBlock _ | .storeInfo | .docList | .docInfo _
  | .send _ | .stopSend | .reprint _ _ | .stopReprint | .composeStart _ _ | .composeEnd | .powerOn | .reset
  | .identify | .getStatus _ | .setParameter _ _ | .getParameter _ | .readFaults | .clearFaults
  | .linkByteReceived _ _ | .gapTimeout | .linkFrameSent | .candidateStartBit | .falseStart => true

end Sys2Proof
end

