-- ==== Sys2Proof/Certificates/Slice0/Obligations.lean ====
section
/-! DEFINITION. The statements about the model.  `Answers c s x` says that command `c` answers a next state which agrees with
`x` on everything that the settling at the end of a step cannot change; `x` is `s` with the command's own effect. -/

section

open Sys2Proof Sys2Proof.Machine

/-! ### The queue of commands -/

/-- A step takes the command at the front of the queue and executes it on the state with the queue's rest. -/
def Obligations.StepRunsTheFrontCommand : Prop :=
  ∀ (c : Instr) (s : State), step (s.setPending (c :: s.pending)) = exec c s

/-- Every command answers a next state in every state, and leaves the queue of waiting commands as it is.  That it does so in
every state is the model's own choice: a command out of place changes nothing (log entry 3), an operand outside its range is
read as the nearest one or as no command of the part (log entry 36), and only a step takes commands from the queue (log entry
29). -/
def Obligations.EveryCommandAnswersAndKeepsTheQueue : Prop :=
  ∀ (c : Instr) (s : State), ∃ t, exec c s = .next t ∧ t.pending = s.pending

/-- R171: while the part is held in reset, only the Supply monitor acts: every command but a measurement, the supply rising
and the release leaves the state as it is. -/
def Obligations.HeldPartIgnoresCommands : Prop :=
  ∀ (c : Instr) (s : State), s.held ≠ none → (∀ v t w, c ≠ .supplyMeasurement v t w) → c ≠ .powerOn →
    (∀ v t p, c ≠ .startUp v t p) → exec c s = .next s

/-- The model's own choice: on an empty queue the block idles (log entry 2), and a command whose event cannot occur in the
state as it stands leaves it as it is (log entry 3; R2 gives the first of these clauses). -/
def Obligations.IdleStepsAndCommandsOutOfPlaceChangeNothing : Prop :=
  ∀ s : State,
    (s.pending = [] → step s = .next s) ∧
    (s.modem.state = .idle → ∀ l, exec (.carrierMeasurement l) s = .next s) ∧
    (s.modem.state ≠ .waitCarrier → exec .qualifyTimeExpiry s = .next s ∧ exec .connectTimeout s = .next s) ∧
    (s.modem.state ≠ .dropout → exec .lossTimeExpiry s = .next s) ∧
    (connected s = false → exec .holdingStageRefill s = .next s ∧ exec .shiftStageEmpties s = .next s ∧
      exec .breakSpaceEnd s = .next s ∧ exec .breakMarkEnd s = .next s) ∧
    (s.framer.rxFifo = [] → exec .dispatchHead s = .next s ∧ exec .textHeadDelivery s = .next s) ∧
    (s.kbd.events = [] → ∀ v, exec (.translateKeyHead v) s = .next s) ∧
    (s.comp.queue = [] → ∀ v, exec (.composerTakeHead v) s = .next s) ∧
    (s.comp.owner = none → ∀ b, exec (.printDeposit b) s = .next s) ∧
    (s.engine.inFlight = false → ∀ v, exec (.dotLineComplete v) s = .next s) ∧
    (s.store.inFlight = none → ∀ b d, exec (.statusReadComplete b) s = .next s ∧ exec (.blockReadComplete d) s = .next s ∧
      exec .blockReadRetry s = .next s ∧ exec .writeCompareMismatch s = .next s ∧
      exec (.blockWriteAttemptComplete b) s = .next s) ∧
    (s.link.sending = none → exec .linkFrameSent s = .next s)

/-! ### Reset -/

/-- What every reset leaves (R172), block by block, by the reset rules of the chapters.  That the latest readings and the power
state stay over a reset is the model's own choice (log entry 9). -/
def Obligations.ResetLeavesTheResetValues : Prop :=
  ∀ (c : ResetCause) (s : State), let t := resetPart c s
    t.held = some c ∧
    (t.params.bitRate = 300 ∧ t.params.onThreshold = 18 ∧ t.params.offThreshold = 14 ∧ t.params.qualifyTime = 1200 ∧
      t.params.lossTime = 400 ∧ t.params.connectTimeout = 30 ∧ t.params.attenuation = 6 ∧ t.params.parity = .even ∧
      t.params.stopBits = 1 ∧ t.params.routeBit = false ∧ t.params.lowThreshold = 6000 ∧
      t.params.criticalThreshold = 5400 ∧ t.params.reportMask = 0x03FE) ∧
    (t.modem.state = .idle ∧ t.modem.role = none ∧ t.modem.level = 0 ∧ t.modem.qualify = .stopped ∧
      t.modem.loss = .stopped ∧ t.modem.connect = .stopped ∧ speakerTones t = []) ∧
    (t.framer.sampler = .hunting ∧ t.framer.rxFifo = [] ∧ t.framer.overrun = false ∧ t.framer.shift = none ∧
      t.framer.holding = none ∧ t.framer.brk = .none ∧ t.framer.linkText = []) ∧
    (t.disp.route = .print ∧ t.disp.record = [] ∧ t.disp.flow = .running ∧ t.disp.pendingFlow = none ∧
      t.disp.remotePause = false ∧ t.disp.answerback = [] ∧ t.disp.progress = none) ∧
    (t.kbd.events = [] ∧ t.kbd.owed = [] ∧ t.kbd.caps = false ∧ t.kbd.mode = .local_ ∧ t.kbd.lock = false ∧
      t.kbd.txFifo = [] ∧ t.kbd.relay = [] ∧ t.kbd.autoRepeat = none ∧ beeperSounds t = false) ∧
    (t.comp.queue = [] ∧ t.comp.owner = none ∧ t.comp.linkPrint = [] ∧ t.comp.output = [] ∧ holdsContent t = false ∧
      t.comp.column = 0 ∧ t.comp.wrapPending = false ∧ t.comp.lineSource = none ∧ t.comp.formCount = 0) ∧
    (t.strobe.h1 = 0 ∧ t.strobe.h2 = 0 ∧ t.engine.state = .idle ∧ t.engine.inFlight = false ∧ strobePlan t = none) ∧
    (t.head.index = 0 ∧ t.head.passes = 0 ∧ t.head.records = Vector.replicate 8 {}) ∧
    (t.store.state = .mounting ∧ t.store.bad = [] ∧ t.store.inFlight = none ∧ t.send.current = none ∧ t.take.docs = [] ∧
      t.reprint.document = none ∧ t.compose.phase = .idle) ∧
    (t.link.queue = [] ∧ t.link.reply = none ∧ t.link.reject = none ∧ t.link.sending = none ∧ t.link.rx = .hunt ∧
      t.reports = {} ∧ t.faults = none) ∧
    t.supply = s.supply

/-! ### The Modem (chapter 1) -/

/-- R2, R7, R9, R10, R14: a carrier level measurement replaces the level and acts by the modem state; the sampler follows a change
of it (R22, R23), and a dropout and its end are recorded.  That the sampler remembers the modem states of its character, and a
forced mark in its break watch, is the model's own choice (log entry 11). -/
def Obligations.CarrierMeasurementActsByModemState : Prop :=
  ∀ (l : Nat) (s : State), s.held = none → l ≤ 63 →
    let becomes (m : ModemState) (loss : Timer) : State :=
      (s.setModem { s.modem with level := l, state := m, loss := loss }).setFramer { s.framer with
        sampler := s.framer.sampler.follow m }
    (s.modem.state = .waitCarrier → s.params.onThreshold ≤ l →
      Answers (.carrierMeasurement l) s (s.setModem { s.modem with
        level := l,
        qualify := if s.modem.qualify = .stopped then .running s.params.qualifyTime else s.modem.qualify })) ∧
    (s.modem.state = .waitCarrier → l < s.params.onThreshold →
      Answers (.carrierMeasurement l) s (s.setModem { s.modem with level := l, qualify := .stopped })) ∧
    (s.modem.state = .connected → l < s.params.offThreshold →
      Answers (.carrierMeasurement l) s (becomes .dropout (.running s.params.lossTime)) ∧
      exec (.carrierMeasurement l) s =
        .next (settle s none (recordModem .dropoutBegan (becomes .dropout (.running s.params.lossTime))))) ∧
    (s.modem.state = .connected → s.params.offThreshold ≤ l →
      Answers (.carrierMeasurement l) s (s.setModem { s.modem with level := l })) ∧
    (s.modem.state = .dropout → s.params.onThreshold ≤ l →
      Answers (.carrierMeasurement l) s (becomes .connected .stopped) ∧
      exec (.carrierMeasurement l) s =
        .next (settle s none (recordModem .dropoutEnded (becomes .connected .stopped)))) ∧
    (s.modem.state = .dropout → l < s.params.onThreshold →
      Answers (.carrierMeasurement l) s (s.setModem { s.modem with level := l }))

/-- R6, R7, R14, R28, R42, R52: Connect begins an attempt from IDLE and is refused otherwise; the qualify timer's end begins the
connection, which is recorded, with remote-pause clear and an empty transmitter, which has taken no character, one, or one and
one more when the flow conditions are judged, and then the route is reset.  Which of the three it is, R52 leaves open, and the
model leaves it free; that the flow conditions are judged before the route reset, and again by it, is the model's own choice
(log entry 40). -/
def Obligations.CallIsMade : Prop :=
  (∀ (b : Byte) (s : State), Turn (.connect b) s →
    (1 < b.toNat → Answers (.connect b) s (answered (.connect b) .badValue [] s)) ∧
    (b.toNat ≤ 1 → s.modem.state ≠ .idle → Answers (.connect b) s (answered (.connect b) .busy [] s)) ∧
    (b.toNat ≤ 1 → s.modem.state = .idle →
      Answers (.connect b) s (answered (.connect b) .done [] ((s.setModem { s.modem with
        state := .waitCarrier, role := some (if b = 0 then .originate else .answer), level := 0,
        connect := .running s.params.connectTimeout }).setFramer { s.framer with
        sampler := s.framer.sampler.follow .waitCarrier })))) ∧
  (∀ s : State, s.held = none → s.modem.state = .waitCarrier → s.modem.qualify ≠ .stopped →
    let c : Instr := .qualifyTimeExpiry
    let modem : Modem := { s.modem with state := .connected, qualify := .stopped, connect := .stopped }
    let sampler : Sampler := s.framer.sampler.follow .connected
    let sent (c : Code) : Option TxChar :=
      some ⟨c, lineStates ⟨s.params.parity, s.params.stopBits, s.params.routeBit⟩ c⟩
    let begun (shift : Option TxChar) (holding : Option Code) (text : List Code) : State :=
      (((s.setDraws (s.draws + 1)).setModem modem).setFramer
        { s.framer with sampler := sampler, shift := shift, holding := holding, brk := .none,
                        linkText := text }).setDisp { s.disp with remotePause := false, flow := .running, pendingFlow := none }
    let makes (x : State) : Prop :=
      Answers c s x ∧ exec c s = .next (settle s none (resetRoute (judgeFlow (recordModem .connected x))))
    (∃ t, exec c s = .next t ∧ t.held = none ∧ t.params = s.params ∧ t.modem = modem ∧ t.framer.sampler = sampler ∧
      t.framer.brk = .none ∧ t.disp.remotePause = false ∧ t.comp.queue = s.comp.queue ∧ t.engine = s.engine ∧
      (t.framer.shift = none → t.framer.holding = none ∧ t.framer.linkText = s.framer.linkText ∧ t.kbd = s.kbd)) ∧
    (s.disp.progress = none → s.kbd.txFifo = [] → sendOffer s = none →
      (s.framer.linkText = [] → makes (begun none none [])) ∧
      (∀ d, s.framer.linkText = [d] → makes (begun none none [d]) ∨ makes (begun (sent d) none [])) ∧
      (∀ d e rest, s.framer.linkText = d :: e :: rest →
        makes (begun none none (d :: e :: rest)) ∨ makes (begun (sent d) none (e :: rest)) ∨
          makes (begun (sent d) (some e) rest))))

/-- R8, R10, R11, R14, R28, R42, R43, R45, R52, R68, R158: what ends an attempt or a call, and what its end leaves: the event that
is recorded, the end of SEND with LINE_LOST, and the route reset. -/
def Obligations.CallEnds : Prop :=
  ∀ s : State,
    let idle : State := (s.setModem {}).setFramer { s.framer with sampler := s.framer.sampler.follow .idle }
    let quiet : State := (callEnded s).setDisp { (callEnded s).disp with flow := .running, pendingFlow := none }
    let gone (e : ModemEvent) : State := resetRoute (endSend .lineLost (recordModem e quiet))
    let gives (c : Instr) (x : State) : Prop := exec c s = .next (settle s none x)
    (s.held = none → s.modem.state = .waitCarrier → s.modem.connect ≠ .stopped →
      Answers .connectTimeout s idle ∧ gives .connectTimeout (recordModem .connectFailed idle)) ∧
    (s.held = none → s.modem.state = .dropout → s.modem.loss ≠ .stopped →
      Answers .lossTimeExpiry s (callEnded s) ∧ gives .lossTimeExpiry (gone .carrierLost)) ∧
    (Turn .drop s → s.modem.state = .idle → Answers .drop s (answered .drop .done [] s)) ∧
    (Turn .drop s → s.modem.state = .waitCarrier →
      Answers .drop s (answered .drop .done [] idle) ∧ gives .drop (answered .drop .done [] (recordModem .dropped idle))) ∧
    (Turn .drop s → (s.modem.state = .connected ∨ s.modem.state = .dropout) →
      Answers .drop s (answered .drop .done [] (callEnded s)) ∧ gives .drop (answered .drop .done [] (gone .dropped)))

/-! ### The Framer (chapter 2) -/

/-- R12, R17, R19 to R24: the sampler begins a character in the format in force and drops a false start; a character completes
with the decisions that each modem state in force since sample 0 made of what was heard, poisoned when the Modem has been out of
CONNECTED; it is placed in the receive FIFO, or held when every sample is space; a held character is placed at a mark and
discarded by a break, which resets the route and is recorded, and no break is received once a forced mark has ended the watch;
MARK_WAIT ends in HUNTING.  That the break is recorded after the route reset, so that its report shows the route it leaves, is the
model's own reading (log entry 23); that a character's sounds come as one operand, and that the sampler remembers a forced mark
until BREAK_WATCH_MARK comes, is its own choice (log entry 11). -/
def Obligations.SamplerReceivesCharactersAndBreaks : Prop :=
  (∀ (m : ModemState) (x : Sound),
    (m = .connected → decisionIn m x = .real (decide (x.space ≤ x.mark))) ∧ (m = .dropout → decisionIn m x = .dropout) ∧
    (m = .idle ∨ m = .waitCarrier → decisionIn m x = .quiet)) ∧
  ∀ (sounds : List (List Sound)) (f : LineFormat) (states : List ModemState) (e : Entry) (forced : Bool) (s : State),
    s.held = none →
    let samples : List Decision := decisionsOf states sounds
    let i : Instr := .receiveCharacterComplete sounds
    let hunting : State := s.setFramer { s.framer with sampler := .hunting }
    (s.framer.sampler = .hunting → s.modem.state = .connected →
      Answers .candidateStartBit s (s.setFramer { s.framer with
        sampler := .character ⟨s.params.parity, s.params.stopBits, s.params.routeBit⟩ [.connected] })) ∧
    (s.framer.sampler = .character f states → Answers .falseStart s hunting) ∧
    (s.framer.sampler = .character f states → isCharacter f states sounds = true → allSpace samples = true →
      Answers i s (s.setFramer { s.framer with sampler := .breakWatch f (entryOf f samples) false })) ∧
    (s.framer.sampler = .character f states → isCharacter f states sounds = true → allSpace samples = false →
      exec i s = .next (settle s none (placeEntry (entryOf f samples) hunting))) ∧
    (isCharacter f states sounds = true → (∃ m ∈ states, m ≠ .connected) → (entryOf f samples).poisoned = true) ∧
    (s.framer.sampler = .breakWatch f e forced →
      exec .breakWatchMark s = .next (settle s none (placeEntry e hunting))) ∧
    (s.framer.sampler = .breakWatch f e false → s.modem.state = .connected →
      exec .breakReceived s = .next (settle s none (recordLine .break_ none (resetRoute
        (s.setFramer { s.framer with sampler := .markWait }))))) ∧
    (s.framer.sampler = .breakWatch f e true → exec .breakReceived s = .next s) ∧
    (∀ m, m ≠ .connected → (Sampler.breakWatch f e forced).follow m = .breakWatch f e true) ∧
    (s.framer.sampler = .markWait → Answers .markWaitEnd s hunting)

/-- R25 to R27: the receive FIFO: where an entry is placed, when it is discarded, and how an overrun begins and ends; outside the
Framer, the Dispatcher and the reports nothing changes, and the route stays. -/
def Obligations.ReceiveFifoPlacesDiscardsAndRecovers : Prop :=
  ∀ (e : Entry) (s : State),
    (s.framer.overrun = true → placeEntry e s = s) ∧
    (s.framer.overrun = false → 16 ≤ s.framer.rxFifo.length →
      placeEntry e s = s.setFramer { s.framer with overrun := true }) ∧
    (s.framer.overrun = false → s.framer.rxFifo.length < 16 →
      (placeEntry e s).framer = { s.framer with rxFifo := s.framer.rxFifo ++ [e] }) ∧
    (s.framer.overrun = true → s.framer.rxFifo.length ≤ 13 →
      (removeHead s).framer = { s.framer with rxFifo := s.framer.rxFifo.tail ++ [⟨0x1A, false, true, true⟩], overrun := false }) ∧
    (s.framer.overrun = true → 14 ≤ s.framer.rxFifo.length →
      (removeHead s).framer = { s.framer with rxFifo := s.framer.rxFifo.tail }) ∧
    (s.framer.overrun = false → (removeHead s).framer = { s.framer with rxFifo := s.framer.rxFifo.tail }) ∧
    (∀ t, t = placeEntry e s ∨ t = removeHead s →
      t.held = s.held ∧ t.params = s.params ∧ t.modem = s.modem ∧ t.disp.route = s.disp.route ∧ t.kbd = s.kbd ∧
      t.comp = s.comp ∧ t.strobe = s.strobe ∧ t.engine = s.engine ∧ t.head = s.head ∧ t.store = s.store ∧
      t.send = s.send ∧ t.reprint = s.reprint ∧ t.take = s.take ∧ t.compose = s.compose ∧ t.supply = s.supply ∧
      t.link = s.link ∧ t.faults = s.faults ∧ t.mem = s.mem ∧ t.draws = s.draws ∧ t.pending = s.pending)

/-- R19 to R21, R31: the entry formed from the samples of a character sent by R31, with at most one wrong decision among them, has
the code sent, the route bit 0, and is neither poisoned nor a gap, in every format; such samples are those of a character, but
for a wrong decision at one of the two samples that R19 examines, 0 and 8, with which they are not. -/
def Obligations.OneWrongDecisionIsOutvoted : Prop :=
  ∀ (f : LineFormat) (c : Code) (sounds : List Sound), 1 ≤ f.stopBits →
    (decisionsOf [.connected] [sounds] = sampled f c → isCharacter f [.connected] [sounds] = true) ∧
    allSpace (sampled f c) = false ∧ entryOf f (sampled f c) = ⟨c, false, false, false⟩ ∧
    ∀ i, entryOf f (flipped (sampled f c) i) = ⟨c, false, false, false⟩ ∧ allSpace (flipped (sampled f c) i) = false ∧
      (decisionsOf [.connected] [sounds] = flipped (sampled f c) i →
        (isCharacter f [.connected] [sounds] = true ↔ i ≠ 0 ∧ i ≠ 8))

/-! ### The Dispatcher (chapter 3) -/

/-- R37, R43, R44, R47: the Dispatcher examines the head of the receive FIFO, by the tests in their order.  That a designator leaves
the FIFO, with all that its removal does, before the route changes is the model's own choice (log entry 40). -/
def Obligations.HeadIsExaminedInOrder : Prop :=
  ∀ (e : Entry) (rest : List Entry) (s : State), s.held = none → s.framer.rxFifo = e :: rest →
    s.disp.headExamined = false →
    let flow : Prop := s.params.flowControl = true ∧ e.poisoned = false
    let gives (t : State) : Prop := exec .dispatchHead s = .next (settle s none t)
    (e.routeBit = true → e.poisoned = true → gives (recordLine .badDesignator none (removeHead s))) ∧
    (e.routeBit = true → e.poisoned = false → gives (designate e.code.toNat (removeHead s))) ∧
    (e.routeBit = false → flow → e.code = s.params.pauseCode →
      gives (removeHead (s.setDisp { s.disp with remotePause := true }))) ∧
    (e.routeBit = false → flow → e.code ≠ s.params.pauseCode → e.code = s.params.resumeCode →
      gives (removeHead (s.setDisp { s.disp with remotePause := false }))) ∧
    (e.routeBit = false → ¬ (flow ∧ (e.code = s.params.pauseCode ∨ e.code = s.params.resumeCode)) →
      e.code = 0x05 → e.poisoned = false → s.disp.answerback ≠ [] →
      gives (removeHead (s.setDisp { s.disp with
        progress := if connected s = true ∧ s.disp.progress = none then some 0 else s.disp.progress }))) ∧
    (e.routeBit = false → ¬ (flow ∧ (e.code = s.params.pauseCode ∨ e.code = s.params.resumeCode)) →
      ¬ (e.code = 0x05 ∧ e.poisoned = false ∧ s.disp.answerback ≠ []) →
      gives (offerHead (s.setDisp { s.disp with headExamined := true })))

/-- R38, R40 to R42, R162: the route that a designator value gives, and the route that a reset gives, with no text head waiting;
TAKE's hold on the document of the route in force ends, incomplete when the route is reset. -/
def Obligations.DesignatorNamesTheRoute : Prop :=
  (∀ (incomplete : Bool) (o : ChannelOutcome) (d : TakeDoc) (s : State), s.take.held = some d →
    ∃ e ∈ (takeEnd incomplete o s).take.docs, e.document = d.document ∧ e.closing = true ∧ e.outcome = o ∧
      e.incomplete = (d.incomplete || incomplete)) ∧
  (∀ (new : Route) (n : Nat) (s : State), s.disp.route.document = some n → s.take.held.map (·.document) = some n →
    endRouteHold new true s = takeEnd true .lineLost s ∧
    (new.document ≠ some n → endRouteHold new false s = takeEnd false .complete s) ∧
    (new.document = some n → endRouteHold new false s = s)) ∧
  ∀ (v : Nat) (s : State), s.disp.headExamined = false →
    (let t := resetRoute s
     let home := s.params.defaultRoute
     (home = 0 → t.disp.route = .print ∧ t.reports = s.reports) ∧
     (home = 64 → t.disp.route = .discard ∧ t.reports = s.reports) ∧
     (∀ n r, 1 ≤ n → n ≤ 31 → (home = n ∧ r = .store n ∨ home = n + 32 ∧ r = .printStore n) →
       (connected s = false → t.disp.route = .print ∧ t.reports = s.reports) ∧
       (connected s = true → takeRefuses n (endRouteHold r true s) = false → t.disp.route = r ∧ t.reports = s.reports) ∧
       (connected s = true → takeRefuses n (endRouteHold r true s) = true →
         (endRouteHold r true s).take.held.map (·.document) ≠ some n →
         t.disp.route = .print ∧ (reportEnabled 2 s = true →
           ∃ x, t.reports.line = some x ∧ x.events.getLsbD 3 = true ∧ x.refused = n ∧ x.route = .print)))) ∧
    (v = 0 → (designate v s).disp.route = .print) ∧
    (v = 64 → (designate v s).disp.route = .discard) ∧
    (v = 32 ∨ 65 ≤ v → (designate v s).disp.route = .print ∧
      (reportEnabled 2 s = true → ∃ r, (designate v s).reports.line = some r ∧ r.events.getLsbD 2 = true)) ∧
    (∀ n r, 1 ≤ n → n ≤ 31 → (v = n ∧ r = .store n ∨ v = n + 32 ∧ r = .printStore n) →
      (s.disp.route = r → designate v s = s) ∧
      (s.disp.route ≠ r → connected s = false → (designate v s).disp.route = .print) ∧
      (s.disp.route ≠ r → connected s = true → takeRefuses n (endRouteHold r false s) = false →
        (designate v s).disp.route = r) ∧
      (s.disp.route ≠ r → connected s = true → takeRefuses n (endRouteHold r false s) = true →
        (endRouteHold r false s).take.held.map (·.document) ≠ some n → (designate v s).disp.route = .print))

/-- R47, R48, R161: the waiting text head is offered to the sinks of the route that do not have it: TAKE takes it when its buffer has
room, its code with its poison mark, and print waits for LINE's deposit; the head leaves the FIFO when every sink of the route
has it, and at once on the discard route; a full buffer at sequence 63 overflows.  That TEXT_HEAD_DELIVERY finds a head for TAKE
only in a state that has not settled is the model's own choice (log entry 42). -/
def Obligations.TextHeadGoesToTake : Prop :=
  (∀ (n : Nat) (s : State), s.disp.headExamined = true →
    let has (k : Sink) : Prop := k ∈ s.disp.record
    (s.disp.route = .discard → offerHead s = removeHead s) ∧
    (s.disp.route = .print → (has .print → offerHead s = removeHead s) ∧ (¬ has .print → offerHead s = s)) ∧
    (s.disp.route = .store n → has (.store n) → offerHead s = removeHead s) ∧
    (s.disp.route = .printStore n → has (.store n) →
      (has .print → offerHead s = removeHead s) ∧ (¬ has .print → offerHead s = s)) ∧
    (∀ e rest, s.framer.rxFifo = e :: rest → s.disp.route.document = some n → ¬ has (.store n) →
      (takeAnswer n s = .waits → offerHead s = s) ∧
      (takeAnswer n s = .overflows → offerHead s = finishHead (takeOverflow n s)) ∧
      (takeAnswer n s = .takes →
        (s.disp.route = .store n ∨ has .print → offerHead s = removeHead (joinRecord (.store n) (takeHead n e s))) ∧
        (s.disp.route = .printStore n → ¬ has .print → offerHead s = joinRecord (.store n) (takeHead n e s)))) ∧
    (s.take.held.map (·.document) ≠ some n ∨ s.take.filling n = none → takeAnswer n s = .waits) ∧
    (s.take.held.map (·.document) = some n → ∀ b, s.take.filling n = some b →
      (b.chars.length < 58 → takeAnswer n s = .takes ∧ ∀ e : Entry,
        (∃ x ∈ (takeHead n e s).take.bufA.toList ++ (takeHead n e s).take.bufB.toList, x.document = n ∧ x.seq = b.seq ∧
          x.chars = b.chars ++ [storeByte e.code e.poisoned] ∧ x.final = false ∧
          x.full = decide (b.chars.length = 57 ∧ b.seq < 63)) ∧
        (e.poisoned = true → ∃ d ∈ (takeHead n e s).take.docs, d.document = n ∧ d.poisoned = true)) ∧
      (58 ≤ b.chars.length → b.seq = 63 → takeAnswer n s = .overflows) ∧
      (58 ≤ b.chars.length → b.seq ≠ 63 → takeAnswer n s = .waits))) ∧
  ∀ (e : Entry) (rest : List Entry) (n : Nat) (b : TakeBuf) (s : State), s.held = none → s.framer.rxFifo = e :: rest →
    s.disp.headExamined = true → s.take.held.map (·.document) = some n → s.take.filling n = some b →
    (s.disp.route = .store n → s.disp.record = [] → b.chars.length < 58 →
      exec .textHeadDelivery s = .next (settle s none (removeHead (joinRecord (.store n) (takeHead n e s))))) ∧
    (s.disp.route = .printStore n → s.disp.record = [] → b.chars.length < 58 →
      exec .textHeadDelivery s = .next (settle s none (joinRecord (.store n) (takeHead n e s)))) ∧
    (s.disp.route = .printStore n → s.disp.record = [.print] → b.chars.length < 58 →
      exec .textHeadDelivery s = .next (settle s none (removeHead (joinRecord (.store n) (takeHead n e s))))) ∧
    (s.disp.route = .store n → s.disp.record = [] → 58 ≤ b.chars.length → b.seq = 63 →
      exec .textHeadDelivery s = .next (settle s none (finishHead (takeOverflow n s))))

/-- R50, R51: the flow table: what the pause and the resume condition do to the flow state and the pending flow code. -/
def Obligations.FlowConditionsActOnTheFlowState : Prop :=
  ∀ s : State,
    (pauseCondition s = true ↔
      12 ≤ s.framer.rxFifo.length ∨ s.disp.route.hasPrint = true ∧ s.params.highWater ≤ s.comp.queue.length) ∧
    (resumeCondition s = true ↔
      s.framer.rxFifo.length ≤ 4 ∧ (s.disp.route.hasPrint = true → s.comp.queue.length ≤ s.params.lowWater)) ∧
    (connected s = false ∨ s.params.flowControl = false → judgeFlow s = s) ∧
    (connected s = true → s.params.flowControl = true →
      (s.disp.flow = .running → s.disp.pendingFlow = none → pauseCondition s = true →
        judgeFlow s = s.setDisp { s.disp with flow := .pauseSent, pendingFlow := some .pause }) ∧
      (s.disp.flow = .running → s.disp.pendingFlow = some .resume → pauseCondition s = true →
        judgeFlow s = s.setDisp { s.disp with flow := .pauseSent, pendingFlow := none }) ∧
      (s.disp.flow = .pauseSent → s.disp.pendingFlow = none → resumeCondition s = true →
        judgeFlow s = s.setDisp { s.disp with flow := .running, pendingFlow := some .resume }) ∧
      (s.disp.flow = .pauseSent → s.disp.pendingFlow = some .pause → resumeCondition s = true →
        judgeFlow s = s.setDisp { s.disp with flow := .running, pendingFlow := none }) ∧
      (s.disp.flow = .running → pauseCondition s = false → judgeFlow s = s) ∧
      (s.disp.flow = .pauseSent → resumeCondition s = false → judgeFlow s = s))

/-- R32, R33, R46: the requests of the line side: text for the transmitter, a break, the answerback.  That a text with both a bad
byte and no room is answered BAD_VALUE is the model's own reading (log entry 38). -/
def Obligations.LineRequestsAreAnswered : Prop :=
  ∀ (text : List Byte) (s : State),
    (Turn (.transmitText text) s → 1 ≤ text.length → text.length ≤ 240 →
      let c : Instr := .transmitText text
      ((∃ b ∈ text, 0x7F < b.toNat) → Answers c s (answered c .badValue [] s)) ∧
      ((∀ b ∈ text, b.toNat ≤ 0x7F) → 256 < s.framer.linkText.length + text.length →
        Answers c s (answered c .full [] s)) ∧
      ((∀ b ∈ text, b.toNat ≤ 0x7F) → s.framer.linkText.length + text.length ≤ 256 →
        Answers c s (answered c .done []
          (s.setFramer { s.framer with linkText := s.framer.linkText ++ text.map (·.setWidth 7) })))) ∧
    (Turn .sendBreak s →
      (connected s = false → Answers .sendBreak s (answered .sendBreak .notReady [] s)) ∧
      (connected s = true → s.framer.brk ≠ .none → Answers .sendBreak s (answered .sendBreak .done [] s)) ∧
      (connected s = true → s.framer.brk = .none → s.framer.shift = none →
        Answers .sendBreak s (answered .sendBreak .done []
          (s.setFramer { s.framer with brk := .space s.params.breakLength }))) ∧
      (connected s = true → s.framer.brk = .none → s.framer.shift ≠ none →
        Answers .sendBreak s (answered .sendBreak .done [] (s.setFramer { s.framer with brk := .wait })))) ∧
    (Turn (.setAnswerback text) s → text.length ≤ 24 →
      let c : Instr := .setAnswerback text
      ((∃ b ∈ text, 0x7F < b.toNat) → Answers c s (answered c .badValue [] s)) ∧
      ((∀ b ∈ text, b.toNat ≤ 0x7F) → s.disp.progress ≠ none → Answers c s (answered c .busy [] s)) ∧
      ((∀ b ∈ text, b.toNat ≤ 0x7F) → s.disp.progress = none →
        Answers c s (answered c .done [] (s.setDisp { s.disp with answerback := text.map (·.setWidth 7) }))))

/-- R29, R31, R33, R34: the stages of the transmitter and the phases of a break. -/
def Obligations.TransmitterStagesAndBreakPhases : Prop :=
  ∀ s : State, s.held = none → connected s = true →
    let sent (c : Code) : Option TxChar :=
      some ⟨c, lineStates ⟨s.params.parity, s.params.stopBits, s.params.routeBit⟩ c⟩
    (s.framer.shift ≠ none → s.framer.brk = .none → s.framer.holding = none →
      Answers .shiftStageEmpties s (s.setFramer { s.framer with shift := none })) ∧
    (∀ c, s.framer.shift ≠ none → s.framer.brk = .none → s.framer.holding = some c →
      Answers .shiftStageEmpties s (s.setFramer { s.framer with shift := sent c, holding := none })) ∧
    (s.framer.shift ≠ none → s.framer.brk = .wait →
      Answers .shiftStageEmpties s
        (s.setFramer { s.framer with shift := none, brk := .space s.params.breakLength })) ∧
    (∀ n, s.framer.brk = .space n →
      Answers .breakSpaceEnd s (s.setFramer { s.framer with
        brk := .mark (8 + (if s.params.parity = .none then 0 else 1) + (if s.params.routeBit then 1 else 0)
          + s.params.stopBits) })) ∧
    (∀ n, s.framer.brk = .mark n → s.framer.holding = none →
      Answers .breakMarkEnd s (s.setFramer { s.framer with shift := none, brk := .none })) ∧
    (∀ n c, s.framer.brk = .mark n → s.framer.holding = some c →
      Answers .breakMarkEnd s (s.setFramer { s.framer with shift := sent c, holding := none, brk := .none }))

/-- R29, R30, R157: the holding stage takes the character of the first eligible source that has one, and the source goes on to
its next one. -/
def Obligations.HoldingStageFollowsTheOrder : Prop :=
  ∀ s : State, s.held = none → connected s = true → s.framer.brk = .none → s.framer.holding = none →
    let shown (c : Code) (t : State) : State := if s.framer.shift ≠ none then t.setFramer { t.framer with holding := some c }
      else t.setFramer { t.framer with
        holding := none, shift := some ⟨c, lineStates ⟨s.params.parity, s.params.stopBits, s.params.routeBit⟩ c⟩ }
    let gives (c : Code) (t : State) : Prop := exec .holdingStageRefill s = .next (settle s none (shown c t))
    (∀ p, s.disp.pendingFlow = some p →
      gives (if p = .pause then s.params.pauseCode else s.params.resumeCode)
        (s.setDisp { s.disp with pendingFlow := none })) ∧
    (∀ k c, s.disp.pendingFlow = none → s.disp.progress = some k → s.disp.answerback[k]? = some c →
      gives c (s.setDisp { s.disp with
        progress := if k + 1 < s.disp.answerback.length then some (k + 1) else none })) ∧
    (s.disp.pendingFlow = none → s.disp.progress = none →
      (∀ c rest, s.kbd.txFifo = c :: rest → gives c (s.setKbd { s.kbd with txFifo := rest })) ∧
      (s.kbd.txFifo = [] → s.disp.remotePause = false →
        (∀ d i, s.send.current = some d → s.send.reader.next = some i →
          gives i.lineCode (s.setSend { s.send with reader := s.send.reader.take })) ∧
        (∀ d c, s.send.current = some d → s.send.reader.next = none → s.send.endCode = some c →
          gives c ((recordDone .send .complete [d] (closeDoc d id s)).setSend { current := s.send.staged })) ∧
        (∀ c rest, sendOffer s = none → s.framer.linkText = c :: rest →
          gives c (s.setFramer { s.framer with linkText := rest })) ∧
        (sendOffer s = none → s.framer.linkText = [] → exec .holdingStageRefill s = .next s)) ∧
      (s.kbd.txFifo = [] → s.disp.remotePause = true → exec .holdingStageRefill s = .next s))

/-! ### The Keyboard (chapter 4) -/

/-- R55, R57, R58, R67: a scan is one step; three scans that read one key down on a quiet keyboard place its MAKE and nothing else;
three that read it up again place its BREAK, or leave it owed when the key event queue is full or a BREAK is owed already, or make
no event when its MAKE was dropped.  A change to up acts so for every record of the key, and ends its auto-repeat. -/
def Obligations.ThreeScansMakeOneKey : Prop :=
  (∀ (m : KeyMatrix) (s : State), s.held = none → exec (.keyScan m) s = .next (settle s none (scan m s))) ∧
  (∀ (p : Nat) (s : State), p < 64 → s.kbd.keys = Vector.replicate 64 {} → s.kbd.owed = [] → s.kbd.events.length < 16 →
    let m : KeyMatrix := BitVec.twoPow 64 p
    let t := scan m (scan m s)
    t.kbd.events = s.kbd.events ∧ (keyRecord p t).down = false ∧
    (scan m t).kbd.events = s.kbd.events ++ [⟨p, .make⟩] ∧ (keyRecord p (scan m t)).down = true ∧
    ∀ q, q < 64 → q ≠ p → keyRecord q (scan m t) = {}) ∧
  (∀ (p : Nat) (u : Bool) (s : State), p < 64 →
    s.kbd.keys = put (Vector.replicate 64 {}) p { down := true, unreported := u } →
    let t := scan 0 (scan 0 s)
    let up := scan 0 t
    let room : Prop := s.kbd.events.length < 16 ∧ s.kbd.owed = []
    t.kbd.events = s.kbd.events ∧ t.kbd.owed = s.kbd.owed ∧ (keyRecord p t).down = true ∧
    (u = true → up.kbd.events = s.kbd.events ∧ up.kbd.owed = s.kbd.owed ∧ keyRecord p up = {}) ∧
    (u = false → room →
      up.kbd.events = s.kbd.events ++ [⟨p, .brk⟩] ∧ up.kbd.owed = s.kbd.owed ∧ keyRecord p up = {}) ∧
    (u = false → ¬ room →
      up.kbd.events = s.kbd.events ∧ up.kbd.owed = s.kbd.owed ++ [p] ∧
        keyRecord p up = { down := true, breakOwed := true }) ∧
    ∀ q, q < 64 → q ≠ p → keyRecord q up = {}) ∧
  ∀ (p : Nat) (s : State), p < 64 →
    let r := keyRecord p s
    let room : Prop := s.kbd.events.length < 16 ∧ s.kbd.owed = []
    let ended : Keyboard := { s.kbd with
      autoRepeat := if s.kbd.autoRepeat.map (·.position) = some p then none else s.kbd.autoRepeat }
    (r.unreported = true →
      keyUp p s = s.setKbd { ended with keys := put s.kbd.keys p { r with down := false, count := 0, unreported := false } }) ∧
    (r.unreported = false → room →
      keyUp p s = s.setKbd { ended with
        keys := put s.kbd.keys p { r with down := false, count := 0 }, events := s.kbd.events ++ [⟨p, .brk⟩] }) ∧
    (r.unreported = false → ¬ room →
      keyUp p s = s.setKbd { ended with
        keys := put s.kbd.keys p { r with count := 0, breakOwed := true }, owed := s.kbd.owed ++ [p] })

/-- R56, R57: a due change to down is withheld when three accepted keys complete a rectangle with it; any other change to down is
accepted, and is placed as a MAKE when the key event queue has room and no BREAK is owed, or else is down unreported. -/
def Obligations.RectangleWithholdsTheFourthKey : Prop :=
  ∀ (p : Nat) (s : State), p < 64 →
    let isDown (r c : Nat) : Prop := (keyRecord (8 * r + c) s).down = true
    let rectangle : Prop := ∃ r c, r < 8 ∧ c < 8 ∧ r ≠ p / 8 ∧ c ≠ p % 8 ∧ isDown r (p % 8) ∧ isDown (p / 8) c ∧ isDown r c
    let accepted : KeyRecord := { keyRecord p s with down := true, count := 0, withheld := false }
    (rectangle →
      (keyDown p s).kbd.events = s.kbd.events ∧ keyRecord p (keyDown p s) = { keyRecord p s with withheld := true }) ∧
    (¬ rectangle → s.kbd.events.length < 16 → s.kbd.owed = [] →
      (keyDown p s).kbd.events = s.kbd.events ++ [⟨p, .make⟩] ∧ keyRecord p (keyDown p s) = accepted) ∧
    (¬ rectangle → (16 ≤ s.kbd.events.length ∨ s.kbd.owed ≠ []) →
      (keyDown p s).kbd.events = s.kbd.events ∧
        keyRecord p (keyDown p s) = { accepted with unreported := true }) ∧
    ∀ q, q < 64 → q ≠ p → keyRecord q (keyDown p s) = keyRecord q s

/-- R33, R57, R58, R60 to R65, R69, R80, R166: the translator's head when it is a function key, an entry without action, a BREAK, or
an event for the relay key queue, which takes it while it holds fewer than 8 and refuses it otherwise; with each removal of the
head the oldest BREAK owed takes the freed place. -/
def Obligations.FunctionKeysAndBreaks : Prop :=
  ∀ (p v : Nat) (rest : List KeyEvent) (s : State), s.held = none → NothingToStart s →
    let i : Instr := .translateKeyHead v
    let gives (x : State) : Prop := exec i s = .next (settle s (some v) x)
    let gone (d : Option DownRecord) (s : State) : State :=
      keyHeadGone rest (s.setKbd { s.kbd with downs := put s.kbd.downs p d })
    let refused (s : State) : State := (recordKeys true s).setKbd { s.kbd with tones := s.kbd.tones ++ [.click] }
    let relays (k : KeyKind) (d : Option DownRecord) : Prop :=
      (s.kbd.relay.length < 8 →
        gives (gone d (recordKeys false (s.setKbd { s.kbd with relay := s.kbd.relay ++ [⟨p, k⟩] })))) ∧
      (8 ≤ s.kbd.relay.length → gives (gone d (refused s)))
    (s.kbd.events = ⟨p, .make⟩ :: rest → effectiveMode s ≠ .relay →
      (translate p s = 0x00 → Answers i s (gone (some .other) s)) ∧
      (translate p s = 0x80 → Answers i s (gone (some .shift) s)) ∧
      (translate p s = 0x81 → Answers i s (gone (some .ctrl) s)) ∧
      (translate p s = 0x82 → Answers i s (gone (some .other) (s.setKbd { s.kbd with caps := !s.kbd.caps }))) ∧
      (translate p s = 0x83 →
        let brk (b : BreakPhase) : Prop := Answers i s (gone (some .other) (s.setFramer { s.framer with brk := b }))
        (connected s = false ∨ s.framer.brk ≠ .none → Answers i s (gone (some .other) s)) ∧
        (connected s = true → s.framer.brk = .none → s.framer.shift = none → brk (.space s.params.breakLength)) ∧
        (connected s = true → s.framer.brk = .none → s.framer.shift ≠ none → brk .wait)) ∧
      (translate p s = 0x84 →
        let held (s : State) : State := gone (some .feed) (s.setKbd { s.kbd with
          feedRepeats := s.kbd.feedRepeats ++ [⟨p, .running s.params.repeatDelay⟩] })
        let before : List Job := s.comp.output.map (Job.untag p)
        let fed : State := held (s.setComp { s.comp with output := before ++ [.feed 12 (some p)] })
        let printed : State := held (s.setComp { s.comp with
          output := before ++ [.text s.comp.cells, .feed 12 (some p)], cells := Vector.replicate 80 [],
          lineSource := none, formCount := nextFormCount s.params.formLength s.comp.formCount })
        (holdsContent s = false → s.comp.output.length < 4 → gives fed ∧ (s.engine.state ≠ .idle → Answers i s fed)) ∧
        (holdsContent s = true → s.comp.output.length < 3 →
          gives printed ∧ (s.engine.state ≠ .idle → Answers i s printed)) ∧
        (4 ≤ s.comp.output.length ∨ holdsContent s = true ∧ 3 ≤ s.comp.output.length →
          Answers i s (held (s.setComp { s.comp with output := before })))) ∧
      (translate p s = 0x85 →
        ((s.compose.phase = .composing ∨ s.compose.phase = .loading) →
          gives (gone (some .other) (s.setCompose { s.compose with
            phase := .ending,
            write := if s.compose.loading = false ∧ s.compose.write = none then some { final := true }
              else s.compose.write }))) ∧
        (s.compose.phase = .idle ∨ s.compose.phase = .ending → gives (gone (some .other) (refused s)))) ∧
      (translate p s = 0x86 → relays .make (some .relayed))) ∧
    (s.kbd.events = ⟨p, .make⟩ :: rest → effectiveMode s = .relay → relays .make (some .relayed)) ∧
    (s.kbd.events = ⟨p, .brk⟩ :: rest → downRecord p s = some .relayed → relays .brk none) ∧
    (s.kbd.events = ⟨p, .brk⟩ :: rest → downRecord p s ≠ some .relayed → downRecord p s ≠ some .feed →
      Answers i s (gone none s)) ∧
    (s.kbd.events = ⟨p, .brk⟩ :: rest → downRecord p s = some .feed →
      Answers i s
        (gone none (s.setKbd { s.kbd with feedRepeats := s.kbd.feedRepeats.filter (·.position ≠ p) })))

/-- R61 to R63, R65 to R67, R165: COMPOSE's answer to a character, and the translator's head when it is a character, by the
effective mode: refused, delivered to all its sinks together, or waiting while one of them cannot take it; and a REPEAT.  With each removal
of the head the oldest BREAK owed takes the freed place (R58).  That COMPOSE refuses a character while it is ending, also when its
load still waits or is in flight, where R164 says wait and R165 says refuse, is the model's choice (log entry 49). -/
def Obligations.CharacterKeysReachTheirSinks : Prop :=
  (∀ (c : Code) (s : State),
    let writing : Prop := s.compose.write ≠ none
    let fill := s.compose.chars.length
    (s.compose.phase = .idle ∨ s.compose.phase = .ending → composeAnswer c s = .refuse) ∧
    (s.compose.phase = .loading → composeAnswer c s = .wait) ∧
    (s.compose.phase = .composing →
      (writing → composeAnswer c s = .wait) ∧
      (¬ writing → c = 0x08 → composeAnswer c s = if fill = 0 then .refuse else .accept) ∧
      (¬ writing → c ≠ 0x08 →
        composeAnswer c s = if fill < 58 then .accept else if s.compose.seq = 63 then .refuse else .wait))) ∧
  ∀ (p v : Nat) (c : Code) (rest : List KeyEvent) (s : State), s.held = none → NothingToStart s →
    let i : Instr := .translateKeyHead v
    let gives (x : State) : Prop := exec i s = .next (settle s (some v) x)
    let gone (d : Option DownRecord) (s : State) : State :=
      keyHeadGone rest (s.setKbd { s.kbd with downs := put s.kbd.downs p d })
    let begun (s : State) : State := s.setKbd { s.kbd with
      autoRepeat := if (keyRecord p s).down = true ∧ (keyRecord p s).breakOwed = false then
          some ⟨p, .running s.params.repeatDelay⟩ else none }
    let typed (s : State) : State := gone (some .character) (begun s)
    let sent (s : State) : State := s.setKbd { s.kbd with txFifo := s.kbd.txFifo ++ [c] }
    let deposited (s : State) : State := s.setComp { s.comp with queue := s.comp.queue ++ [⟨c, false, false, .keys⟩] }
    let waits : Prop := Answers i s (s.setKbd { s.kbd with headJudged := true })
    let printRoom : Prop := s.comp.owner = some .keys ∧ s.comp.queue.length < 512
    (s.kbd.events = ⟨p, .make⟩ :: rest → entryChar (translate p s) = some c →
      (effectiveMode s ≠ .relay → s.kbd.lock = true →
        Answers i s (gone (some .other) (s.setKbd { s.kbd with autoRepeat := none, tones := s.kbd.tones ++ [.click] })) ∧
        gives (gone (some .other)
          ((recordKeys true s).setKbd { s.kbd with autoRepeat := none, tones := s.kbd.tones ++ [.click] }))) ∧
      (effectiveMode s = .full → s.kbd.lock = false →
        (s.kbd.txFifo.length < 16 → Answers i s (typed (sent s))) ∧
        (16 ≤ s.kbd.txFifo.length → waits)) ∧
      (effectiveMode s = .half → s.kbd.lock = false →
        (s.kbd.txFifo.length < 16 → printRoom → Answers i s (typed (deposited (sent s)))) ∧
        (16 ≤ s.kbd.txFifo.length ∨ ¬ printRoom → waits)) ∧
      (effectiveMode s = .local_ → s.kbd.lock = false →
        (printRoom → Answers i s (typed (deposited s))) ∧
        (¬ printRoom → waits)) ∧
      (effectiveMode s = .compose → s.kbd.lock = false →
        let chars : List Byte := if c = 0x08 then s.compose.chars.dropLast else s.compose.chars ++ [storeByte c false]
        let composed : State := s.setCompose { s.compose with
          chars := chars
          write := if c ≠ 0x08 ∧ chars.length = 58 ∧ s.compose.seq < 63 then some { final := false } else none }
        (composeAnswer c s = .refuse →
          gives (gone (some .other)
            ((recordKeys true s).setKbd { s.kbd with autoRepeat := none, tones := s.kbd.tones ++ [.click] }))) ∧
        (composeAnswer c s = .wait → waits) ∧
        (composeAnswer c s = .accept → s.params.composeEcho = false → gives (typed composed)) ∧
        (composeAnswer c s = .accept → s.params.composeEcho = true → ¬ printRoom → waits) ∧
        (composeAnswer c s = .accept → s.params.composeEcho = true → printRoom →
          Answers i s (typed (deposited composed)) ∧
          (c ≠ 0x0A → c ≠ 0x0C →
            gives (typed (judgeFlow ((deposited composed).setComp { (deposited composed).comp with
              ownerTimer := .stopped, keysEcho := true }))))))) ∧
    (s.kbd.events = ⟨p, .rep⟩ :: rest →
      let dropped (s : State) : State := keyHeadGone rest s
      (downRecord p s ≠ some .character ∨ effectiveMode s = .relay ∨ s.kbd.lock = true ∨ entryChar (translate p s) = none →
        Answers i s (dropped s)) ∧
      (downRecord p s = some .character → entryChar (translate p s) = some c → s.kbd.lock = false →
        (effectiveMode s = .full → s.kbd.txFifo.length < 16 → Answers i s (dropped (sent s))) ∧
        (effectiveMode s = .local_ → printRoom → Answers i s (dropped (deposited s))) ∧
        (effectiveMode s = .full → 16 ≤ s.kbd.txFifo.length → waits) ∧
        (effectiveMode s = .compose → composeAnswer c s = .refuse →
          Answers i s (dropped (s.setKbd { s.kbd with autoRepeat := none })))))

/-- R64, R67, R70: the Keyboard's repeats and the end of a tone. -/
def Obligations.KeyboardTimersRunOut : Prop :=
  ∀ (p v : Nat) (s : State), s.held = none →
    (∀ a, s.kbd.autoRepeat = some a →
      Answers .autoRepeatExpiry s (s.setKbd { s.kbd with
        events := if s.kbd.events.length < 16 ∧ s.kbd.owed = [] then s.kbd.events ++ [⟨a.position, .rep⟩] else s.kbd.events,
        autoRepeat := some { a with timer := .running s.params.repeatInterval } })) ∧
    (let again : List FeedRepeat := s.kbd.feedRepeats.map fun f =>
      if f.position = p then { f with timer := .running s.params.repeatInterval } else f
     (∃ f ∈ s.kbd.feedRepeats, f.position = p) →
      (s.comp.output.any (Job.isFeedOf p) = true → s.engine.state ≠ .idle →
        Answers (.feedRepeatExpiry p v) s (s.setKbd { s.kbd with feedRepeats := again })) ∧
      (s.comp.output.any (Job.isFeedOf p) = false → s.engine.state ≠ .idle → holdsContent s = false →
        s.comp.output.length < 4 →
        Answers (.feedRepeatExpiry p v) s ((s.setComp { s.comp with
          output := s.comp.output ++ [.feed 12 (some p)] }).setKbd { s.kbd with feedRepeats := again }))) ∧
    (∀ tone ∈ s.kbd.tones,
      Answers (.beeperToneEnd tone) s (s.setKbd { s.kbd with tones := s.kbd.tones.erase tone }))

/-- R59, R62, R66, R69: the Keyboard's requests. -/
def Obligations.KeyboardRequestsAreAnswered : Prop :=
  ∀ (p l e : Byte) (s : State),
    (Turn (.setKeymapEntry p l e) s →
      let c : Instr := .setKeymapEntry p l e
      (63 < p.toNat ∨ 2 < l.toNat ∨ 0x86 < e.toNat → Answers c s (answered c .badValue [] s)) ∧
      (p.toNat ≤ 63 → e.toNat ≤ 0x86 →
        (l = 0 → Answers c s (answered c .done [] (s.setKbd { s.kbd with plain := put s.kbd.plain p.toNat e }))) ∧
        (l = 1 → Answers c s (answered c .done [] (s.setKbd { s.kbd with shift := put s.kbd.shift p.toNat e }))) ∧
        (l = 2 → Answers c s (answered c .done [] (s.setKbd { s.kbd with control := put s.kbd.control p.toNat e }))))) ∧
    (Turn (.setKeyboardMode p) s →
      let c : Instr := .setKeyboardMode p
      let set (m : KeyMode) : State := answered c .done [] (s.setKbd { s.kbd with mode := m, autoRepeat := none })
      (p = 0 → Answers c s (set .full)) ∧ (p = 1 → Answers c s (set .half)) ∧ (p = 2 → Answers c s (set .local_)) ∧
      (p = 3 → Answers c s (set .compose)) ∧ (p = 4 → Answers c s (set .relay)) ∧
      (4 < p.toNat → Answers c s (answered c .badValue [] s))) ∧
    (Turn (.lockKeyboard p) s →
      let c : Instr := .lockKeyboard p
      (p = 0 → Answers c s (answered c .done [] (s.setKbd { s.kbd with lock := false }))) ∧
      (p = 1 → Answers c s (answered c .done [] (s.setKbd { s.kbd with lock := true, autoRepeat := none }))) ∧
      (1 < p.toNat → Answers c s (answered c .badValue [] s))) ∧
    (Turn .readKeys s → s.kbd.relay.length ≤ 8 →
      Answers .readKeys s (answered .readKeys .done
        (BitVec.ofNat 8 s.kbd.relay.length ::
          s.kbd.relay.map fun e => BitVec.ofNat 8 (e.position + if e.kind = .brk then 0x80 else 0))
        (s.setKbd { s.kbd with relay := [] })))

/-! ### The Composer (chapter 5) -/

/-- R47, R61, R72 to R76, R78, R159: the owner of print input deposits one character at the tail of the print queue; LINE's head
leaves the receive FIFO when every sink of the route has it; a deposit of LF or FF that is not poisoned releases print input, but
for REPRINT in WHOLE mode, and those that wait compete; the Keyboard judges its head on the deposit, and so reads compose-echo.  That
LINK and REPRINT compete again whatever the operand says, and LINE and KEYS by it (log entry 17), and that the compose-echo KEYS
goes by stands in a field, read before the release (log entry 45), are the model's own choice. -/
def Obligations.OwnerDepositsAtTheTail : Prop :=
  ∀ (b : Bool) (s : State), s.held = none → s.comp.queue.length < 512 →
    let i : Instr := .printDeposit b
    let gives (x : State) : Prop := exec i s = .next (settle s none x)
    let deposited (e : PrintEntry) (s : State) : State :=
      judgeFlow (s.setComp { s.comp with
        queue := s.comp.queue ++ [e], ownerTimer := .stopped, keysEcho := s.params.composeEcho })
    let freed (s : State) : State := s.setComp { s.comp with
      owner := none, ownerTimer := .stopped,
      keysEcho := if s.comp.owner = some .keys then s.params.composeEcho else s.comp.keysEcho }
    let ends (c : Code) : Prop := c = 0x0A ∨ c = 0x0C
    (∀ e rest, s.comp.owner = some .line → s.framer.rxFifo = e :: rest → s.disp.headExamined = true →
      s.disp.route.hasPrint = true → .print ∉ s.disp.record →
      let took : State := joinRecord .print (deposited ⟨e.code, e.poisoned, e.gap, .line⟩ s)
      let all : Prop := s.disp.route = .print ∨ ∃ n, s.disp.route = .printStore n ∧ .store n ∈ s.disp.record
      let released : Prop := e.poisoned = false ∧ ends e.code
      (b = false → Answers i s (s.setComp { s.comp with
        queue := s.comp.queue ++ [⟨e.code, e.poisoned, e.gap, .line⟩] })) ∧
      (¬ released → (all → gives (removeHead took)) ∧ (¬ all → gives took)) ∧
      (released → b = false →
        (all → gives (arbitrate (removeHead (freed took)))) ∧ (¬ all → gives (arbitrate (freed took)))) ∧
      (released → b = true →
        (all → gives (arbitrate (examineHead (removeHead (freed took))))) ∧
        (¬ all → gives (arbitrate (examineHead (freed took)))))) ∧
    (∀ c rest, s.comp.owner = some .link → s.comp.linkPrint = c :: rest →
      let took : State := deposited ⟨c, false, false, .link⟩ (s.setComp { s.comp with linkPrint := rest })
      Answers i s (s.setComp { s.comp with
        queue := s.comp.queue ++ [⟨c, false, false, .link⟩], linkPrint := rest }) ∧
      (¬ ends c → gives took) ∧ (ends c → gives (arbitrate (freed took)))) ∧
    (∀ e, s.comp.owner = some .reprint → reprintOffer s = some e →
      let took : State := reprintTake e (deposited e s)
      let released : Prop := e.poisoned = false ∧ ends e.code ∧ s.reprint.whole = false
      Answers i s (s.setComp { s.comp with queue := s.comp.queue ++ [e] }) ∧
      (¬ released → gives took) ∧ (released → gives (arbitrate (freed took)))) ∧
    (∀ p c rest, s.comp.owner = some .keys → s.kbd.headJudged = true → s.kbd.events = ⟨p, .make⟩ :: rest →
      entryChar (translate p s) = some c → s.kbd.lock = false → effectiveMode s = .local_ →
      let typed (s : State) : State := keyHeadGone rest (s.setKbd { s.kbd with
        downs := put s.kbd.downs p (some .character),
        autoRepeat := if (keyRecord p s).down = true ∧ (keyRecord p s).breakOwed = false then
            some ⟨p, .running s.params.repeatDelay⟩ else none })
      let took : State := deposited ⟨c, false, false, .keys⟩ s
      (¬ ends c → gives (typed took) ∧
        Answers i s (typed (s.setComp { s.comp with queue := s.comp.queue ++ [⟨c, false, false, .keys⟩] }))) ∧
      (ends c → b = false → gives (arbitrate (typed (freed took)))) ∧
      (ends c → b = true →
        let x : State := typed (freed took)
        gives (arbitrate ((x.setKbd { x.kbd with headJudged := headNeedsPrint x.params.composeEcho x }).setComp
          { x.comp with keysEcho := x.params.composeEcho }))))

/-- R74, R75, R77: free print input goes to the highest claimant that waits, and the ownership timeout frees it.  KEYS goes by
compose-echo as the latest judgement of the translator's head read it (R62), which the loss of print input is; the field that
holds it is the model's own (log entry 45).  That the highest is taken also among claimants which have come to wait within one step
while print input was free, where R75 lets either be taken first, is the model's choice (log entry 24). -/
def Obligations.FreeInputGoesToTheHighestClaimant : Prop :=
  ∀ s : State,
    (s.comp.owner = none →
      (arbitrate s).comp.owner =
        if waitsFor .line s then some .line else if waitsFor .keys s then some .keys
        else if waitsFor .link s then some .link else if waitsFor .reprint s then some .reprint else none) ∧
    (∀ c, s.comp.owner = some c → arbitrate s = s) ∧
    (waitsFor .line s = true ↔ s.disp.headExamined = true ∧ s.framer.rxFifo ≠ [] ∧ s.disp.route.hasPrint = true ∧
      .print ∉ s.disp.record) ∧
    (waitsFor .link s = true ↔ s.comp.linkPrint ≠ []) ∧
    (waitsFor .reprint s = true ↔ reprintOffer s ≠ none) ∧
    (∀ c, headChar s = some c → s.kbd.lock = false → effectiveMode s = .compose → composeAnswer c s ≠ .refuse →
      (waitsFor .keys s = true ↔ s.kbd.headJudged = true ∧ s.comp.keysEcho = true)) ∧
    (s.held = none → s.comp.owner ≠ none → s.comp.ownerTimer ≠ .stopped →
      exec .ownershipTimeout s = .next (settle s none (arbitrate (s.setComp { s.comp with
        owner := none, ownerTimer := .stopped,
        keysEcho := if s.comp.owner = some .keys then s.params.composeEcho else s.comp.keysEcho }))))

/-- R82, R84 to R86: what the composer does with a control code that is not poisoned, and when it waits for the output queue. -/
def Obligations.ControlCodesActOnTheLine : Prop :=
  ∀ (v : Nat) (c : Code) (src : Claimant) (rest : List PrintEntry) (s : State), s.held = none →
    s.comp.queue = ⟨c, false, false, src⟩ :: rest →
    let i : Instr := .composerTakeHead v
    let count := nextFormCount s.params.formLength s.comp.formCount
    let line : Composer := { s.comp with
      queue := rest, output := s.comp.output ++ [.text s.comp.cells], cells := Vector.replicate 80 [],
      lineSource := none, wrapPending := false, formCount := count }
    let feed (from_ : Nat) : Job := .feed ((s.params.formLength - from_) * 12) none
    (c = 0x0A ∨ c = 0x0C ∧ s.params.formLength = 0 →
      (s.engine.state ≠ .idle → s.comp.output.length < 4 → Answers i s (s.setComp line)) ∧
      (4 ≤ s.comp.output.length → exec i s = .next s)) ∧
    (c = 0x0D → s.params.autoLf = true →
      (s.engine.state ≠ .idle → s.comp.output.length < 4 → Answers i s (s.setComp { line with column := 0 })) ∧
      (4 ≤ s.comp.output.length → exec i s = .next s)) ∧
    (c = 0x0C → s.params.formLength ≠ 0 →
      (3 ≤ s.comp.output.length → exec i s = .next s) ∧
      (s.comp.output.length < 3 →
        (NothingToStart s → holdsContent s = false → s.comp.formCount = 0 →
          Answers i s (s.setComp { s.comp with queue := rest, wrapPending := false })) ∧
        (s.engine.state ≠ .idle → holdsContent s = false → s.comp.formCount ≠ 0 →
          Answers i s (s.setComp { s.comp with
            queue := rest, formCount := 0, wrapPending := false, output := s.comp.output ++ [feed s.comp.formCount] })) ∧
        (s.engine.state ≠ .idle → holdsContent s = true → count = 0 → Answers i s (s.setComp line)) ∧
        (s.engine.state ≠ .idle → holdsContent s = true → count ≠ 0 →
          Answers i s (s.setComp { line with
            formCount := 0, output := s.comp.output ++ [.text s.comp.cells, feed count] })))) ∧
    (NothingToStart s →
      (c = 0x0D → s.params.autoLf = false →
        Answers i s (s.setComp { s.comp with queue := rest, column := 0, wrapPending := false })) ∧
      (c = 0x08 → s.comp.wrapPending = true →
        Answers i s (s.setComp { s.comp with queue := rest, wrapPending := false })) ∧
      (c = 0x08 → s.comp.wrapPending = false →
        Answers i s (s.setComp { s.comp with queue := rest, column := s.comp.column - 1 })) ∧
      (c = 0x09 → s.comp.wrapPending = true → Answers i s (s.setComp { s.comp with queue := rest })) ∧
      (c = 0x09 → s.comp.wrapPending = false →
        Answers i s (s.setComp { s.comp with
          queue := rest, column := min 79 ((s.comp.column / s.params.tabInterval + 1) * s.params.tabInterval) })) ∧
      (c = 0x07 →
        Answers i s ((s.setComp { s.comp with queue := rest }).setKbd { s.kbd with tones := s.kbd.tones ++ [.bell] })) ∧
      (c.toNat ≤ 0x06 ∨ c = 0x0B ∨ (0x0E ≤ c.toNat ∧ c.toNat ≤ 0x1F) ∨ c = 0x7F →
        Answers i s (s.setComp { s.comp with queue := rest })))

/-- R81 to R83: a printable entry is struck in the cell at the column, or in cell 0 of a new line after a line of another source, or
one with wrap-pending, has been printed. -/
def Obligations.PrintableEntriesAreStruck : Prop :=
  ∀ (v : Nat) (e : PrintEntry) (rest : List PrintEntry) (s : State), s.held = none → s.comp.queue = e :: rest →
    (e.gap = true ∨ e.poisoned = true ∨ 0x20 ≤ e.code.toNat ∧ e.code.toNat ≤ 0x7E) →
    let i : Instr := .composerTakeHead v
    let struck (cell : List Overlay) : List Overlay :=
      if e.gap = false ∧ e.poisoned = false ∧ e.code = 0x20 ∨ 3 ≤ cell.length then cell
      else cell ++ [⟨e.code, e.poisoned, e.gap⟩]
    (NothingToStart s → (holdsContent s = false ∨ s.comp.lineSource = some e.source) → s.comp.wrapPending = false →
      (s.comp.column < 79 →
        Answers i s (s.setComp { s.comp with
          queue := rest, lineSource := some e.source, column := s.comp.column + 1,
          cells := put s.comp.cells s.comp.column (struck (nth s.comp.cells s.comp.column [])) })) ∧
      (s.comp.column = 79 →
        Answers i s (s.setComp { s.comp with
          queue := rest, lineSource := some e.source, wrapPending := s.params.autoWrap,
          cells := put s.comp.cells 79 (struck (nth s.comp.cells 79 [])) }))) ∧
    (NothingToStart s → holdsContent s = false → s.comp.wrapPending = true →
      Answers i s (s.setComp { s.comp with
        queue := rest, lineSource := some e.source, column := 1, wrapPending := false,
        cells := put (Vector.replicate 80 []) 0 (struck []) })) ∧
    let breaks : Prop := holdsContent s = true ∧ (s.comp.lineSource ≠ some e.source ∨ s.comp.wrapPending = true)
    (breaks → s.engine.state ≠ .idle → s.comp.output.length < 4 →
      Answers i s (s.setComp { s.comp with
        queue := rest, output := s.comp.output ++ [.text s.comp.cells], lineSource := some e.source, column := 1,
        wrapPending := false, formCount := nextFormCount s.params.formLength s.comp.formCount,
        cells := put (Vector.replicate 80 []) 0 (struck []) })) ∧
    (breaks → 4 ≤ s.comp.output.length → exec i s = .next s)

/-- R78, R80, R87: a flush, text for print, and a feed, while the Engine is not IDLE.  That a text with both a bad byte and no
room is answered BAD_VALUE is the model's own reading (log entry 38). -/
def Obligations.FlushPrintTextAndFeed : Prop :=
  ∀ (v : Nat) (n : Byte) (text : List Byte) (s : State),
    (s.held = none → s.comp.idleTimer ≠ .stopped → s.engine.state ≠ .idle →
      (s.comp.output.length < 4 →
        Answers (.idleFlushExpiry v) s (s.setComp { s.comp with
          output := s.comp.output ++ [.text s.comp.cells], cells := Vector.replicate 80 [], lineSource := none,
          formCount := nextFormCount s.params.formLength s.comp.formCount })) ∧
      (4 ≤ s.comp.output.length → Answers (.idleFlushExpiry v) s s)) ∧
    (Turn (.printText text) s → 1 ≤ text.length → text.length ≤ 240 →
      let c : Instr := .printText text
      ((∃ b ∈ text, 0x7F < b.toNat) → Answers c s (answered c .badValue [] s)) ∧
      ((∀ b ∈ text, b.toNat ≤ 0x7F) → 256 < s.comp.linkPrint.length + text.length →
        Answers c s (answered c .full [] s)) ∧
      ((∀ b ∈ text, b.toNat ≤ 0x7F) → s.comp.linkPrint.length + text.length ≤ 256 →
        Answers c s (answered c .done []
          (s.setComp { s.comp with linkPrint := s.comp.linkPrint ++ text.map (·.setWidth 7) })))) ∧
    (Turn (.paperFeed n v) s → s.engine.state ≠ .idle →
      let c : Instr := .paperFeed n v
      (n = 0 → Answers c s (answered c .badValue [] s)) ∧
      (n ≠ 0 → holdsContent s = false → s.comp.output.length < 4 →
        Answers c s (answered c .done []
          (s.setComp { s.comp with output := s.comp.output ++ [.feed n.toNat none] }))) ∧
      (n ≠ 0 → holdsContent s = true → s.comp.output.length < 3 →
        Answers c s (answered c .done [] (s.setComp { s.comp with
          output := s.comp.output ++ [.text s.comp.cells, .feed n.toNat none], cells := Vector.replicate 80 [],
          lineSource := none, formCount := nextFormCount s.params.formLength s.comp.formCount }))) ∧
      (n ≠ 0 → (4 ≤ s.comp.output.length ∨ holdsContent s = true ∧ 3 ≤ s.comp.output.length) →
        Answers c s (answered c .full [] s)))

/-! ### The Strobe unit (chapter 6) -/

/-- R101, R102: the dot current is V / Ω rounded upward, and the dot limit the budget used over it, rounded downward, and at
least 1; the firing groups hold every block with dots to heat exactly once, in index order, a group's block counts sum to the dot
limit or less unless it is one block alone, and a group is closed only when the next block with dots to heat would take it over
the limit. -/
def Obligations.FiringGroupsPartitionTheBlocks : Prop :=
  (∀ v ohms budget : Nat, 0 < ohms → 0 < v →
    v ≤ dotCurrent v ohms * ohms ∧ dotCurrent v ohms * ohms < v + ohms ∧
    budgetUsed .normal budget = budget ∧ budgetUsed .low budget = budget * 3 / 4 ∧
    (∀ current, dotLimit budget current = if budget / current = 0 then 1 else budget / current) ∧
    (dotCurrent v ohms ≤ budget → dotLimit budget (dotCurrent v ohms) * dotCurrent v ohms ≤ budget)) ∧
  ∀ (limit : Nat) (counts : List Nat),
    let groups := firingGroups limit counts
    let total (g : List Nat) : Nat := (g.map (counts.getD · 0)).sum
    groups.flatten = (List.range counts.length).filter (fun b => 0 < counts.getD b 0) ∧
    (∀ g ∈ groups, g ≠ [] ∧ (total g ≤ limit ∨ ∃ b, g = [b])) ∧
    ∀ (i : Nat) (g next : List Nat) (b : Nat), groups[i]? = some g → groups[i + 1]? = some next → next.head? = some b →
      limit < total g + counts.getD b 0

/-- R99, R100: the slice count of a dot: 0 when its raster bit is 0 or it is dead, and otherwise what its history gives, with
3 slices more for each printed dead neighbour, capped at 13. -/
def Obligations.SliceCountsFollowHistoryAndDeadDots : Prop :=
  ∀ (raster h1 h2 : Dots) (dead : List Nat) (d : Nat),
    let n := sliceCount raster h1 h2 dead d
    let cold : Nat := match h1.getLsbD d, h2.getLsbD d with
      | false, false => 10 | false, true => 9 | true, false => 8 | true, true => 7
    let boosts (e : Nat) : Prop := e ∈ dead ∧ raster.getLsbD e = true
    n ≤ 13 ∧
    (raster.getLsbD d = false → n = 0) ∧ (d ∈ dead → n = 0) ∧
    (raster.getLsbD d = true → d ∉ dead →
      (¬ (0 < d ∧ boosts (d - 1)) → ¬ boosts (d + 1) → n = cold) ∧
      ((0 < d ∧ boosts (d - 1)) → ¬ boosts (d + 1) → n = cold + 3) ∧
      (¬ (0 < d ∧ boosts (d - 1)) → boosts (d + 1) → n = cold + 3) ∧
      ((0 < d ∧ boosts (d - 1)) → boosts (d + 1) → n = 13))

/-- R92, R93, R95 to R97: the voltage and the temperature used, the energy of a dot, the full on-time and the slice length, with
the ranges the rules give. -/
def Obligations.BurnEnergyAndOnTime : Prop :=
  (∀ v : Nat, (v < 4800 → burnVolts v = 4800) ∧ (9600 < v → burnVolts v = 9600) ∧
    (4800 ≤ v → v ≤ 9600 → burnVolts v = v)) ∧
  (∀ c : Int, (c < -10 → burnCelsius (.temp c) = -10) ∧ (60 < c → burnCelsius (.temp c) = 60) ∧
    (-10 ≤ c → c ≤ 60 → burnCelsius (.temp c) = c)) ∧
  (burnCelsius .openCircuit = 60 ∧ burnCelsius .shorted = 60) ∧
  (∀ (d : Nat) (t : Int), d ≤ 7 → -10 ≤ t → t ≤ 60 →
    baseEnergy d = 160 + 16 * d ∧ 160 ≤ baseEnergy d ∧ baseEnergy d ≤ 272 ∧
    (dotEnergy d t : Int) = (baseEnergy d : Int) * (125 - t) / 100 ∧ 104 ≤ dotEnergy d t ∧ dotEnergy d t ≤ 367) ∧
  (baseEnergy 3 = 208 ∧ dotEnergy 0 60 = 104 ∧ dotEnergy 7 (-10) = 367) ∧
  (∀ e ohms v : Nat, fullOnTime e ohms v = e * ohms * 1000000 / (v * v) ∧
    (104 ≤ e → e ≤ 367 → 80 ≤ ohms → ohms ≤ 200 → 4800 ≤ v → v ≤ 9600 →
      90 ≤ fullOnTime e ohms v ∧ fullOnTime e ohms v ≤ 3185)) ∧
  (fullOnTime 104 80 9600 = 90 ∧ fullOnTime 367 200 4800 = 3185) ∧
  (∀ t : Nat, (t / 10 < 20 → sliceLength t = 20) ∧ (120 < t / 10 → sliceLength t = 120) ∧
    (20 ≤ t / 10 → t / 10 ≤ 120 → sliceLength t = t / 10))

/-! ### The Engine (chapter 7) -/

/-- R106, R107, R112, R114, R123: the last dot line of the last job ends in IDLE. -/
def Obligations.LastDotLineEndsInIdle : Prop :=
  ∀ (v : Nat) (job : Job) (s : State), s.held = none → s.engine.inFlight = true →
    (s.engine.state = .printing ∨ s.engine.state = .feeding) → s.comp.output = [job] →
    job.lines ≤ s.engine.position.getD 0 + 1 → s.comp.flushDue = false →
    let fired : Dots := dotsOf (((s.strobe.plan.map (·.counts)).getD []).map (0 < ·))
    Answers (.dotLineComplete v) s
      ((((s.setComp { s.comp with output := [] }).setStrobe { s.strobe with
        h1 := fired, h2 := s.strobe.h1, plan := none,
        coolDown := if s.engine.state = .printing then .running 50 else s.strobe.coolDown }).setEngine { s.engine with
        state := .idle, position := none, inFlight := false }).setHead { s.head with
        timer := if s.params.elementPatrol then .running 50 else .stopped, measuring := false })

/-- R80, R82, R91, R106, R110 to R112: with nothing standing, the next dot line of the job, or the first one of the job behind it,
starts as one completes, and a feed or a line placed for an IDLE Engine starts at once; the paper moves by two half-steps.  That
both half-steps are counted as the dot line starts, and not after its last group has fired (R104, R112), is the model's own
choice (log entry 32). -/
def Obligations.DotLinesFollowOneAnother : Prop :=
  ∀ (v : Nat) (s : State), s.held = none → s.engine.paper = true → s.engine.paperCond = false → s.engine.haltDue = false →
    s.supply.power ≠ .critical → s.engine.powerCond = false → s.engine.hotCond = false → isHot s.supply.therm = false →
    5000 ≤ v →
    let starts (t : State) (job : Job) (behind : List Job) (k : Nat) : Prop :=
      t.held = none ∧ t.engine.state = job.working ∧ t.engine.inFlight = true ∧ t.engine.position = some k ∧
      t.comp.output = job :: behind ∧ t.engine.halfSteps = s.engine.halfSteps + 2 ∧ t.supply.volts = min v 12000 ∧
      t.supply.therm = s.supply.therm ∧ t.params = s.params ∧ t.mem = s.mem ∧
      t.strobe.plan = some (computePlan (burnVolts (min v 12000)) (burnCelsius s.supply.therm) s.params s.supply.power
        (renderLine job k) t.strobe.h1 t.strobe.h2 (deadDots s)).1
    (s.engine.inFlight = true →
      let heated (t : State) : Prop :=
        t.strobe.h1 = dotsOf (((s.strobe.plan.map (·.counts)).getD []).map (0 < ·)) ∧ t.strobe.h2 = s.strobe.h1 ∧
        t.kbd = s.kbd ∧ t.comp.cells = s.comp.cells ∧ t.comp.queue = s.comp.queue
      (∀ job rest k, s.comp.output = job :: rest → s.engine.position = some k → k + 1 < job.lines →
        ∃ t, exec (.dotLineComplete v) s = .next t ∧ starts t job rest (k + 1) ∧ heated t) ∧
      (∀ job next rest k, s.comp.output = job :: next :: rest → s.engine.position = some k → job.lines ≤ k + 1 →
        s.comp.flushDue = false →
        ∃ t, exec (.dotLineComplete v) s = .next t ∧ starts t next rest 0 ∧ heated t)) ∧
    (s.engine.state = .idle → s.comp.output = [] →
      (∀ n : Byte, Turn (.paperFeed n v) s → n ≠ 0 → holdsContent s = false →
        ∃ t, exec (.paperFeed n v) s = .next t ∧ starts t (.feed n.toNat none) [] 0 ∧
          t.link.reply = some ⟨0x11, [0x00]⟩ ∧ t.kbd = s.kbd) ∧
      (∀ src rest, s.comp.queue = ⟨0x0A, false, false, src⟩ :: rest →
        ∃ t, exec (.composerTakeHead v) s = .next t ∧ starts t (.text s.comp.cells) [] 0 ∧ t.comp.queue = rest ∧
          holdsContent t = false ∧ t.comp.lineSource = none))

/-- R110, R111: at a boundary the Engine takes its state from the first line that applies, and a held Engine starts no dot
line. -/
def Obligations.BoundaryTakesTheFirstStanding : Prop :=
  ∀ (v : Nat) (evs : List PrintEvent) (s : State),
    let t := atBoundary v evs s
    let e := s.engine
    (e.haltDue = true → t.engine.state = .halted) ∧
    (e.haltDue = false → (e.paper = false ∨ e.paperCond = true) → t.engine.state = .paperOut) ∧
    (e.haltDue = false → e.paper = true → e.paperCond = false → s.supply.power = .critical →
      t.engine.state = .powerHold) ∧
    (e.haltDue = false → e.paper = true → e.paperCond = false → s.supply.power ≠ .critical →
      (isHot s.supply.therm = true ∨ e.hotCond = true) → t.engine.state = .hotHold) ∧
    (e.haltDue = true ∨ e.paper = false ∨ e.paperCond = true ∨ s.supply.power = .critical ∨
        isHot s.supply.therm = true ∨ e.hotCond = true →
      t.engine.inFlight = e.inFlight ∧ t.engine.position = e.position ∧ t.strobe.plan = s.strobe.plan ∧
      t.comp = s.comp ∧ t.supply = s.supply ∧ t.mem = s.mem)

/-- R107, R110, R111, R115, R117, R118: the Engine's timers, the paper sensor and ClearHead; when the last of what holds the
Engine clears, it resumes at its boundary, or enters IDLE without a job, or holds again when an empty reading falls at the same
moment.  That such a reading comes as an operand (log entry 41), and that both half-steps of a dot line are counted as it starts
(log entry 32), is the model's own choice; the hot timer's end in a working Engine (log entry 33) and a held Engine's entry into
IDLE when no job is left (log entry 34), where R114 speaks of a working Engine, are its own reading. -/
def Obligations.EngineTimersSensorAndClearHead : Prop :=
  ∀ (v : Nat) (b : Bool) (r : Coincident) (s : State),
    let stopped (s : State) : State := s.setHead { s.head with timer := .stopped, measuring := false }
    let idle (s : State) : State := (s.setEngine { s.engine with
      state := .idle, position := none, inFlight := false }).setHead { s.head with
      timer := if s.params.elementPatrol then .running 50 else .stopped, measuring := false }
    let clear : Prop := s.engine.powerCond = false ∧ s.engine.hotCond = false ∧ s.supply.power ≠ .critical ∧
      isHot s.supply.therm = false ∧ s.engine.state.isHeld = true
    let resumes (c : Instr) (job : Job) : Prop := ∃ t, exec c s = .next t ∧ t.held = none ∧ t.engine.state = job.working ∧
      t.engine.inFlight = true ∧ t.engine.position = some (s.engine.position.getD 0) ∧ t.comp.output = s.comp.output ∧
      t.engine.haltDue = false ∧ t.engine.paperCond = false ∧ t.engine.halfSteps = s.engine.halfSteps + 2 ∧
      t.supply.volts = min v 12000
    (s.held = none → s.strobe.coolDown ≠ .stopped →
      Answers .coolDownExpiry s (s.setStrobe { s.strobe with h1 := 0, h2 := 0, coolDown := .stopped })) ∧
    (s.held = none → (s.engine.state.isHeld = false ∨ s.engine.paperCond = true ∨ b = true) →
      Answers (.paperSensorReading b) s (s.setEngine { s.engine with
        paper := b,
        paperTimer := if s.engine.paperCond = false then s.engine.paperTimer
          else if b = false then .stopped
          else if s.engine.paperTimer = .stopped then .running 500 else s.engine.paperTimer })) ∧
    (s.held = none → s.engine.state.isHeld = true → s.engine.paperCond = false →
      Answers (.paperSensorReading false) s (stopped (s.setEngine { s.engine with
        paper := false, paperCond := true, paperTimer := .stopped,
        state := if s.engine.haltDue = true then .halted else .paperOut }))) ∧
    (s.held = none → s.engine.paperTimer ≠ .stopped →
      let c : Instr := .paperPresentExpiry ⟨v, r⟩
      let timed : State := s.setEngine { s.engine with paperCond := false, paperTimer := .stopped }
      (r = {} → s.engine.state.isHeld = false → NothingToStart s → Answers c s timed) ∧
      (r = {} → s.engine.state.isHeld = true → s.engine.haltDue = true →
        Answers c s (stopped (timed.setEngine { timed.engine with state := .halted }))) ∧
      (s.engine.haltDue = false → clear →
        (∀ job rest, (r = {} ∨ r = { paper := some true }) → (s.engine.paper = true ∨ r.paper = some true) →
          s.comp.output = job :: rest → 5000 ≤ v → resumes c job) ∧
        (r = {} → s.engine.paper = true → s.comp.output = [] → Answers c s (idle timed)) ∧
        (r = { paper := some false } →
          Answers c s (stopped (timed.setEngine { timed.engine with
            paper := false, paperCond := true, state := .paperOut }))))) ∧
    (s.held = none → s.engine.hotTimer ≠ .stopped → s.engine.state.isHeld = false →
      Answers .hotTimerExpiry s (s.setEngine { s.engine with hotTimer := .stopped, haltDue := true })) ∧
    (s.held = none → s.engine.hotTimer ≠ .stopped → s.engine.state.isHeld = true →
      Answers .hotTimerExpiry s (stopped (s.setEngine { s.engine with
        hotTimer := .stopped, haltDue := true, state := .halted }))) ∧
    (let c : Instr := .clearHead ⟨v, r⟩
     Turn c s →
      (s.engine.state ≠ .halted → NothingToStart s → Answers c s (answered c .done [] s)) ∧
      (s.engine.state = .halted → isCool s.supply.therm = false → Answers c s (answered c .busy [] s)) ∧
      (r = {} → s.engine.state = .halted → isCool s.supply.therm = true →
        let cleared : State := s.setEngine { s.engine with haltDue := false }
        (s.engine.paperCond = true →
          Answers c s (answered c .done [] (stopped (cleared.setEngine { cleared.engine with state := .paperOut })))) ∧
        (s.engine.paperCond = false → clear → s.engine.paper = true →
          (∀ job rest, s.comp.output = job :: rest → 5000 ≤ v → resumes c job) ∧
          (s.comp.output = [] → Answers c s (answered c .done [] (idle cleared))))))

/-! ### The Head check (chapter 8) -/

/-- R123 to R128: the element patrol: a measurement begins and completes, its reading is the whole percentage of the head
resistance in force, at most 255, failures are counted and marked, a full pass ends.  Which way a percentage is rounded is not
stated (log entry 15). -/
def Obligations.ElementPatrolMeasuresAndMarks : Prop :=
  (∀ milliohms ohms : Nat, let percent := milliohms / (10 * ohms)
    (milliohms % (10 * ohms) = 0 → elementReading milliohms ohms = min 255 percent) ∧
    (elementReading milliohms ohms = min 255 percent ∨ elementReading milliohms ohms = min 255 (percent + 1))) ∧
  ∀ (milliohms : Nat) (s : State), s.held = none →
    (s.head.timer ≠ .stopped →
      Answers .elementPatrolExpiry s (s.setHead { s.head with measuring := true, timer := .running 50 })) ∧
    (s.head.measuring = true →
      let i : Instr := .elementMeasurementComplete milliohms
      let r := elementReading milliohms s.params.headResistance
      let e := s.head.index
      let result : ElementResult := if 150 < r then .opened else if r < 50 then .short else .pass
      let read (records : Vector HeadRecord 8) : State := s.setHead { s.head with
        measuring := false, last := some ⟨result, e, r⟩, index := e + 1, records := records }
      (e < 639 → 50 ≤ r → r ≤ 150 → Answers i s (read s.head.records)) ∧
      (e < 639 → (r < 50 ∨ 150 < r) →
        let rec_ := nth s.head.records (e / 80) {}
        let count := min s.params.faultThreshold (rec_.count + 1)
        (rec_.mark = some e → Answers i s (read s.head.records)) ∧
        (rec_.mark ≠ some e → count < s.params.faultThreshold →
          Answers i s (read (put s.head.records (e / 80) { rec_ with count := count, failed := true }))) ∧
        (rec_.mark = none → count = s.params.faultThreshold →
          Answers i s (read (put s.head.records (e / 80) { rec_ with mark := some e, count := 0, failed := true }))) ∧
        (∀ m, rec_.mark = some m → m ≠ e → count = s.params.faultThreshold →
          Answers i s (read (put s.head.records (e / 80)
            { rec_ with count := count, failed := true, degraded := true })))) ∧
      (e = 639 → 50 ≤ r → r ≤ 150 →
        Answers i s (s.setHead { s.head with
          measuring := false, last := some ⟨.pass, 639, r⟩, index := 0, passes := min 65535 (s.head.passes + 1),
          records := s.head.records.map fun x =>
            if x.failed then { x with clean := 0, failed := false }
            else if x.clean + 1 = 4 then { x with count := x.count - 1, clean := 0 }
            else { x with clean := x.clean + 1 } })))

/-- R129, R130: SetHeadMark and ClearHeadMap. -/
def Obligations.HeadMapIsSetAndCleared : Prop :=
  ∀ (b : Byte) (e : Half) (s : State),
    (Turn (.setHeadMark b e) s →
      let c : Instr := .setHeadMark b e
      (7 < b.toNat → Answers c s (answered c .badValue [] s)) ∧
      (b.toNat ≤ 7 → e = 0xFFFF →
        Answers c s (answered c .done [] (s.setHead { s.head with records := put s.head.records b.toNat {} }))) ∧
      (b.toNat ≤ 7 → e.toNat / 80 = b.toNat →
        Answers c s (answered c .done []
          (s.setHead { s.head with records := put s.head.records b.toNat { mark := some e.toNat } }))) ∧
      (b.toNat ≤ 7 → e ≠ 0xFFFF → e.toNat / 80 ≠ b.toNat → Answers c s (answered c .badValue [] s))) ∧
    (Turn .clearHeadMap s →
      Answers .clearHeadMap s
        (answered .clearHeadMap .done [] (s.setHead { s.head with records := Vector.replicate 8 {} })))

/-! ### The Store controller (chapter 9) -/

/-- R134, R136 to R138, R141, R143, R146, R147, R151, R155, R164: status reads and block reads complete, what each claimant makes
of a block that was read, how the mount goes on and settles the documents, and the patrol asks its next read.  That a completion
whose first read fails goes on to the second read is the model's own choice (log entry 27), and that a fill above 58 in a block of
SEND or REPRINT is read as 58 its own reading (log entry 28). -/
def Obligations.StoreReadsCompleteAndPatrolAsks : Prop :=
  (∀ (d : ReadData) (f : InFlight) (s : State), s.held = none → s.store.inFlight = some f →
    let i : Instr := .blockReadComplete d
    let bytes := readBytes d f.block s
    let free : State := s.setStore { s.store with inFlight := none }
    let gives (t : State) : Prop := exec i s = .next (settle s none t)
    (f.op = .statusRead →
      Answers (.statusReadComplete true) s (s.setStore { s.store with mountNext := some 0 }) ∧
      Answers (.statusReadComplete false) s (s.setStore { s.store with state := .absent })) ∧
    (f.op = .read → f.again = false →
      exec .blockReadRetry s =
        .next (settle s none (s.setStore { s.store with inFlight := some { f with again := true } })) ∧
      (passesCheck bytes = false → gives (s.setStore { s.store with inFlight := some { f with again := true } }))) ∧
    (f.op = .read → f.claimant = .link → f.discarded = false →
      let read (code : Byte) (s : State) : State := (s.setStore { s.store with linkRead := none }).setLink { s.link with
        queue := s.link.queue.tail, reply := some ⟨0x2A, 0x00 :: code :: bytes⟩ }
      (f.again = false → passesCheck bytes = true → Answers i s (read 0 s)) ∧
      (f.again = true → passesCheck bytes = true → Answers i s (read 1 (countSector f.block s))) ∧
      (f.again = true → passesCheck bytes = false → Answers i s (read 2 (countSector f.block s)))) ∧
    (f.op = .read → f.claimant = .mount → f.discarded = false → f.block = 0 → f.again = false → passesCheck bytes = true →
      (bytes = labelImage → gives (mountOn 0 free)) ∧
      (bytes ≠ labelImage → Answers i s (s.setStore { s.store with state := .unformatted }))) ∧
    (f.op = .read → f.discarded = false → f.again = false → passesCheck bytes = true →
      let n := (bytes.getD 0 0).toNat
      let q := (bytes.getD 1 0).toNat
      let fill := (bytes.getD 2 0).toNat
      let chars := (bytes.drop 4).take (min fill 58)
      let items : List Item := chars.map fun b => .char (b.setWidth 7) (b.getLsbD 7)
      let e := dirEntry s n
      (f.claimant = .mount → f.block ≠ 0 →
        (n = 0 ∨ 31 < n → gives (mountOn f.block free)) ∧
        (1 ≤ n → n ≤ 31 → q ≤ 63 → fill ≤ 58 → (∀ r ∈ e.blocks, r.seq ≠ q) →
          gives (mountOn f.block (joinList n ⟨q, f.block, fill, bytes.getD 3 0⟩ free))) ∧
        (1 ≤ n → n ≤ 31 → (63 < q ∨ 58 < fill ∨ ∃ r ∈ e.blocks, r.seq = q) →
          gives (mountOn f.block (setDirEntry n { e with strays := insertAsc f.block e.strays } free)))) ∧
      (∀ k at_, f.claimant = .send → s.send.current = some k → s.send.reader.reading = some at_ →
        gives (free.setSend { s.send with reader := s.send.reader.load at_ (min fill 58) items })) ∧
      (∀ k at_, f.claimant = .reprint → s.reprint.document = some k → s.reprint.reader.reading = some at_ →
        gives (free.setReprint { s.reprint with reader := s.reprint.reader.load at_ (min fill 58) items })) ∧
      (f.claimant = .compose → s.compose.phase = .loading → fill < 58 →
        gives (free.setCompose { s.compose with
          phase := .composing, chars := chars, loaded := some f.block, loading := false })) ∧
      (f.claimant = .patrol → gives (free.setStore { free.store with patrolRead := none }))) ∧
    (f.op = .read → f.discarded = false → f.again = true → passesCheck bytes = false →
      let counted : State := countSector f.block free
      (∀ k at_, f.claimant = .send → s.send.current = some k → s.send.reader.reading = some at_ →
        gives (damageDoc k (counted.setSend { s.send with reader := s.send.reader.load at_ 0 [.lost] }))) ∧
      (∀ k at_, f.claimant = .reprint → s.reprint.document = some k → s.reprint.reader.reading = some at_ →
        gives (damageDoc k (counted.setReprint { s.reprint with reader := s.reprint.reader.load at_ 0 [.lost] }))) ∧
      (f.claimant = .compose →
        let k := s.compose.document
        gives (recordDone .compose .storeFailed [k] ((closeDoc k id (damageDoc k counted)).setCompose {}))) ∧
      (∀ p, f.claimant = .patrol → s.store.patrolRead = some p → (∃ r ∈ (dirEntry s p.document).blocks, r.block = p.block) →
        gives (damageDoc p.document (counted.setStore { counted.store with patrolRead := none }))))) ∧
  (∀ (b : Nat) (s : State),
    (∀ k, b < k → k ≤ 511 → k ∉ s.store.bad → (∀ j, b < j → j < k → j ∈ s.store.bad) →
      mountOn b s = s.setStore { s.store with mountNext := some k }) ∧
    ((∀ j, b < j → j ≤ 511 → j ∈ s.store.bad) →
      (mountOn b s).store = { s.store with
        state := .ready, dir := s.store.dir.map settleEntry,
        patrolTimer := if s.params.patrolInterval = 0 then .stopped else .running s.params.patrolInterval })) ∧
  (∀ e : DirEntry,
    let lasts := e.blocks.filter fun r => r.flags.getLsbD 0
    let damaged : Prop := e.strays ≠ [] ∨ e.blocks.map (·.seq) ≠ List.range e.blocks.length ∨ 1 < lasts.length ∨
      ∃ r ∈ lasts, ∃ h, e.blocks.getLast? = some h ∧ r.seq ≠ h.seq
    let flags : DocFlags := match lasts with
      | [r] => ⟨r.flags.getLsbD 1, r.flags.getLsbD 2, r.flags.getLsbD 3, false⟩
      | _ => {}
    (e.blocks = [] → e.strays = [] → settleEntry e = e) ∧
    (damaged → settleEntry e = { e with state := .closed, flags := { flags with damaged := true } }) ∧
    (¬ damaged → e.blocks ≠ [] → lasts = [] → settleEntry e = { e with state := .closed, flags := { incomplete := true } }) ∧
    (¬ damaged → lasts ≠ [] → settleEntry e = { e with state := .closed, flags := flags })) ∧
  (∀ s : State, s.held = none → s.store.patrolTimer ≠ .stopped → s.store.state = .ready →
    let on (x : Store) : State := s.setStore { x with patrolTimer := .running s.params.patrolInterval }
    (∀ p, s.store.patrolRead = some p → Answers .storePatrolExpiry s (on s.store)) ∧
    (s.store.patrolRead = none →
      (∀ b, (ownedBlocks s).find? (fun b => s.store.patrolPos < b) = some b →
        Answers .storePatrolExpiry s (on { s.store with patrolPos := b, patrolRead := some ⟨b, ownerOf s b⟩ })) ∧
      (∀ b rest, (ownedBlocks s).find? (fun b => s.store.patrolPos < b) = none → ownedBlocks s = b :: rest →
        Answers .storePatrolExpiry s (on { s.store with
          patrolPos := b, patrolRead := some ⟨b, ownerOf s b⟩,
          sectors := s.store.sectors.map fun k =>
            { k with count := if k.eventThisPass then k.count else k.count - 1, eventThisPass := false } })) ∧
      (ownedBlocks s = [] → Answers .storePatrolExpiry s (on s.store))))

/-- R139 to R141, R144, R148, R149, R161 to R163, R165, R166: a write attempt: what stands in the block and in the directory after
it, and what TAKE, COMPOSE and directory maintenance go on to.  That a completion whose first comparison fails goes on to the
second is the model's own choice (log entry 27). -/
def Obligations.WriteAttemptsSucceedOrFail : Prop :=
  (∀ (f : InFlight) (s : State), s.held = none → s.store.inFlight = some f →
    let free : State := s.setStore { s.store with inFlight := none }
    let gives (matched : Bool) (t : State) : Prop :=
      exec (.blockWriteAttemptComplete matched) s = .next (settle s none t)
    let spoilt : State := joinBad f.block (spoilBlock f.block free)
    (f.op.isWrite = true → f.again = false →
      let again : State := (countSector f.block s).setStore { (countSector f.block s).store with
        inFlight := some { f with again := true } }
      exec .writeCompareMismatch s = .next (settle s none again) ∧ gives false again) ∧
    (∀ w, f.op = .dataWrite w →
      let stored : State := joinList w.document ⟨w.seq, f.block, w.chars.length, w.flags⟩
        (writeBlock f.block (dataImage w) free)
      (f.claimant = .take →
        let taken : State := stored.setTake { stored.take.freeBufs (fun b => b.document = w.document && b.seq = w.seq) with
          write := none }
        (w.flags.getLsbD 0 = false → gives true taken) ∧
        (∀ d, w.flags.getLsbD 0 = true → s.take.docs.find? (·.document = w.document) = some d →
          gives true (recordDone .take d.outcome [d.document]
            (closeDoc d.document (fun _ => ⟨d.incomplete, d.truncated, d.poisoned, false⟩)
              (takeForget d.document taken))))) ∧
      (f.claimant = .compose →
        let next (write : Option ComposeWrite) : State := stored.setCompose { s.compose with
          chars := [], seq := s.compose.seq + 1, loaded := none, write := write }
        (w.flags.getLsbD 0 = false → s.compose.phase = .composing → gives true (next none)) ∧
        (w.flags.getLsbD 0 = false → s.compose.phase = .ending → s.compose.loading = false →
          gives true (next (some { final := true }))) ∧
        (w.flags.getLsbD 0 = true →
          gives true (recordDone .compose .complete [w.document] (closeDoc w.document id (stored.setCompose {}))))) ∧
      (f.again = true → w.failed = none →
        (f.claimant = .take → gives false (spoilt.setTake { s.take with
          write := s.take.write.map fun x => { x with failed := some f.block } })) ∧
        (f.claimant = .compose → gives false (spoilt.setCompose { s.compose with
          write := s.compose.write.map fun x => { x with failed := some f.block } }))) ∧
      (f.again = true → w.failed ≠ none →
        let lost : State := recordFault .storeWrite { document := some w.document, block := some f.block } spoilt
        (∀ d, f.claimant = .take → s.take.docs.find? (·.document = w.document) = some d →
          let given : State := recordDone .take .storeFailed [w.document]
            (closeDoc w.document (fun _ => ⟨true, d.truncated, d.poisoned, false⟩) (takeForget w.document lost))
          (d.closing = true → gives false given) ∧ (d.closing = false → gives false (takeNotice given))) ∧
        (f.claimant = .compose →
          let n := s.compose.document
          let ended (x : State) : State := recordDone .compose .storeFailed [n]
            ((closeDoc n (fun g => { g with incomplete := true }) x).setCompose {})
          (s.compose.loaded = none → gives false (ended lost)) ∧
          (s.compose.loaded ≠ none → gives false (ended (damageDoc n lost)))))) ∧
    (f.op = .releaseWrite → s.store.state ≠ .formatting →
      gives true (joinFree f.block (dropListed f.block (writeBlock f.block freeImage free))) ∧
      (f.again = true → ∀ j rest, s.store.jobs = j :: rest →
        let n := j.document
        let given : State := recordFault .storeWrite { document := some n, block := some f.block } (recordStore [n] true none
          (closeDoc n (fun g => { g with damaged := true }) (spoilt.setStore { spoilt.store with jobs := rest })))
        (j.forTake = false → gives false (recordDone .maintenance .storeFailed [n] given)) ∧
        (j.forTake = true → s.take.held.map (·.document) ≠ some n →
          gives false (recordDone .take .storeFailed [n] (takeForget n given))))) ∧
    (f.op = .releaseWrite → s.store.state = .formatting →
      (∀ k, nextFormatBlock f.block s = some k →
        Answers (.blockWriteAttemptComplete true) s
          ((writeBlock f.block (if f.block = 0 then labelImage else freeImage) s).setStore { s.store with
            formatNext := k })) ∧
      (nextFormatBlock f.block s = none → s.params.patrolInterval ≠ 0 →
        Answers (.blockWriteAttemptComplete true) s
          ((writeBlock f.block (if f.block = 0 then labelImage else freeImage) s).setStore { s.store with
            state := .ready, patrolTimer := .running s.params.patrolInterval })) ∧
      (f.again = true → f.block = 0 →
        Answers (.blockWriteAttemptComplete false) s
          ((spoilBlock 0 s).setStore { s.store with state := .unformatted })))) ∧
  (∀ (n b : Nat) (r : BlockRef) (g : DocFlags → DocFlags) (s : State), 1 ≤ n → n ≤ 31 →
    let e := dirEntry s n
    (dirEntry (joinList n r s) n = { e with blocks := insertRef r e.blocks } ∧
      (joinList n r s).store.free = s.store.free.filter (· ≠ r.block)) ∧
    (dirEntry (joinBad b s) n = { e with
        blocks := e.blocks.filter (·.block ≠ b), strays := e.strays.filter (· ≠ b) } ∧
      (joinBad b s).store.free = s.store.free.filter (· ≠ b) ∧ (joinBad b s).store.bad = insertAsc b s.store.bad) ∧
    (dirEntry (joinFree b (dropListed b s)) n = { e with blocks := e.blocks.filter (·.block ≠ b) } ∧
      (joinFree b (dropListed b s)).store.free = insertAsc b s.store.free) ∧
    dirEntry (closeDoc n g s) n = { e with
      state := .closed, pendingDamage := false,
      flags := { g e.flags with damaged := (g e.flags).damaged || e.pendingDamage } })

/-- R135, R148 to R151: the store's requests that act. -/
def Obligations.StoreRequestsAreAnswered : Prop :=
  ∀ (d : Byte) (x : Half) (s : State),
    let withdrawn : Option PatrolRead :=
      if (s.store.inFlight.map (·.claimant)) = some .patrol then s.store.patrolRead else none
    let data : List Nat := (List.range' 1 511).filter fun b => !s.store.bad.contains b
    (Turn (.delete d) s →
      let c : Instr := .delete d
      let n := d.toNat
      (s.store.state ≠ .ready → Answers c s (answered c .notReady [] s)) ∧
      (s.store.state = .ready → (n = 0 ∨ 31 < n) → Answers c s (answered c .badValue [] s)) ∧
      (s.store.state = .ready → 1 ≤ n → n ≤ 31 → (dirEntry s n).state ≠ .closed →
        Answers c s (answered c .conflict [] s)) ∧
      (s.store.state = .ready → 1 ≤ n → n ≤ 31 → (dirEntry s n).state = .closed →
        (∃ j ∈ s.store.jobs, j.forTake = false) → Answers c s (answered c .busy [] s)) ∧
      (s.store.state = .ready → 1 ≤ n → n ≤ 31 → (dirEntry s n).state = .closed →
        (∀ j ∈ s.store.jobs, j.forTake = true) →
        exec c s = .next (settle s none (answered c .done []
          ((setDirEntry n { dirEntry s n with state := .deleting } s).setStore
            { (setDirEntry n { dirEntry s n with state := .deleting } s).store with
              jobs := s.store.jobs ++ [⟨n, false⟩] }))))) ∧
    (Turn .formatStore s →
      (s.store.state ≠ .ready → s.store.state ≠ .unformatted →
        Answers .formatStore s (answered .formatStore .notReady [] s)) ∧
      ((s.store.state = .ready ∨ s.store.state = .unformatted) → storeIdle s = false →
        Answers .formatStore s (answered .formatStore .busy [] s)) ∧
      ((s.store.state = .ready ∨ s.store.state = .unformatted) → storeIdle s = true →
        Answers .formatStore s (answered .formatStore .done [] (s.setStore { s.store with
          state := .formatting, formatNext := 0, patrolTimer := .stopped, free := data, patrolRead := withdrawn })))) ∧
    (Turn .remount s →
      (s.store.state = .mounting ∨ s.store.state = .formatting →
        Answers .remount s (answered .remount .notReady [] s)) ∧
      (s.store.state = .ready → storeIdle s = false → Answers .remount s (answered .remount .busy [] s)) ∧
      ((s.store.state = .ready ∧ storeIdle s = true ∨ s.store.state = .absent ∨ s.store.state = .unformatted) →
        Answers .remount s (answered .remount .done [] (s.setStore { s.store with
          state := .mounting, mountNext := none, patrolPos := 0, patrolTimer := .stopped, free := data,
          patrolRead := withdrawn })))) ∧
    (Turn (.storeReadBlock x) s →
      let c : Instr := .storeReadBlock x
      (s.store.state ≠ .ready → s.store.state ≠ .unformatted → Answers c s (answered c .notReady [] s)) ∧
      ((s.store.state = .ready ∨ s.store.state = .unformatted) → 511 < x.toNat →
        Answers c s (answered c .badValue [] s)) ∧
      ((s.store.state = .ready ∨ s.store.state = .unformatted) → x.toNat ≤ 511 →
        Answers c s ((s.setStore { s.store with linkRead := some x.toNat }).setLink { s.link with
          queue := if s.link.queue = [] then [⟨0x2A, halfBytes x⟩] else s.link.queue })))

/-- R133: the layout of a data block: the document, the sequence, the fill, the flags, the characters with their poison bits, 00h
beyond the fill, and the check; every block image is 64 bytes, passes its check and keeps its first 62 bytes; the check of the
digits 1 to 9 is 29B1h. -/
def Obligations.WrittenBlocksPassTheirCheck : Prop :=
  (∀ body : List Byte, (withCheck body).length = 64 ∧ passesCheck (withCheck body) = true ∧
    ∀ i, i < 62 → (withCheck body).getD i 0 = body.getD i 0) ∧
  (∀ w : DataWrite, w.chars.length ≤ 58 →
    let image := dataImage w
    image.length = 64 ∧ passesCheck image = true ∧ image.getD 0 0 = BitVec.ofNat 8 w.document ∧
    image.getD 1 0 = BitVec.ofNat 8 w.seq ∧ image.getD 2 0 = BitVec.ofNat 8 w.chars.length ∧ image.getD 3 0 = w.flags ∧
    (∀ i b, w.chars[i]? = some b → image.getD (4 + i) 0 = b) ∧
    (∀ i, w.chars.length ≤ i → i < 58 → image.getD (4 + i) 0 = 0)) ∧
  (∀ (c : Code) (poisoned : Bool), (storeByte c poisoned).setWidth 7 = c ∧ (storeByte c poisoned).getLsbD 7 = poisoned) ∧
  crc [0x31, 0x32, 0x33, 0x34, 0x35, 0x36, 0x37, 0x38, 0x39] = 0x29B1

/-- R134: the label and the free block. -/
def Obligations.LabelAndFreeBlockImages : Prop :=
  labelImage.length = 64 ∧ labelImage.take 4 = [0x52, 0x5A, 0x53, 0x31] ∧
  (labelImage.drop 4).take 58 = List.replicate 58 0 ∧ labelImage.drop 62 = halfBytes (crc (labelImage.take 62)) ∧
  freeImage.length = 64 ∧ freeImage.take 62 = List.replicate 62 0 ∧ freeImage.drop 62 = halfBytes (crc (freeImage.take 62)) ∧
  (∀ (r : ReadResult) (bytes : List Byte) (s : State),
    (r.passed = true ∧ bytes = labelImage → mountRead r bytes 0 s = mountOn 0 s) ∧
    (r.passed = false ∨ bytes ≠ labelImage → (mountRead r bytes 0 s).store.state = .unformatted) ∧
    (∀ b, r.passed = true → bytes.getD 0 0 = 0 → mountBlock r bytes b s = s))

/-- R142, R144, R145, R172: a command other than a write attempt, after which the part is not held in reset, leaves every byte of
the store memory as it was; a write attempt leaves every other block as it was; and a reset, whichever command it takes hold in,
leaves every block but that of the block write in flight. -/
def Obligations.OnlyBlockWritesChangeTheStoreMemory : Prop :=
  (∀ (c : Instr) (s t : State), exec c s = .next t → t.held = none → (∀ b, c ≠ .blockWriteAttemptComplete b) →
    ∀ a, Memory.read t.mem a = Memory.read s.mem a) ∧
  (∀ (b : Bool) (f : InFlight) (s t : State), s.store.inFlight = some f →
    exec (.blockWriteAttemptComplete b) s = .next t →
    ∀ a, a / 64 ≠ f.block → Memory.read t.mem a = Memory.read s.mem a) ∧
  (∀ (r : ResetCause) (s : State) (a : Nat),
    (∀ f, s.store.inFlight = some f → f.op.isWrite = true → a / 64 ≠ f.block) →
    Memory.read (resetPart r s).mem a = Memory.read s.mem a) ∧
  (∀ (c : Instr) (s t : State), exec c s = .next t → t.held ≠ none →
    (s.store.inFlight ≠ none ∨ c = .powerOn ∨ c = .linkFrameSent ∨ ∃ v h w, c = .supplyMeasurement v h w) →
    ∀ a, (∀ f, s.store.inFlight = some f → f.op.isWrite = true → a / 64 ≠ f.block) →
      Memory.read t.mem a = Memory.read s.mem a)

/-! ### The transfer channels (chapter 10) -/

/-- R135, R139, R145, R156, R158, R159: the requests of SEND and REPRINT, and what the end of SEND leaves: no document, a read in
flight discarded, its documents CLOSED and its outcome recorded for both. -/
def Obligations.SendAndReprintRequests : Prop :=
  (∀ (o : ChannelOutcome) (d : Nat) (s : State), s.send.current = some d →
    let t := endSend o s
    let was (n : Nat) : Prop := n = d ∨ s.send.staged = some n
    t.send = {} ∧
    t.store.inFlight = (s.store.inFlight.map fun f => if f.claimant = .send then { f with discarded := true } else f) ∧
    (∀ n, 1 ≤ n → n ≤ 31 →
      (was n → (dirEntry t n).state = .closed) ∧ (¬ was n → dirEntry t n = dirEntry s n)) ∧
    (reportEnabled 6 s = true → ∃ x, t.reports.done = some x ∧ x.send.outcome = some o ∧
      ∀ n, n ≤ 31 → was n → x.send.documents.getLsbD n = true)) ∧
  ∀ (d m : Byte) (s : State),
    let n := d.toNat
    let held (st : DocState) : State := setDirEntry n { dirEntry s n with state := st } s
    (Turn (.send d) s →
      let c : Instr := .send d
      (s.store.state ≠ .ready → Answers c s (answered c .notReady [] s)) ∧
      (s.store.state = .ready →
        (n = 0 ∨ 31 < n → Answers c s (answered c .badValue [] s)) ∧
        (1 ≤ n → n ≤ 31 → connected s = false → Answers c s (answered c .notReady [] s)) ∧
        (1 ≤ n → n ≤ 31 → connected s = true →
          (s.send.current ≠ none → s.send.staged ≠ none → Answers c s (answered c .busy [] s)) ∧
          ((s.send.current = none ∨ s.send.staged = none) → (dirEntry s n).state ≠ .closed →
            Answers c s (answered c .conflict [] s)) ∧
          (s.send.current = none → (dirEntry s n).state = .closed →
            exec c s = .next (settle s none (answered c .done [] ((held .sending).setSend { current := some n })))) ∧
          (s.send.current ≠ none → s.send.staged = none → (dirEntry s n).state = .closed →
            exec c s =
              .next (settle s none (answered c .done [] ((held .sending).setSend { s.send with staged := some n }))))))) ∧
    (Turn .stopSend s →
      (s.send.current = none → Answers .stopSend s (answered .stopSend .done [] s)) ∧
      (s.send.current ≠ none →
        exec .stopSend s = .next (settle s none (answered .stopSend .done [] (endSend .stopped s))))) ∧
    (Turn (.reprint d m) s →
      let c : Instr := .reprint d m
      (s.store.state ≠ .ready → Answers c s (answered c .notReady [] s)) ∧
      (s.store.state = .ready →
        (n = 0 ∨ 31 < n ∨ 1 < m.toNat → Answers c s (answered c .badValue [] s)) ∧
        (1 ≤ n → n ≤ 31 → m.toNat ≤ 1 →
          (s.reprint.document ≠ none → Answers c s (answered c .busy [] s)) ∧
          (s.reprint.document = none → (dirEntry s n).state ≠ .closed → Answers c s (answered c .conflict [] s)) ∧
          (s.reprint.document = none → (dirEntry s n).state = .closed →
            exec c s = .next (settle s none (answered c .done []
              ((held .reprinting).setReprint { document := some n, whole := decide (m = 1) }))))))) ∧
    (Turn .stopReprint s →
      (s.reprint.document = none → Answers .stopReprint s (answered .stopReprint .done [] s)) ∧
      (s.reprint.document ≠ none →
        exec .stopReprint s = .next (settle s none (answered .stopReprint .done [] (endReprint .stopped s)))))

/-- R135, R164, R166: the requests of COMPOSE.  That the store state is judged before the values is read from R135 (log entry
31). -/
def Obligations.ComposeRequests : Prop :=
  ∀ (d a : Byte) (s : State),
    let c : Instr := .composeStart d a
    let held (n : Nat) : State := setDirEntry n { dirEntry s n with state := .composing } s
    (Turn c s →
      (s.store.state ≠ .ready → Answers c s (answered c .notReady [] s)) ∧
      (s.store.state = .ready → (31 < d.toNat ∨ 1 < a.toNat) → Answers c s (answered c .badValue [] s)) ∧
      (s.store.state = .ready → d.toNat ≤ 31 → a.toNat ≤ 1 →
        (s.compose.phase ≠ .idle → Answers c s (answered c .busy [] s)) ∧
        (s.compose.phase = .idle →
          (d = 0 → (∀ n, 1 ≤ n → n ≤ 31 → (dirEntry s n).state ≠ .free) → Answers c s (answered c .full [] s)) ∧
          (∀ n, (d.toNat = n ∨ d = 0 ∧ ∀ k, 1 ≤ k → k < n → (dirEntry s k).state ≠ .free) → 1 ≤ n → n ≤ 31 →
            (dirEntry s n).state = .free →
            exec c s = .next (settle s none (answered c .done [BitVec.ofNat 8 n]
              ((held n).setCompose { phase := .composing, document := n })))) ∧
          (∀ n r, d.toNat = n → 1 ≤ n → a = 1 → (dirEntry s n).state = .closed → (dirEntry s n).flags.damaged = false →
            (dirEntry s n).blocks.length < 64 → (dirEntry s n).blocks.getLast? = some r →
            exec c s = .next (settle s none (answered c .done [BitVec.ofNat 8 n]
              ((held n).setCompose { phase := .loading, document := n, seq := r.seq, loading := true })))) ∧
          (∀ n, d.toNat = n → 1 ≤ n → (dirEntry s n).state ≠ .free →
            (a = 0 ∨ (dirEntry s n).state ≠ .closed ∨ (dirEntry s n).flags.damaged = true ∨
              64 ≤ (dirEntry s n).blocks.length) → Answers c s (answered c .conflict [] s))))) ∧
    (Turn .composeEnd s →
      let gives (x : ComposeChannel) : Prop :=
        exec .composeEnd s = .next (settle s none (answered .composeEnd .done [] (s.setCompose x)))
      (s.compose.phase = .idle ∨ s.compose.phase = .ending →
        Answers .composeEnd s (answered .composeEnd .notReady [] s)) ∧
      (s.compose.phase = .composing → s.compose.loading = false → s.compose.write = none →
        gives { s.compose with phase := .ending, write := some { final := true } }) ∧
      (∀ w, s.compose.phase = .composing → s.compose.write = some w → gives { s.compose with phase := .ending }) ∧
      (s.compose.phase = .loading → s.compose.loading = true → gives { s.compose with phase := .ending }))

/-! ### The Supply monitor and start-up (chapter 11) -/

/-- R110, R111, R117, R119, R120, R169 to R171: a periodic measurement: the readings, the power state, and the flags and
conditions of the Engine that it acts on, while the Engine works, in IDLE and held; a brownout resets the part.  That a paper
sensor reading at the same moment comes as an operand (log entry 41), and that both half-steps of a dot line are counted as it
starts (log entry 32), is the model's own choice; a held Engine's entry into IDLE when no job is left, where R114 speaks of a
working Engine, is its own reading (log entry 34). -/
def Obligations.MeasurementsActOnPowerAndHeat : Prop :=
  (∀ (p : Power) (l c v : Nat), c + 200 ≤ l →
    (p = .normal → nextPower p l c v = if v < c then .critical else if v < l then .low else .normal) ∧
    (p = .low → nextPower p l c v = if v < c then .critical else if l + 200 ≤ v then .normal else .low) ∧
    (p = .critical →
      nextPower p l c v = if v < c + 200 then .critical else if v < l + 200 then .low else .normal)) ∧
  (∀ (v w : Nat) (t : Therm) (r : Coincident) (s : State), s.held = none → v ≤ 12000 →
    let c : Instr := .supplyMeasurement v t ⟨w, r⟩
    let power := nextPower s.supply.power s.params.lowThreshold s.params.criticalThreshold v
    let e := s.engine
    let paper := r.paper.getD e.paper
    let read : State := s.setSupply ⟨v, t, power⟩
    let stopped (x : State) : State := x.setHead { x.head with timer := .stopped, measuring := false }
    (v < 5000 → exec c s = .next (resetPart .brownout (s.setSupply { s.supply with volts := v, therm := t }))) ∧
    (5000 ≤ v → (e.state = .printing ∨ e.state = .feeding) →
      Answers c s (read.setEngine { e with
        thermFault := isFailed t, paper := paper, hotCond := if isCool t then false else e.hotCond,
        hotTimer := if isCool t && e.hotCond then .stopped else e.hotTimer })) ∧
    (5000 ≤ v → e.state = .idle → s.comp.output = [] →
      Answers c s (read.setEngine { e with
        thermFault := isFailed t, paper := paper, hotCond := if isCool t then false else e.hotCond,
        hotTimer := if isCool t && e.hotCond then .stopped else e.hotTimer,
        powerCond := if power = .critical then e.powerCond else false })) ∧
    (5000 ≤ v → e.state.isHeld = true →
      let powerCond := decide (power = .critical)
      let hotCond := if isCool t then false else isHot t || e.hotCond
      let changed : Prop := powerCond ≠ e.powerCond ∨ hotCond ≠ e.hotCond
      let judged : Engine := { e with
        thermFault := isFailed t, paper := paper, powerCond := powerCond, hotCond := hotCond,
        hotTimer := if isCool t && e.hotCond then .stopped else if isHot t && !e.hotCond then .running 30 else e.hotTimer }
      let takes (st : EngineState) : Prop := Answers c s (stopped (read.setEngine { judged with state := st }))
      (¬ changed → Answers c s (read.setEngine judged)) ∧
      (changed → e.haltDue = true → takes .halted) ∧
      (changed → e.haltDue = false → e.paperCond = true → takes .paperOut) ∧
      (changed → e.haltDue = false → e.paperCond = false → powerCond = true → takes .powerHold) ∧
      (changed → e.haltDue = false → e.paperCond = false → powerCond = false → hotCond = true → takes .hotHold) ∧
      (changed → e.haltDue = false → e.paperCond = false → powerCond = false → hotCond = false →
        (paper = false → Answers c s (stopped (read.setEngine { judged with paperCond := true, state := .paperOut }))) ∧
        (paper = true → s.comp.output = [] →
          Answers c s ((read.setEngine { judged with state := .idle, position := none, inFlight := false }).setHead { s.head with
            timer := if s.params.elementPatrol then .running 50 else .stopped, measuring := false })) ∧
        (∀ job rest, paper = true → s.comp.output = job :: rest → 5000 ≤ w →
          ∃ x, exec c s = .next x ∧ x.held = none ∧ x.engine.state = job.working ∧ x.engine.inFlight = true ∧
            x.engine.position = some (e.position.getD 0) ∧ x.comp.output = s.comp.output ∧
            x.engine.halfSteps = e.halfSteps + 2 ∧ x.supply.volts = min w 12000 ∧ x.supply.therm = t))))

/-- R171 to R173, R180: the supply rising, the release of a reset, the Reset request, and the frames that have gone.  That the
latest readings stay over a reset (log entry 9), that the release leaves the thermistor fault flag and the hot condition to the
next measurement (log entry 13), and that a START_UP below 5200 mV replaces the readings (log entry 14) is the model's own
choice. -/
def Obligations.ResetsTakeHoldAndAreReleased : Prop :=
  ∀ (v : Nat) (t : Therm) (p : Bool) (c : ResetCause) (s : State),
    (exec .powerOn s = .next (resetPart .powerOn s)) ∧
    (s.held = some c → c ≠ .link → v < 5200 →
      exec (.startUp v t p) s = .next (s.setSupply { s.supply with volts := v, therm := t })) ∧
    (s.held = some c → 5200 ≤ v → v ≤ 12000 →
      let power : Power := if s.params.lowThreshold ≤ v then .normal
        else if s.params.criticalThreshold ≤ v then .low else .critical
      ∃ x, exec (.startUp v t p) s = .next x ∧
        Keeps (((((s.setHeld none).setSupply ⟨v, t, power⟩).setEngine { s.engine with paper := p }).setHead
          { s.head with timer := .running 50 }).setStore { s.store with
          state := .mounting, mountNext := none, patrolPos := 0, patrolTimer := .stopped,
          free := (List.range' 1 511).filter fun b => !s.store.bad.contains b }) x ∧
        (s.link = {} → x.link.sending =
          some ⟨.report, 0x40, [BitVec.ofNat 8 c.code, BitVec.ofNat 8 power.code] ++ byte2 v⟩)) ∧
    (Turn .reset s → Answers .reset s (answered .reset .done [] s)) ∧
    (∀ f, s.held = none → s.link.sending = some f → ¬ (f.source = .reply ∧ f.kind = 0x85 ∧ f.payload = [0x00]) →
      Answers .linkFrameSent s (s.setLink { s.link with
        reply := if f.source = .reply then none else s.link.reply })) ∧
    (∀ f, s.held = none → s.link.sending = some f → f.source = .reply → f.kind = 0x85 → f.payload = [0x00] →
      ∃ x, exec .linkFrameSent s = .next x ∧ x.held = some .link ∧ x.link = {} ∧ x.params = {} ∧ x.supply = s.supply)

/-! ### The Control link (chapter 12) -/

/-- R130, R151, R181 to R183, R185: the requests that only ask: the reply's fields, and nothing else changed; the items of every
section of GetStatus.  The model's own choices are the items of GetStatus that the rules leave open (log entry 18), that section
11 counts the executing request among the queued ones (log entry 10), and the stray count of DocInfo above 255, which is free
(log entry 6). -/
def Obligations.InquiriesAnswerAndChangeNothing : Prop :=
  ∀ (n : Byte) (s : State),
    let tells (c : Instr) (fields : List Byte) : Prop := exec c s = .next (settle s none (answered c .done fields s))
    let refuses (c : Instr) (o : ReplyCode) : Prop := exec c s = .next (settle s none (answered c o [] s))
    let one (x : Nat) : Byte := BitVec.ofNat 8 x
    let yes (b : Bool) : Byte := if b then 1 else 0
    let ifAny (o : Option Nat) : Byte := one (o.getD 255)
    (Turn .identify s → tells .identify [0x08, 0x50, 0x01, 0x02, 0x00, 0x02, 0x80]) ∧
    (Turn (.getStatus n) s →
      let lists (k : Nat) (items : List Byte) : Prop := n.toNat = k →
        tells (.getStatus n) ([one ((s.faults.map (·.first.code)).getD 0), n] ++ items)
      lists 0 [one s.modem.level, one s.modem.state.code, ifAny (s.modem.role.map (·.code))] ∧
      lists 1 ([one s.framer.rxFifo.length, yes s.framer.overrun, one s.framer.sampler.code, yes s.framer.shift.isSome,
        yes s.framer.holding.isSome, yes (s.framer.brk ≠ .none)] ++ byte2 s.framer.linkText.length) ∧
      lists 2 ([one s.disp.route.code, one s.disp.flow.code, ifAny (s.disp.pendingFlow.map (·.code)),
        yes s.disp.remotePause, ifAny s.disp.progress, yes (s.disp.record ≠ []), one s.disp.record.length] ++
        s.disp.record.map fun k => one k.code) ∧
      lists 3 [one s.kbd.events.length, yes (s.kbd.downs.toList.any (· = some .shift)),
        yes (s.kbd.downs.toList.any (· = some .ctrl)), yes s.kbd.caps, one s.kbd.txFifo.length] ∧
      (let waiting := [Claimant.line, .keys, .link, .reprint].filter fun k => waitsFor k s && s.comp.owner ≠ some k
       lists 4 (byte2 s.comp.queue.length ++ [ifAny (s.comp.queue.head?.map (·.source.code)),
        ifAny (s.comp.owner.map (·.code)), one waiting.length] ++ waiting.map (fun k => one k.code) ++
        byte2 s.comp.linkPrint.length ++ [one s.comp.output.length])) ∧
      (let g := s.strobe.figures
       lists 5 (byte2 g.volts ++ byte2 (BitVec.ofInt 16 g.celsius).toNat ++
        [one g.slice, one g.dotCurrent, one g.dotLimit, one g.groups] ++ byte2 g.period)) ∧
      lists 6 ([one s.engine.state.code] ++ byte2 (s.engine.position.getD 65535) ++
        [ifAny (s.comp.output.head?.map fun | .text _ => 0 | .feed _ _ => 1), yes s.engine.paperCond, yes s.engine.powerCond,
         yes s.engine.hotCond, yes s.engine.haltDue, yes s.engine.thermFault, if s.engine.paper then 0 else 1]) ∧
      lists 7 ([ifAny (s.head.last.map (·.result.code))] ++ byte2 ((s.head.last.map (·.element)).getD 65535) ++
        [ifAny (s.head.last.map (·.reading))]) ∧
      (let waiting := [PortClaimant.take, .compose, .send, .reprint, .maintenance, .link, .patrol, .mount].filter fun k =>
        portWaits k s
       lists 8 ([one s.store.state.code] ++ byte2 s.store.free.length ++ byte2 s.store.bad.length ++
        (s.store.sectors.toList.flatMap fun k => [one k.count, yes k.retired, yes k.eventThisPass]) ++
        [ifAny (s.store.inFlight.map (·.op.code)), ifAny (s.store.inFlight.map (·.claimant.code))] ++
        byte2 (match s.store.inFlight with
          | some f => if f.op = .statusRead then 65535 else f.block
          | none => 65535) ++
        [one waiting.length] ++ waiting.map fun k => one k.code)) ∧
      (let buffer (b : ReadBuf) : List Byte := match b with
        | .free => [0, 0xFF, 0]
        | .reading q => [1, one q, 0]
        | .loaded q fill _ => [2, one q, one fill]
       let taken (b : Option TakeBuf) : List Byte := match b with
        | none => [0, 0xFF, 0]
        | some b => [if b.full then 2 else 1, one b.seq, one b.chars.length]
       let closing := (s.take.docs.filter (·.closing)).map (·.document)
       lists 9 ([yes s.send.current.isSome, ifAny s.send.current, ifAny s.send.staged, yes (s.take.docs ≠ []),
        ifAny s.take.current, ifAny s.take.awaited, one closing.length] ++ closing.map one ++
        [yes s.reprint.document.isSome, ifAny s.reprint.document, one s.compose.phase.code,
         ifAny (if s.compose.phase = .idle then none else some s.compose.document)] ++
        buffer s.send.reader.bufA ++ buffer s.send.reader.bufB ++ taken s.take.bufA ++ taken s.take.bufB ++
        buffer s.reprint.reader.bufA ++ buffer s.reprint.reader.bufB ++
        (if s.compose.phase = .idle then [0xFF, 0, 0xFF]
         else [one s.compose.seq, one s.compose.chars.length, yes s.compose.loaded.isSome]))) ∧
      lists 10 (byte2 s.supply.volts ++ (match s.supply.therm with
          | .temp t => byte2 (BitVec.ofInt 16 t).toNat
          | .openCircuit => [0x7F, 0xFE]
          | .shorted => [0x7F, 0xFF]) ++ [one s.supply.power.code]) ∧
      (n.toNat = 11 →
        Answers (.getStatus n) s (answered (.getStatus n) .done ([one ((s.faults.map (·.first.code)).getD 0), n,
          one (max 1 s.link.queue.length), yes s.link.reject.isSome] ++ halfBytes s.params.reportMask ++
          halfBytes s.reports.pendingSet) s)) ∧
      (11 < n.toNat → refuses (.getStatus n) .badValue)) ∧
    (Turn (.getParameter n) s →
      (∀ k, Param.ofId n.toNat = some k → tells (.getParameter n) ([n] ++ byte2 (k.get s.params))) ∧
      (Param.ofId n.toNat = none → refuses (.getParameter n) .noSuch)) ∧
    (Turn .readFaults s →
      (s.faults = none → tells .readFaults [0x00, 0x00, 0xFF, 0xFF, 0xFF, 0x00, 0x00]) ∧
      (∀ r, s.faults = some r → tells .readFaults ([one r.first.code, one (r.detail.document.getD 0)] ++
        byte2 (r.detail.block.getD 65535) ++ [ifAny r.detail.headBlock, r.kinds, 0x00]))) ∧
    (Turn .readHeadMap s →
      tells .readHeadMap ([yes s.params.elementPatrol] ++ byte2 s.head.index ++ byte2 s.head.passes ++
        [one s.params.faultThreshold] ++ s.head.records.toList.flatMap HeadRecord.bytes)) ∧
    (Turn .storeInfo s →
      (s.store.state = .mounting ∨ s.store.state = .formatting → refuses .storeInfo .notReady) ∧
      (s.store.state ≠ .mounting → s.store.state ≠ .formatting →
        tells .storeInfo ([one s.store.state.code] ++ byte2 s.store.free.length ++ byte2 s.store.bad.length ++
          [one (s.store.sectors.toList.filter (·.retired)).length]))) ∧
    (Turn .docList s →
      (s.store.state = .mounting ∨ s.store.state = .formatting → refuses .docList .notReady) ∧
      (s.store.state ≠ .mounting → s.store.state ≠ .formatting →
        tells .docList (s.store.dir.toList.flatMap fun e => [one e.state.code, one e.flags.code]))) ∧
    (Turn (.docInfo n) s →
      (s.store.state = .mounting ∨ s.store.state = .formatting → refuses (.docInfo n) .notReady) ∧
      (s.store.state ≠ .mounting → s.store.state ≠ .formatting →
        (1 ≤ n.toNat → n.toNat ≤ 31 →
          let e := dirEntry s n.toNat
          ∃ strays : Byte, (e.strays.length ≤ 255 → strays = one e.strays.length) ∧
            tells (.docInfo n) ([one e.state.code, one e.flags.code, one e.blocks.length] ++
              byte2 (e.blocks.map (·.fill)).sum ++ [yes e.pendingDamage, strays])) ∧
        (n = 0 ∨ 31 < n.toNat → refuses (.docInfo n) .badValue)))

/-- R3, R38, R43, R49, R85, R94, R123, R141, R146, R170, R181, R184: SetParameter: what is stored and what is done beside, what the
reply says, and what is refused.  That flow control set off leaves remote-pause as it is in IDLE is the model's own choice (log
entry 44), and that bit 0 of the mask is stored as it is given its own reading (log entry 39). -/
def Obligations.ParametersAreClampedStoredOrRefused : Prop :=
  ∀ (id : Byte) (x : Half) (s : State), Turn (.setParameter id x) s →
    let c : Instr := .setParameter id x
    let v := x.toNat
    let stored (value : Nat) (adjusted : Bool) (t : State) : Prop :=
      Answers c s (answered c (if adjusted then .doneClamped else .done) ([id] ++ byte2 value) t)
    let refused : Prop := Answers c s (answered c .badValue [] s)
    let with_ (p : Params) : State := s.setParams p
    let numeric (lo hi : Nat) (set : Nat → Params) : Prop :=
      let n := max lo (min hi v)
      stored n (n ≠ v) (with_ (set n))
    let onOff (set : Bool → Params) : Prop :=
      (1 < v → refused) ∧ (v = 0 → stored 0 false (with_ (set false))) ∧ (v = 1 → stored 1 false (with_ (set true)))
    (Param.ofId id.toNat = none → Answers c s (answered c .noSuch [] s)) ∧
    (∀ k, Param.ofId id.toNat = some k → k.isLine = true → s.modem.state ≠ .idle →
      Answers c s (answered c .busy [] s)) ∧
    (s.modem.state = .idle →
      (id = 0x01 →
        (v ≠ 110 → v ≠ 150 → v ≠ 300 → refused) ∧
        ((v = 110 ∨ v = 150 ∨ v = 300) → stored v false (with_ { s.params with bitRate := v }))) ∧
      (id = 0x02 →
        let on := max 8 (min 40 v)
        let off := min s.params.offThreshold (on - 2)
        stored on (on ≠ v ∨ off ≠ s.params.offThreshold) (with_ { s.params with onThreshold := on, offThreshold := off })) ∧
      (id = 0x03 →
        let off := min (max 6 (min 38 v)) (s.params.onThreshold - 2)
        stored off (off ≠ v) (with_ { s.params with offThreshold := off })) ∧
      (id = 0x04 → numeric 200 3000 fun n => { s.params with qualifyTime := n }) ∧
      (id = 0x05 → numeric 100 2000 fun n => { s.params with lossTime := n }) ∧
      (id = 0x06 → numeric 5 60 fun n => { s.params with connectTimeout := n }) ∧
      (id = 0x07 → numeric 0 15 fun n => { s.params with attenuation := n }) ∧
      (id = 0x08 →
        (2 < v → refused) ∧ (v = 0 → stored 0 false (with_ { s.params with parity := .none })) ∧
        (v = 1 → stored 1 false (with_ { s.params with parity := .even })) ∧
        (v = 2 → stored 2 false (with_ { s.params with parity := .odd }))) ∧
      (id = 0x09 →
        (v ≠ 1 → v ≠ 2 → refused) ∧
        ((v = 1 ∨ v = 2) → stored v false (with_ { s.params with stopBits := v }))) ∧
      (id = 0x0A → onOff fun b => { s.params with routeBit := b }) ∧
      (id = 0x11 → onOff fun b => { s.params with flowControl := b }) ∧
      (id = 0x12 →
        (0x7F < v ∨ v = s.params.resumeCode.toNat → refused) ∧
        (v ≤ 0x7F → v ≠ s.params.resumeCode.toNat →
          stored v false (with_ { s.params with pauseCode := BitVec.ofNat 7 v }))) ∧
      (id = 0x13 →
        (0x7F < v ∨ v = s.params.pauseCode.toNat → refused) ∧
        (v ≤ 0x7F → v ≠ s.params.pauseCode.toNat →
          stored v false (with_ { s.params with resumeCode := BitVec.ofNat 7 v })))) ∧
    (id = 0x0B → numeric 100 1000 fun n => { s.params with breakLength := n }) ∧
    (id = 0x10 →
      (v = 32 ∨ 64 < v → refused) ∧ (v ≤ 64 → v ≠ 32 → stored v false (with_ { s.params with defaultRoute := v }))) ∧
    (id = 0x14 →
      let high := max 64 (min 480 v)
      let low := min s.params.lowWater (high - 32)
      stored high (high ≠ v ∨ low ≠ s.params.lowWater) (with_ { s.params with highWater := high, lowWater := low })) ∧
    (id = 0x15 →
      let low := min (max 32 (min 448 v)) (s.params.highWater - 32)
      stored low (low ≠ v) (with_ { s.params with lowWater := low })) ∧
    (id = 0x18 → onOff fun b => { s.params with composeEcho := b }) ∧
    (id = 0x19 → numeric 200 1500 fun n => { s.params with repeatDelay := n }) ∧
    (id = 0x1A → numeric 30 500 fun n => { s.params with repeatInterval := n }) ∧
    (id = 0x20 → numeric 1 10 fun n => { s.params with ownershipTimeout := n }) ∧
    (id = 0x21 → onOff fun b => { s.params with autoWrap := b }) ∧
    (id = 0x22 → onOff fun b => { s.params with autoLf := b }) ∧
    (id = 0x23 → numeric 1 16 fun n => { s.params with tabInterval := n }) ∧
    (id = 0x25 → numeric 0 10 fun n => { s.params with idleFlush := n }) ∧
    (id = 0x2A → numeric 500 4000 fun n => { s.params with currentBudget := n }) ∧
    (id = 0x34 → onOff fun b => { s.params with takeReplaces := b }) ∧
    (id = 0x24 →
      let n := min 127 v
      stored n (n ≠ v) ((with_ { s.params with formLength := n }).setComp { s.comp with formCount := 0 })) ∧
    (id = 0x28 →
      let n := min 7 v
      stored n (n ≠ v) (with_ { s.params with darkness := n })) ∧
    (id = 0x29 →
      let n := max 80 (min 200 v)
      stored n (n ≠ v) (with_ { s.params with headResistance := n })) ∧
    (id = 0x2C →
      (1 < v → refused) ∧
      (v = 0 → stored 0 false ((with_ { s.params with elementPatrol := false }).setHead { s.head with
        timer := .stopped, measuring := false })) ∧
      (v = 1 → stored 1 false ((with_ { s.params with elementPatrol := true }).setHead { s.head with
        timer := if s.params.elementPatrol = false ∧ s.engine.state = .idle then .running 50 else s.head.timer }))) ∧
    (id = 0x2D →
      let n := max 1 (min 15 v)
      stored n (n ≠ v) ((with_ { s.params with faultThreshold := n }).setHead { s.head with
        records := s.head.records.map fun r => { r with count := min r.count n } })) ∧
    (id = 0x30 →
      let n := max 1 (min 15 v)
      stored n (n ≠ v) ((with_ { s.params with sectorThreshold := n }).setStore { s.store with
        sectors := s.store.sectors.map fun k =>
          { k with count := min k.count n, retired := k.retired || decide (n ≤ k.count) } })) ∧
    (id = 0x31 →
      let n := min 255 v
      stored n (n ≠ v) ((with_ { s.params with patrolInterval := n }).setStore { s.store with
        patrolTimer := if n = 0 then .stopped
          else if s.params.patrolInterval = 0 ∧ s.store.state = .ready then .running n else s.store.patrolTimer })) ∧
    (id = 0x35 →
      (0x7F < v → refused) ∧ (v ≤ 0x7F → stored v false (with_ { s.params with sendEndCode := BitVec.ofNat 7 v }))) ∧
    (id = 0x38 →
      let low := max 5400 (min 7000 v)
      let critical := min s.params.criticalThreshold (low - 200)
      stored low (low ≠ v ∨ critical ≠ s.params.criticalThreshold)
        (with_ { s.params with lowThreshold := low, criticalThreshold := critical })) ∧
    (id = 0x39 →
      let critical := min (max 5000 (min 6000 v)) (s.params.lowThreshold - 200)
      stored critical (critical ≠ v) (with_ { s.params with criticalThreshold := critical })) ∧
    (id = 0x3C →
      (0x400 ≤ v → refused) ∧
      (v < 0x400 →
        let r := s.reports
        exec c s = .next (settle s none (answered c .done ([id] ++ byte2 v)
          ((with_ { s.params with reportMask := x }).setReports
            ⟨r.started, if x.getLsbD 1 then r.modem else none, if x.getLsbD 2 then r.line else none,
              if x.getLsbD 3 then r.print else none, if x.getLsbD 4 then r.head else none,
              if x.getLsbD 5 then r.store else none, if x.getLsbD 6 then r.done else none,
              if x.getLsbD 7 then r.keys else none, if x.getLsbD 8 then r.power else none,
              if x.getLsbD 9 then r.fault else none⟩)))))

/-- R176 to R178: the receiver's places, the gap timer, and a request that the catalogue does not allow.  That no gap timer runs
after the lead byte is the model's own reading (log entry 25). -/
def Obligations.LinkReceiverFollowsItsPlaces : Prop :=
  ∀ (b : Byte) (s : State), s.held = none →
    let at_ (rx : LinkRx) (gap : Timer) : State := s.setLink { s.link with rx := rx, gapTimer := gap }
    let i : Instr := .linkByteReceived b true
    (Answers (.linkByteReceived b false) s (at_ .hunt .stopped)) ∧
    (s.link.rx = .hunt → b = 0xA5 → Answers i s (at_ .kind .stopped)) ∧
    (s.link.rx = .hunt → b ≠ 0xA5 → Answers i s s) ∧
    (s.link.rx = .kind → Answers i s (at_ (.length b) (.running 10))) ∧
    (∀ k, s.link.rx = .length k →
      (240 < b.toNat → Answers i s (at_ .hunt .stopped)) ∧
      (b = 0 → Answers i s (at_ (.check k b []) (.running 10))) ∧
      (b ≠ 0 → b.toNat ≤ 240 → Answers i s (at_ (.payload k b []) (.running 10)))) ∧
    (∀ k n got, s.link.rx = .payload k n got →
      (n.toNat ≤ got.length + 1 → Answers i s (at_ (.check k n (got ++ [b])) (.running 10))) ∧
      (got.length + 1 < n.toNat → Answers i s (at_ (.payload k n (got ++ [b])) (.running 10)))) ∧
    (∀ k n got, s.link.rx = .check k n got →
      let sum : Byte := k + n + got.foldl (· + ·) 0 + b
      (sum = 0 → 1 ≤ k.toNat → k.toNat ≤ 0x3F → s.link.queue.length < 2 →
        Answers i s (s.setLink { s.link with
          rx := .hunt, gapTimer := .stopped, queue := s.link.queue ++ [⟨k, got⟩] })) ∧
      (sum ≠ 0 ∨ k = 0 ∨ 0x40 ≤ k.toNat ∨ 2 ≤ s.link.queue.length → Answers i s (at_ .hunt .stopped))) ∧
    (s.link.gapTimer ≠ .stopped → Answers .gapTimeout s (at_ .hunt .stopped)) ∧
    (∀ k p, Turn (.unknownRequest k p) s → 1 ≤ k.toNat → k.toNat ≤ 0x3F →
      (catalogueLengths k.toNat = none →
        Answers (.unknownRequest k p) s (answered (.unknownRequest k p) .unknownKind [] s)) ∧
      (∀ lo hi, catalogueLengths k.toNat = some (lo, hi) → (p.length < lo ∨ hi < p.length) →
        Answers (.unknownRequest k p) s (answered (.unknownRequest k p) .badLength [] s)))

/-- R175: every frame on the wire: its fields in their order, its check and its length, and the kinds the Link sends and
takes. -/
def Obligations.FramesOnTheWire : Prop :=
  (∀ f : TxFrame, ∃ check : Byte,
    f.bytes = [0xA5, f.kind, BitVec.ofNat 8 f.payload.length] ++ f.payload ++ [check] ∧
    f.kind + BitVec.ofNat 8 f.payload.length + f.payload.foldl (· + ·) 0 + check = 0 ∧
    f.bytes.length = f.payload.length + 4) ∧
  (∀ (s : State) (f : TxFrame), s.link.sending = none → (transmitNext s).link.sending = some f →
    (∀ r, s.link.reply = some r → f.source = .reply ∧ f.kind = r.request + 0x80 ∧ f.payload = r.payload) ∧
    (∀ j, s.link.reply = none → s.link.reject = some j → f.source = .reject ∧ f.kind = 0xFE) ∧
    (s.link.reply = none → s.link.reject = none →
      f.source = .report ∧ 0x40 ≤ f.kind.toNat ∧ f.kind.toNat ≤ 0x4F)) ∧
  (∀ (r : Request) (s : State), (r.kind = 0 ∨ 0x40 ≤ r.kind.toNat) → frameArrives r s = makeReject 0x22 r.kind s) ∧
  (∀ n : Nat, byte2 n = [BitVec.ofNat 8 (n / 256), BitVec.ofNat 8 n])

/-- R175 to R177, R179: the receiver, in HUNT, that is given the bytes of a request's frame puts that request at the tail of
the queue and is in HUNT again; nothing else has changed. -/
def Obligations.FrameBytesGiveTheRequest : Prop :=
  ∀ (source : TxSource) (k : Byte) (p : List Byte) (s : State), 1 ≤ k.toNat → k.toNat ≤ 0x3F → p.length ≤ 240 →
    s.link.rx = .hunt → s.link.queue.length < 2 →
    (TxFrame.bytes ⟨source, k, p⟩).foldl (fun s b => receiveByte b s) s =
      s.setLink { s.link with gapTimer := .stopped, queue := s.link.queue ++ [⟨k, p⟩] }

/-- R14, R53, R70, R121, R131, R152, R167, R174, R178, R180, R184, R185: the LinkReject slot; the order of the transmitter, the
report of lowest kind last; what an event does to the report of its kind, when its mask bit is set and when it is clear; the fault
record and ClearFaults. -/
def Obligations.RejectsReportsAndFaults : Prop :=
  ∀ (s : State),
    let on (k : Nat) : Prop := s.params.reportMask.getLsbD k = true
    let off (k : Nat) : Prop := s.params.reportMask.getLsbD k = false
    let r := s.reports
    let docs (old : DocSet) (ns : List Nat) : DocSet := ns.foldl (fun a n => a ||| BitVec.twoPow 32 n) old
    (∀ reason kind : Byte,
      (s.link.reject = none → makeReject reason kind s = s.setLink { s.link with reject := some ⟨reason, kind, false⟩ }) ∧
      (∀ j, s.link.reject = some j →
        makeReject reason kind s = s.setLink { s.link with reject := some { j with further := true } })) ∧
    (∀ f, s.link.sending = some f → transmitNext s = s) ∧
    (∀ a, s.link.sending = none → s.link.reply = some a →
      transmitNext s = s.setLink { s.link with sending := some ⟨.reply, a.request + 0x80, a.payload⟩ }) ∧
    (∀ j, s.link.sending = none → s.link.reply = none → s.link.reject = some j →
      transmitNext s = s.setLink { s.link with
        reject := none, sending := some ⟨.reject, 0xFE, [j.reason, j.kind, if j.further then 1 else 0]⟩ }) ∧
    (s.link.sending = none → s.link.reply = none → s.link.reject = none →
      let sends (kind : Byte) (payload : List Byte) (rest : Reports) : Prop :=
        transmitNext s = (s.setReports rest).setLink { s.link with sending := some ⟨.report, kind, payload⟩ }
      let before : List Bool := [r.started.isSome, r.modem.isSome, r.line.isSome, r.print.isSome, r.head.isSome,
        r.store.isSome, r.done.isSome, r.keys.isSome, r.power.isSome, r.fault.isSome]
      let first (k : Nat) : Prop := before.take k = List.replicate k false
      (∀ x, r.started = some x → sends 0x40 x.bytes { r with started := none }) ∧
      (∀ x, first 1 → r.modem = some x → sends 0x41 x.bytes { r with modem := none }) ∧
      (∀ x, first 2 → r.line = some x → sends 0x42 x.bytes { r with line := none }) ∧
      (∀ x, first 3 → r.print = some x → sends 0x43 x.bytes { r with print := none }) ∧
      (∀ x, first 4 → r.head = some x → sends 0x44 x.bytes { r with head := none }) ∧
      (∀ x, first 5 → r.store = some x → sends 0x45 x.bytes { r with store := none }) ∧
      (∀ x, first 6 → r.done = some x → sends 0x46 x.bytes { r with done := none }) ∧
      (∀ x, first 7 → r.keys = some x → sends 0x47 x.bytes { r with keys := none }) ∧
      (∀ x, first 8 → r.power = some x → sends 0x48 x.bytes { r with power := none }) ∧
      (∀ x, first 9 → r.fault = some x → sends 0x49 (faultBytes (some x)) { r with fault := none }) ∧
      (first 10 → transmitNext s = s)) ∧
    (∀ e, (off 1 → recordModem e s = s) ∧
      (on 1 → recordModem e s = s.setReports { r with
        modem := some ⟨(r.modem.map (·.events)).getD 0 ||| BitVec.twoPow 8 e.bit, s.modem.state, s.modem.role,
          s.modem.level⟩ })) ∧
    (∀ e d, (off 2 → recordLine e d s = s) ∧
      (on 2 → recordLine e d s = s.setReports { r with
        line := some ⟨(r.line.map (·.events)).getD 0 ||| BitVec.twoPow 8 e.bit, s.disp.route,
          d.getD ((r.line.map (·.refused)).getD 0)⟩ })) ∧
    (∀ es, (off 3 → recordPrint es s = s) ∧ recordPrint [] s = s ∧
      (on 3 → es ≠ [] → recordPrint es s = s.setReports { r with
        print := some ⟨es.foldl (fun a e => a ||| BitVec.twoPow 16 e.bit) ((r.print.map (·.events)).getD 0), s.engine.state,
          s.comp.output.length, s.comp.queue.length⟩ })) ∧
    (∀ e b, (off 4 → recordHead e b s = s) ∧
      (on 4 → recordHead e b s = s.setReports { r with
        head := some ⟨(r.head.map (·.events)).getD 0 ||| BitVec.twoPow 8 e.bit,
          (r.head.map (·.blocks)).getD 0 ||| (b.map (BitVec.twoPow 8)).getD 0,
          (s.head.records.toList.filter (·.mark.isSome)).length, (s.head.records.toList.filter (·.degraded)).length⟩ })) ∧
    (∀ ns damage o, (off 5 → recordStore ns damage o s = s) ∧
      (on 5 → ∃ set, recordStore ns damage o s = s.setReports { r with
        store := some ⟨o.or (r.store.bind (·.outcome)), set, damage || (r.store.map (·.damage)).getD false, s.store.state,
          s.store.free.length⟩ } ∧ set = docs ((r.store.map (·.documents)).getD 0) ns)) ∧
    (∀ c o ns, (off 6 → recordDone c o ns s = s) ∧
      (on 6 →
        let was := r.done.getD {}
        let slot (x : DoneSlot) : DoneSlot := ⟨some o, docs x.documents ns⟩
        recordDone c o ns s = s.setReports { r with done := some (match c with
          | .send => { was with send := slot was.send }
          | .take => { was with take := slot was.take }
          | .reprint => { was with reprint := slot was.reprint }
          | .compose => { was with compose := slot was.compose }
          | .maintenance => { was with maintenance := slot was.maintenance }) })) ∧
    (∀ b, (off 7 → recordKeys b s = s) ∧
      (on 7 → recordKeys b s = s.setReports { r with
        keys := some ⟨s.kbd.relay.length, (r.keys.map (·.refused)).getD false || b⟩ })) ∧
    (off 8 → recordPower s = s) ∧
    (on 8 → recordPower s = s.setReports { r with
      power := some ⟨(r.power.map (·.entered)).getD 0 ||| BitVec.twoPow 8 s.supply.power.code, s.supply.power,
        s.supply.volts⟩ }) ∧
    (∀ k d, s.faults = none →
      let first : FaultRecord := ⟨k, d, BitVec.twoPow 8 (k.code - 1)⟩
      (off 9 → recordFault k d s = s.setFaults (some first)) ∧
      (on 9 → recordFault k d s = (s.setFaults (some first)).setReports { r with fault := some first })) ∧
    (∀ k d x, s.faults = some x →
      recordFault k d s = s.setFaults (some { x with kinds := x.kinds ||| BitVec.twoPow 8 (k.code - 1) })) ∧
    (Turn .clearFaults s →
      exec .clearFaults s = .next (settle s none (answered .clearFaults .done [] (s.setFaults none))))

/-! ### Invariants of every step -/

/-- R25, R32, R46, R57, R68, R69, R72, R78, R79, R179: no queue or FIFO ever holds more than its capacity. -/
def Obligations.EveryStepKeepsCapacities : Prop :=
  ∀ s t : State, WithinCapacity s → step s = .next t → WithinCapacity t

/-- The store memory keeps its canonical form: addresses strictly rising, no entry equal to 00h, so that equal memories are equal
data.  The form is the model's own (log entry 8); what R144 and R145 write into the memory keeps it. -/
def Obligations.EveryStepKeepsTheMemoryCanonical : Prop :=
  ∀ s t : State, Memory.wf s.mem = true → step s = .next t → Memory.wf t.mem = true

/-- R1, R3, R15, R49, R52, R68, R170: the parameters agree with one another, an IDLE Modem is as reset leaves it, and out of a
connection there is no keystroke and no flow code for the line. -/
def Obligations.EveryStepKeepsTheLineLegal : Prop :=
  ∀ s t : State, ParamsAgree s.params → ModemLegal s.modem → QuietLine s → step s = .next t →
    ParamsAgree t.params ∧ ModemLegal t.modem ∧ QuietLine t

/-- R111, R123, R126, R129: a dot line is in flight only while the Engine is PRINTING or FEEDING, and never in a part held in
reset; every dead mark lies in its own head block and no fault count exceeds the threshold. -/
def Obligations.EveryStepKeepsTheEngineAndHeadLegal : Prop :=
  (∀ s t : State, EngineLegal s → step s = .next t → EngineLegal t) ∧
  (∀ s t : State, HeadLegal s → step s = .next t → HeadLegal t)

/-- R139, R140: every block index is exactly one of the label, in the free set, in the bad set and in the list of one document,
and each document's state names the holder that has it; with what keeps them so in the channels and on the store port. -/
def Obligations.EveryStepKeepsTheStoreLegal : Prop :=
  ∀ s t : State, StoreLegal s → step s = .next t → StoreLegal t

/-- Reset meets every invariant above. -/
def Obligations.ResetMeetsTheInvariants : Prop :=
  WithinCapacity State.reset ∧ Memory.wf State.reset.mem = true ∧ ParamsAgree State.reset.params ∧
  ModemLegal State.reset.modem ∧ QuietLine State.reset ∧ EngineLegal State.reset ∧ HeadLegal State.reset ∧
  StoreLegal State.reset

end
end

