-- ==== Sys2Proof/Laws/State.lean ====
section
/-! SUPPORT. What each field of the state is after each field update. -/

namespace Sys2Proof.Machine

variable (s : State)

/-! ### `setHeld` -/

@[simp] theorem State.setHeld_held (x : Option ResetCause) : (s.setHeld x).held = x := rfl
@[simp] theorem State.setHeld_params (x : Option ResetCause) : (s.setHeld x).params = s.params := rfl
@[simp] theorem State.setHeld_modem (x : Option ResetCause) : (s.setHeld x).modem = s.modem := rfl
@[simp] theorem State.setHeld_framer (x : Option ResetCause) : (s.setHeld x).framer = s.framer := rfl
@[simp] theorem State.setHeld_disp (x : Option ResetCause) : (s.setHeld x).disp = s.disp := rfl
@[simp] theorem State.setHeld_kbd (x : Option ResetCause) : (s.setHeld x).kbd = s.kbd := rfl
@[simp] theorem State.setHeld_comp (x : Option ResetCause) : (s.setHeld x).comp = s.comp := rfl
@[simp] theorem State.setHeld_strobe (x : Option ResetCause) : (s.setHeld x).strobe = s.strobe := rfl
@[simp] theorem State.setHeld_engine (x : Option ResetCause) : (s.setHeld x).engine = s.engine := rfl
@[simp] theorem State.setHeld_head (x : Option ResetCause) : (s.setHeld x).head = s.head := rfl
@[simp] theorem State.setHeld_store (x : Option ResetCause) : (s.setHeld x).store = s.store := rfl
@[simp] theorem State.setHeld_send (x : Option ResetCause) : (s.setHeld x).send = s.send := rfl
@[simp] theorem State.setHeld_reprint (x : Option ResetCause) : (s.setHeld x).reprint = s.reprint := rfl
@[simp] theorem State.setHeld_take (x : Option ResetCause) : (s.setHeld x).take = s.take := rfl
@[simp] theorem State.setHeld_compose (x : Option ResetCause) : (s.setHeld x).compose = s.compose := rfl
@[simp] theorem State.setHeld_supply (x : Option ResetCause) : (s.setHeld x).supply = s.supply := rfl
@[simp] theorem State.setHeld_link (x : Option ResetCause) : (s.setHeld x).link = s.link := rfl
@[simp] theorem State.setHeld_reports (x : Option ResetCause) : (s.setHeld x).reports = s.reports := rfl
@[simp] theorem State.setHeld_faults (x : Option ResetCause) : (s.setHeld x).faults = s.faults := rfl
@[simp] theorem State.setHeld_mem (x : Option ResetCause) : (s.setHeld x).mem = s.mem := rfl
@[simp] theorem State.setHeld_draws (x : Option ResetCause) : (s.setHeld x).draws = s.draws := rfl
@[simp] theorem State.setHeld_pending (x : Option ResetCause) : (s.setHeld x).pending = s.pending := rfl

/-! ### `setParams` -/

@[simp] theorem State.setParams_held (x : Params) : (s.setParams x).held = s.held := rfl
@[simp] theorem State.setParams_params (x : Params) : (s.setParams x).params = x := rfl
@[simp] theorem State.setParams_modem (x : Params) : (s.setParams x).modem = s.modem := rfl
@[simp] theorem State.setParams_framer (x : Params) : (s.setParams x).framer = s.framer := rfl
@[simp] theorem State.setParams_disp (x : Params) : (s.setParams x).disp = s.disp := rfl
@[simp] theorem State.setParams_kbd (x : Params) : (s.setParams x).kbd = s.kbd := rfl
@[simp] theorem State.setParams_comp (x : Params) : (s.setParams x).comp = s.comp := rfl
@[simp] theorem State.setParams_strobe (x : Params) : (s.setParams x).strobe = s.strobe := rfl
@[simp] theorem State.setParams_engine (x : Params) : (s.setParams x).engine = s.engine := rfl
@[simp] theorem State.setParams_head (x : Params) : (s.setParams x).head = s.head := rfl
@[simp] theorem State.setParams_store (x : Params) : (s.setParams x).store = s.store := rfl
@[simp] theorem State.setParams_send (x : Params) : (s.setParams x).send = s.send := rfl
@[simp] theorem State.setParams_reprint (x : Params) : (s.setParams x).reprint = s.reprint := rfl
@[simp] theorem State.setParams_take (x : Params) : (s.setParams x).take = s.take := rfl
@[simp] theorem State.setParams_compose (x : Params) : (s.setParams x).compose = s.compose := rfl
@[simp] theorem State.setParams_supply (x : Params) : (s.setParams x).supply = s.supply := rfl
@[simp] theorem State.setParams_link (x : Params) : (s.setParams x).link = s.link := rfl
@[simp] theorem State.setParams_reports (x : Params) : (s.setParams x).reports = s.reports := rfl
@[simp] theorem State.setParams_faults (x : Params) : (s.setParams x).faults = s.faults := rfl
@[simp] theorem State.setParams_mem (x : Params) : (s.setParams x).mem = s.mem := rfl
@[simp] theorem State.setParams_draws (x : Params) : (s.setParams x).draws = s.draws := rfl
@[simp] theorem State.setParams_pending (x : Params) : (s.setParams x).pending = s.pending := rfl

/-! ### `setModem` -/

@[simp] theorem State.setModem_held (x : Modem) : (s.setModem x).held = s.held := rfl
@[simp] theorem State.setModem_params (x : Modem) : (s.setModem x).params = s.params := rfl
@[simp] theorem State.setModem_modem (x : Modem) : (s.setModem x).modem = x := rfl
@[simp] theorem State.setModem_framer (x : Modem) : (s.setModem x).framer = s.framer := rfl
@[simp] theorem State.setModem_disp (x : Modem) : (s.setModem x).disp = s.disp := rfl
@[simp] theorem State.setModem_kbd (x : Modem) : (s.setModem x).kbd = s.kbd := rfl
@[simp] theorem State.setModem_comp (x : Modem) : (s.setModem x).comp = s.comp := rfl
@[simp] theorem State.setModem_strobe (x : Modem) : (s.setModem x).strobe = s.strobe := rfl
@[simp] theorem State.setModem_engine (x : Modem) : (s.setModem x).engine = s.engine := rfl
@[simp] theorem State.setModem_head (x : Modem) : (s.setModem x).head = s.head := rfl
@[simp] theorem State.setModem_store (x : Modem) : (s.setModem x).store = s.store := rfl
@[simp] theorem State.setModem_send (x : Modem) : (s.setModem x).send = s.send := rfl
@[simp] theorem State.setModem_reprint (x : Modem) : (s.setModem x).reprint = s.reprint := rfl
@[simp] theorem State.setModem_take (x : Modem) : (s.setModem x).take = s.take := rfl
@[simp] theorem State.setModem_compose (x : Modem) : (s.setModem x).compose = s.compose := rfl
@[simp] theorem State.setModem_supply (x : Modem) : (s.setModem x).supply = s.supply := rfl
@[simp] theorem State.setModem_link (x : Modem) : (s.setModem x).link = s.link := rfl
@[simp] theorem State.setModem_reports (x : Modem) : (s.setModem x).reports = s.reports := rfl
@[simp] theorem State.setModem_faults (x : Modem) : (s.setModem x).faults = s.faults := rfl
@[simp] theorem State.setModem_mem (x : Modem) : (s.setModem x).mem = s.mem := rfl
@[simp] theorem State.setModem_draws (x : Modem) : (s.setModem x).draws = s.draws := rfl
@[simp] theorem State.setModem_pending (x : Modem) : (s.setModem x).pending = s.pending := rfl

/-! ### `setFramer` -/

@[simp] theorem State.setFramer_held (x : Framer) : (s.setFramer x).held = s.held := rfl
@[simp] theorem State.setFramer_params (x : Framer) : (s.setFramer x).params = s.params := rfl
@[simp] theorem State.setFramer_modem (x : Framer) : (s.setFramer x).modem = s.modem := rfl
@[simp] theorem State.setFramer_framer (x : Framer) : (s.setFramer x).framer = x := rfl
@[simp] theorem State.setFramer_disp (x : Framer) : (s.setFramer x).disp = s.disp := rfl
@[simp] theorem State.setFramer_kbd (x : Framer) : (s.setFramer x).kbd = s.kbd := rfl
@[simp] theorem State.setFramer_comp (x : Framer) : (s.setFramer x).comp = s.comp := rfl
@[simp] theorem State.setFramer_strobe (x : Framer) : (s.setFramer x).strobe = s.strobe := rfl
@[simp] theorem State.setFramer_engine (x : Framer) : (s.setFramer x).engine = s.engine := rfl
@[simp] theorem State.setFramer_head (x : Framer) : (s.setFramer x).head = s.head := rfl
@[simp] theorem State.setFramer_store (x : Framer) : (s.setFramer x).store = s.store := rfl
@[simp] theorem State.setFramer_send (x : Framer) : (s.setFramer x).send = s.send := rfl
@[simp] theorem State.setFramer_reprint (x : Framer) : (s.setFramer x).reprint = s.reprint := rfl
@[simp] theorem State.setFramer_take (x : Framer) : (s.setFramer x).take = s.take := rfl
@[simp] theorem State.setFramer_compose (x : Framer) : (s.setFramer x).compose = s.compose := rfl
@[simp] theorem State.setFramer_supply (x : Framer) : (s.setFramer x).supply = s.supply := rfl
@[simp] theorem State.setFramer_link (x : Framer) : (s.setFramer x).link = s.link := rfl
@[simp] theorem State.setFramer_reports (x : Framer) : (s.setFramer x).reports = s.reports := rfl
@[simp] theorem State.setFramer_faults (x : Framer) : (s.setFramer x).faults = s.faults := rfl
@[simp] theorem State.setFramer_mem (x : Framer) : (s.setFramer x).mem = s.mem := rfl
@[simp] theorem State.setFramer_draws (x : Framer) : (s.setFramer x).draws = s.draws := rfl
@[simp] theorem State.setFramer_pending (x : Framer) : (s.setFramer x).pending = s.pending := rfl

/-! ### `setDisp` -/

@[simp] theorem State.setDisp_held (x : Dispatcher) : (s.setDisp x).held = s.held := rfl
@[simp] theorem State.setDisp_params (x : Dispatcher) : (s.setDisp x).params = s.params := rfl
@[simp] theorem State.setDisp_modem (x : Dispatcher) : (s.setDisp x).modem = s.modem := rfl
@[simp] theorem State.setDisp_framer (x : Dispatcher) : (s.setDisp x).framer = s.framer := rfl
@[simp] theorem State.setDisp_disp (x : Dispatcher) : (s.setDisp x).disp = x := rfl
@[simp] theorem State.setDisp_kbd (x : Dispatcher) : (s.setDisp x).kbd = s.kbd := rfl
@[simp] theorem State.setDisp_comp (x : Dispatcher) : (s.setDisp x).comp = s.comp := rfl
@[simp] theorem State.setDisp_strobe (x : Dispatcher) : (s.setDisp x).strobe = s.strobe := rfl
@[simp] theorem State.setDisp_engine (x : Dispatcher) : (s.setDisp x).engine = s.engine := rfl
@[simp] theorem State.setDisp_head (x : Dispatcher) : (s.setDisp x).head = s.head := rfl
@[simp] theorem State.setDisp_store (x : Dispatcher) : (s.setDisp x).store = s.store := rfl
@[simp] theorem State.setDisp_send (x : Dispatcher) : (s.setDisp x).send = s.send := rfl
@[simp] theorem State.setDisp_reprint (x : Dispatcher) : (s.setDisp x).reprint = s.reprint := rfl
@[simp] theorem State.setDisp_take (x : Dispatcher) : (s.setDisp x).take = s.take := rfl
@[simp] theorem State.setDisp_compose (x : Dispatcher) : (s.setDisp x).compose = s.compose := rfl
@[simp] theorem State.setDisp_supply (x : Dispatcher) : (s.setDisp x).supply = s.supply := rfl
@[simp] theorem State.setDisp_link (x : Dispatcher) : (s.setDisp x).link = s.link := rfl
@[simp] theorem State.setDisp_reports (x : Dispatcher) : (s.setDisp x).reports = s.reports := rfl
@[simp] theorem State.setDisp_faults (x : Dispatcher) : (s.setDisp x).faults = s.faults := rfl
@[simp] theorem State.setDisp_mem (x : Dispatcher) : (s.setDisp x).mem = s.mem := rfl
@[simp] theorem State.setDisp_draws (x : Dispatcher) : (s.setDisp x).draws = s.draws := rfl
@[simp] theorem State.setDisp_pending (x : Dispatcher) : (s.setDisp x).pending = s.pending := rfl

/-! ### `setKbd` -/

@[simp] theorem State.setKbd_held (x : Keyboard) : (s.setKbd x).held = s.held := rfl
@[simp] theorem State.setKbd_params (x : Keyboard) : (s.setKbd x).params = s.params := rfl
@[simp] theorem State.setKbd_modem (x : Keyboard) : (s.setKbd x).modem = s.modem := rfl
@[simp] theorem State.setKbd_framer (x : Keyboard) : (s.setKbd x).framer = s.framer := rfl
@[simp] theorem State.setKbd_disp (x : Keyboard) : (s.setKbd x).disp = s.disp := rfl
@[simp] theorem State.setKbd_kbd (x : Keyboard) : (s.setKbd x).kbd = x := rfl
@[simp] theorem State.setKbd_comp (x : Keyboard) : (s.setKbd x).comp = s.comp := rfl
@[simp] theorem State.setKbd_strobe (x : Keyboard) : (s.setKbd x).strobe = s.strobe := rfl
@[simp] theorem State.setKbd_engine (x : Keyboard) : (s.setKbd x).engine = s.engine := rfl
@[simp] theorem State.setKbd_head (x : Keyboard) : (s.setKbd x).head = s.head := rfl
@[simp] theorem State.setKbd_store (x : Keyboard) : (s.setKbd x).store = s.store := rfl
@[simp] theorem State.setKbd_send (x : Keyboard) : (s.setKbd x).send = s.send := rfl
@[simp] theorem State.setKbd_reprint (x : Keyboard) : (s.setKbd x).reprint = s.reprint := rfl
@[simp] theorem State.setKbd_take (x : Keyboard) : (s.setKbd x).take = s.take := rfl
@[simp] theorem State.setKbd_compose (x : Keyboard) : (s.setKbd x).compose = s.compose := rfl
@[simp] theorem State.setKbd_supply (x : Keyboard) : (s.setKbd x).supply = s.supply := rfl
@[simp] theorem State.setKbd_link (x : Keyboard) : (s.setKbd x).link = s.link := rfl
@[simp] theorem State.setKbd_reports (x : Keyboard) : (s.setKbd x).reports = s.reports := rfl
@[simp] theorem State.setKbd_faults (x : Keyboard) : (s.setKbd x).faults = s.faults := rfl
@[simp] theorem State.setKbd_mem (x : Keyboard) : (s.setKbd x).mem = s.mem := rfl
@[simp] theorem State.setKbd_draws (x : Keyboard) : (s.setKbd x).draws = s.draws := rfl
@[simp] theorem State.setKbd_pending (x : Keyboard) : (s.setKbd x).pending = s.pending := rfl

/-! ### `setComp` -/

@[simp] theorem State.setComp_held (x : Composer) : (s.setComp x).held = s.held := rfl
@[simp] theorem State.setComp_params (x : Composer) : (s.setComp x).params = s.params := rfl
@[simp] theorem State.setComp_modem (x : Composer) : (s.setComp x).modem = s.modem := rfl
@[simp] theorem State.setComp_framer (x : Composer) : (s.setComp x).framer = s.framer := rfl
@[simp] theorem State.setComp_disp (x : Composer) : (s.setComp x).disp = s.disp := rfl
@[simp] theorem State.setComp_kbd (x : Composer) : (s.setComp x).kbd = s.kbd := rfl
@[simp] theorem State.setComp_comp (x : Composer) : (s.setComp x).comp = x := rfl
@[simp] theorem State.setComp_strobe (x : Composer) : (s.setComp x).strobe = s.strobe := rfl
@[simp] theorem State.setComp_engine (x : Composer) : (s.setComp x).engine = s.engine := rfl
@[simp] theorem State.setComp_head (x : Composer) : (s.setComp x).head = s.head := rfl
@[simp] theorem State.setComp_store (x : Composer) : (s.setComp x).store = s.store := rfl
@[simp] theorem State.setComp_send (x : Composer) : (s.setComp x).send = s.send := rfl
@[simp] theorem State.setComp_reprint (x : Composer) : (s.setComp x).reprint = s.reprint := rfl
@[simp] theorem State.setComp_take (x : Composer) : (s.setComp x).take = s.take := rfl
@[simp] theorem State.setComp_compose (x : Composer) : (s.setComp x).compose = s.compose := rfl
@[simp] theorem State.setComp_supply (x : Composer) : (s.setComp x).supply = s.supply := rfl
@[simp] theorem State.setComp_link (x : Composer) : (s.setComp x).link = s.link := rfl
@[simp] theorem State.setComp_reports (x : Composer) : (s.setComp x).reports = s.reports := rfl
@[simp] theorem State.setComp_faults (x : Composer) : (s.setComp x).faults = s.faults := rfl
@[simp] theorem State.setComp_mem (x : Composer) : (s.setComp x).mem = s.mem := rfl
@[simp] theorem State.setComp_draws (x : Composer) : (s.setComp x).draws = s.draws := rfl
@[simp] theorem State.setComp_pending (x : Composer) : (s.setComp x).pending = s.pending := rfl

/-! ### `setStrobe` -/

@[simp] theorem State.setStrobe_held (x : Strobe) : (s.setStrobe x).held = s.held := rfl
@[simp] theorem State.setStrobe_params (x : Strobe) : (s.setStrobe x).params = s.params := rfl
@[simp] theorem State.setStrobe_modem (x : Strobe) : (s.setStrobe x).modem = s.modem := rfl
@[simp] theorem State.setStrobe_framer (x : Strobe) : (s.setStrobe x).framer = s.framer := rfl
@[simp] theorem State.setStrobe_disp (x : Strobe) : (s.setStrobe x).disp = s.disp := rfl
@[simp] theorem State.setStrobe_kbd (x : Strobe) : (s.setStrobe x).kbd = s.kbd := rfl
@[simp] theorem State.setStrobe_comp (x : Strobe) : (s.setStrobe x).comp = s.comp := rfl
@[simp] theorem State.setStrobe_strobe (x : Strobe) : (s.setStrobe x).strobe = x := rfl
@[simp] theorem State.setStrobe_engine (x : Strobe) : (s.setStrobe x).engine = s.engine := rfl
@[simp] theorem State.setStrobe_head (x : Strobe) : (s.setStrobe x).head = s.head := rfl
@[simp] theorem State.setStrobe_store (x : Strobe) : (s.setStrobe x).store = s.store := rfl
@[simp] theorem State.setStrobe_send (x : Strobe) : (s.setStrobe x).send = s.send := rfl
@[simp] theorem State.setStrobe_reprint (x : Strobe) : (s.setStrobe x).reprint = s.reprint := rfl
@[simp] theorem State.setStrobe_take (x : Strobe) : (s.setStrobe x).take = s.take := rfl
@[simp] theorem State.setStrobe_compose (x : Strobe) : (s.setStrobe x).compose = s.compose := rfl
@[simp] theorem State.setStrobe_supply (x : Strobe) : (s.setStrobe x).supply = s.supply := rfl
@[simp] theorem State.setStrobe_link (x : Strobe) : (s.setStrobe x).link = s.link := rfl
@[simp] theorem State.setStrobe_reports (x : Strobe) : (s.setStrobe x).reports = s.reports := rfl
@[simp] theorem State.setStrobe_faults (x : Strobe) : (s.setStrobe x).faults = s.faults := rfl
@[simp] theorem State.setStrobe_mem (x : Strobe) : (s.setStrobe x).mem = s.mem := rfl
@[simp] theorem State.setStrobe_draws (x : Strobe) : (s.setStrobe x).draws = s.draws := rfl
@[simp] theorem State.setStrobe_pending (x : Strobe) : (s.setStrobe x).pending = s.pending := rfl

/-! ### `setEngine` -/

@[simp] theorem State.setEngine_held (x : Engine) : (s.setEngine x).held = s.held := rfl
@[simp] theorem State.setEngine_params (x : Engine) : (s.setEngine x).params = s.params := rfl
@[simp] theorem State.setEngine_modem (x : Engine) : (s.setEngine x).modem = s.modem := rfl
@[simp] theorem State.setEngine_framer (x : Engine) : (s.setEngine x).framer = s.framer := rfl
@[simp] theorem State.setEngine_disp (x : Engine) : (s.setEngine x).disp = s.disp := rfl
@[simp] theorem State.setEngine_kbd (x : Engine) : (s.setEngine x).kbd = s.kbd := rfl
@[simp] theorem State.setEngine_comp (x : Engine) : (s.setEngine x).comp = s.comp := rfl
@[simp] theorem State.setEngine_strobe (x : Engine) : (s.setEngine x).strobe = s.strobe := rfl
@[simp] theorem State.setEngine_engine (x : Engine) : (s.setEngine x).engine = x := rfl
@[simp] theorem State.setEngine_head (x : Engine) : (s.setEngine x).head = s.head := rfl
@[simp] theorem State.setEngine_store (x : Engine) : (s.setEngine x).store = s.store := rfl
@[simp] theorem State.setEngine_send (x : Engine) : (s.setEngine x).send = s.send := rfl
@[simp] theorem State.setEngine_reprint (x : Engine) : (s.setEngine x).reprint = s.reprint := rfl
@[simp] theorem State.setEngine_take (x : Engine) : (s.setEngine x).take = s.take := rfl
@[simp] theorem State.setEngine_compose (x : Engine) : (s.setEngine x).compose = s.compose := rfl
@[simp] theorem State.setEngine_supply (x : Engine) : (s.setEngine x).supply = s.supply := rfl
@[simp] theorem State.setEngine_link (x : Engine) : (s.setEngine x).link = s.link := rfl
@[simp] theorem State.setEngine_reports (x : Engine) : (s.setEngine x).reports = s.reports := rfl
@[simp] theorem State.setEngine_faults (x : Engine) : (s.setEngine x).faults = s.faults := rfl
@[simp] theorem State.setEngine_mem (x : Engine) : (s.setEngine x).mem = s.mem := rfl
@[simp] theorem State.setEngine_draws (x : Engine) : (s.setEngine x).draws = s.draws := rfl
@[simp] theorem State.setEngine_pending (x : Engine) : (s.setEngine x).pending = s.pending := rfl

/-! ### `setHead` -/

@[simp] theorem State.setHead_held (x : HeadCheck) : (s.setHead x).held = s.held := rfl
@[simp] theorem State.setHead_params (x : HeadCheck) : (s.setHead x).params = s.params := rfl
@[simp] theorem State.setHead_modem (x : HeadCheck) : (s.setHead x).modem = s.modem := rfl
@[simp] theorem State.setHead_framer (x : HeadCheck) : (s.setHead x).framer = s.framer := rfl
@[simp] theorem State.setHead_disp (x : HeadCheck) : (s.setHead x).disp = s.disp := rfl
@[simp] theorem State.setHead_kbd (x : HeadCheck) : (s.setHead x).kbd = s.kbd := rfl
@[simp] theorem State.setHead_comp (x : HeadCheck) : (s.setHead x).comp = s.comp := rfl
@[simp] theorem State.setHead_strobe (x : HeadCheck) : (s.setHead x).strobe = s.strobe := rfl
@[simp] theorem State.setHead_engine (x : HeadCheck) : (s.setHead x).engine = s.engine := rfl
@[simp] theorem State.setHead_head (x : HeadCheck) : (s.setHead x).head = x := rfl
@[simp] theorem State.setHead_store (x : HeadCheck) : (s.setHead x).store = s.store := rfl
@[simp] theorem State.setHead_send (x : HeadCheck) : (s.setHead x).send = s.send := rfl
@[simp] theorem State.setHead_reprint (x : HeadCheck) : (s.setHead x).reprint = s.reprint := rfl
@[simp] theorem State.setHead_take (x : HeadCheck) : (s.setHead x).take = s.take := rfl
@[simp] theorem State.setHead_compose (x : HeadCheck) : (s.setHead x).compose = s.compose := rfl
@[simp] theorem State.setHead_supply (x : HeadCheck) : (s.setHead x).supply = s.supply := rfl
@[simp] theorem State.setHead_link (x : HeadCheck) : (s.setHead x).link = s.link := rfl
@[simp] theorem State.setHead_reports (x : HeadCheck) : (s.setHead x).reports = s.reports := rfl
@[simp] theorem State.setHead_faults (x : HeadCheck) : (s.setHead x).faults = s.faults := rfl
@[simp] theorem State.setHead_mem (x : HeadCheck) : (s.setHead x).mem = s.mem := rfl
@[simp] theorem State.setHead_draws (x : HeadCheck) : (s.setHead x).draws = s.draws := rfl
@[simp] theorem State.setHead_pending (x : HeadCheck) : (s.setHead x).pending = s.pending := rfl

/-! ### `setStore` -/

@[simp] theorem State.setStore_held (x : Store) : (s.setStore x).held = s.held := rfl
@[simp] theorem State.setStore_params (x : Store) : (s.setStore x).params = s.params := rfl
@[simp] theorem State.setStore_modem (x : Store) : (s.setStore x).modem = s.modem := rfl
@[simp] theorem State.setStore_framer (x : Store) : (s.setStore x).framer = s.framer := rfl
@[simp] theorem State.setStore_disp (x : Store) : (s.setStore x).disp = s.disp := rfl
@[simp] theorem State.setStore_kbd (x : Store) : (s.setStore x).kbd = s.kbd := rfl
@[simp] theorem State.setStore_comp (x : Store) : (s.setStore x).comp = s.comp := rfl
@[simp] theorem State.setStore_strobe (x : Store) : (s.setStore x).strobe = s.strobe := rfl
@[simp] theorem State.setStore_engine (x : Store) : (s.setStore x).engine = s.engine := rfl
@[simp] theorem State.setStore_head (x : Store) : (s.setStore x).head = s.head := rfl
@[simp] theorem State.setStore_store (x : Store) : (s.setStore x).store = x := rfl
@[simp] theorem State.setStore_send (x : Store) : (s.setStore x).send = s.send := rfl
@[simp] theorem State.setStore_reprint (x : Store) : (s.setStore x).reprint = s.reprint := rfl
@[simp] theorem State.setStore_take (x : Store) : (s.setStore x).take = s.take := rfl
@[simp] theorem State.setStore_compose (x : Store) : (s.setStore x).compose = s.compose := rfl
@[simp] theorem State.setStore_supply (x : Store) : (s.setStore x).supply = s.supply := rfl
@[simp] theorem State.setStore_link (x : Store) : (s.setStore x).link = s.link := rfl
@[simp] theorem State.setStore_reports (x : Store) : (s.setStore x).reports = s.reports := rfl
@[simp] theorem State.setStore_faults (x : Store) : (s.setStore x).faults = s.faults := rfl
@[simp] theorem State.setStore_mem (x : Store) : (s.setStore x).mem = s.mem := rfl
@[simp] theorem State.setStore_draws (x : Store) : (s.setStore x).draws = s.draws := rfl
@[simp] theorem State.setStore_pending (x : Store) : (s.setStore x).pending = s.pending := rfl

/-! ### `setSend` -/

@[simp] theorem State.setSend_held (x : SendChannel) : (s.setSend x).held = s.held := rfl
@[simp] theorem State.setSend_params (x : SendChannel) : (s.setSend x).params = s.params := rfl
@[simp] theorem State.setSend_modem (x : SendChannel) : (s.setSend x).modem = s.modem := rfl
@[simp] theorem State.setSend_framer (x : SendChannel) : (s.setSend x).framer = s.framer := rfl
@[simp] theorem State.setSend_disp (x : SendChannel) : (s.setSend x).disp = s.disp := rfl
@[simp] theorem State.setSend_kbd (x : SendChannel) : (s.setSend x).kbd = s.kbd := rfl
@[simp] theorem State.setSend_comp (x : SendChannel) : (s.setSend x).comp = s.comp := rfl
@[simp] theorem State.setSend_strobe (x : SendChannel) : (s.setSend x).strobe = s.strobe := rfl
@[simp] theorem State.setSend_engine (x : SendChannel) : (s.setSend x).engine = s.engine := rfl
@[simp] theorem State.setSend_head (x : SendChannel) : (s.setSend x).head = s.head := rfl
@[simp] theorem State.setSend_store (x : SendChannel) : (s.setSend x).store = s.store := rfl
@[simp] theorem State.setSend_send (x : SendChannel) : (s.setSend x).send = x := rfl
@[simp] theorem State.setSend_reprint (x : SendChannel) : (s.setSend x).reprint = s.reprint := rfl
@[simp] theorem State.setSend_take (x : SendChannel) : (s.setSend x).take = s.take := rfl
@[simp] theorem State.setSend_compose (x : SendChannel) : (s.setSend x).compose = s.compose := rfl
@[simp] theorem State.setSend_supply (x : SendChannel) : (s.setSend x).supply = s.supply := rfl
@[simp] theorem State.setSend_link (x : SendChannel) : (s.setSend x).link = s.link := rfl
@[simp] theorem State.setSend_reports (x : SendChannel) : (s.setSend x).reports = s.reports := rfl
@[simp] theorem State.setSend_faults (x : SendChannel) : (s.setSend x).faults = s.faults := rfl
@[simp] theorem State.setSend_mem (x : SendChannel) : (s.setSend x).mem = s.mem := rfl
@[simp] theorem State.setSend_draws (x : SendChannel) : (s.setSend x).draws = s.draws := rfl
@[simp] theorem State.setSend_pending (x : SendChannel) : (s.setSend x).pending = s.pending := rfl

/-! ### `setReprint` -/

@[simp] theorem State.setReprint_held (x : ReprintChannel) : (s.setReprint x).held = s.held := rfl
@[simp] theorem State.setReprint_params (x : ReprintChannel) : (s.setReprint x).params = s.params := rfl
@[simp] theorem State.setReprint_modem (x : ReprintChannel) : (s.setReprint x).modem = s.modem := rfl
@[simp] theorem State.setReprint_framer (x : ReprintChannel) : (s.setReprint x).framer = s.framer := rfl
@[simp] theorem State.setReprint_disp (x : ReprintChannel) : (s.setReprint x).disp = s.disp := rfl
@[simp] theorem State.setReprint_kbd (x : ReprintChannel) : (s.setReprint x).kbd = s.kbd := rfl
@[simp] theorem State.setReprint_comp (x : ReprintChannel) : (s.setReprint x).comp = s.comp := rfl
@[simp] theorem State.setReprint_strobe (x : ReprintChannel) : (s.setReprint x).strobe = s.strobe := rfl
@[simp] theorem State.setReprint_engine (x : ReprintChannel) : (s.setReprint x).engine = s.engine := rfl
@[simp] theorem State.setReprint_head (x : ReprintChannel) : (s.setReprint x).head = s.head := rfl
@[simp] theorem State.setReprint_store (x : ReprintChannel) : (s.setReprint x).store = s.store := rfl
@[simp] theorem State.setReprint_send (x : ReprintChannel) : (s.setReprint x).send = s.send := rfl
@[simp] theorem State.setReprint_reprint (x : ReprintChannel) : (s.setReprint x).reprint = x := rfl
@[simp] theorem State.setReprint_take (x : ReprintChannel) : (s.setReprint x).take = s.take := rfl
@[simp] theorem State.setReprint_compose (x : ReprintChannel) : (s.setReprint x).compose = s.compose := rfl
@[simp] theorem State.setReprint_supply (x : ReprintChannel) : (s.setReprint x).supply = s.supply := rfl
@[simp] theorem State.setReprint_link (x : ReprintChannel) : (s.setReprint x).link = s.link := rfl
@[simp] theorem State.setReprint_reports (x : ReprintChannel) : (s.setReprint x).reports = s.reports := rfl
@[simp] theorem State.setReprint_faults (x : ReprintChannel) : (s.setReprint x).faults = s.faults := rfl
@[simp] theorem State.setReprint_mem (x : ReprintChannel) : (s.setReprint x).mem = s.mem := rfl
@[simp] theorem State.setReprint_draws (x : ReprintChannel) : (s.setReprint x).draws = s.draws := rfl
@[simp] theorem State.setReprint_pending (x : ReprintChannel) : (s.setReprint x).pending = s.pending := rfl

/-! ### `setTake` -/

@[simp] theorem State.setTake_held (x : TakeChannel) : (s.setTake x).held = s.held := rfl
@[simp] theorem State.setTake_params (x : TakeChannel) : (s.setTake x).params = s.params := rfl
@[simp] theorem State.setTake_modem (x : TakeChannel) : (s.setTake x).modem = s.modem := rfl
@[simp] theorem State.setTake_framer (x : TakeChannel) : (s.setTake x).framer = s.framer := rfl
@[simp] theorem State.setTake_disp (x : TakeChannel) : (s.setTake x).disp = s.disp := rfl
@[simp] theorem State.setTake_kbd (x : TakeChannel) : (s.setTake x).kbd = s.kbd := rfl
@[simp] theorem State.setTake_comp (x : TakeChannel) : (s.setTake x).comp = s.comp := rfl
@[simp] theorem State.setTake_strobe (x : TakeChannel) : (s.setTake x).strobe = s.strobe := rfl
@[simp] theorem State.setTake_engine (x : TakeChannel) : (s.setTake x).engine = s.engine := rfl
@[simp] theorem State.setTake_head (x : TakeChannel) : (s.setTake x).head = s.head := rfl
@[simp] theorem State.setTake_store (x : TakeChannel) : (s.setTake x).store = s.store := rfl
@[simp] theorem State.setTake_send (x : TakeChannel) : (s.setTake x).send = s.send := rfl
@[simp] theorem State.setTake_reprint (x : TakeChannel) : (s.setTake x).reprint = s.reprint := rfl
@[simp] theorem State.setTake_take (x : TakeChannel) : (s.setTake x).take = x := rfl
@[simp] theorem State.setTake_compose (x : TakeChannel) : (s.setTake x).compose = s.compose := rfl
@[simp] theorem State.setTake_supply (x : TakeChannel) : (s.setTake x).supply = s.supply := rfl
@[simp] theorem State.setTake_link (x : TakeChannel) : (s.setTake x).link = s.link := rfl
@[simp] theorem State.setTake_reports (x : TakeChannel) : (s.setTake x).reports = s.reports := rfl
@[simp] theorem State.setTake_faults (x : TakeChannel) : (s.setTake x).faults = s.faults := rfl
@[simp] theorem State.setTake_mem (x : TakeChannel) : (s.setTake x).mem = s.mem := rfl
@[simp] theorem State.setTake_draws (x : TakeChannel) : (s.setTake x).draws = s.draws := rfl
@[simp] theorem State.setTake_pending (x : TakeChannel) : (s.setTake x).pending = s.pending := rfl

/-! ### `setCompose` -/

@[simp] theorem State.setCompose_held (x : ComposeChannel) : (s.setCompose x).held = s.held := rfl
@[simp] theorem State.setCompose_params (x : ComposeChannel) : (s.setCompose x).params = s.params := rfl
@[simp] theorem State.setCompose_modem (x : ComposeChannel) : (s.setCompose x).modem = s.modem := rfl
@[simp] theorem State.setCompose_framer (x : ComposeChannel) : (s.setCompose x).framer = s.framer := rfl
@[simp] theorem State.setCompose_disp (x : ComposeChannel) : (s.setCompose x).disp = s.disp := rfl
@[simp] theorem State.setCompose_kbd (x : ComposeChannel) : (s.setCompose x).kbd = s.kbd := rfl
@[simp] theorem State.setCompose_comp (x : ComposeChannel) : (s.setCompose x).comp = s.comp := rfl
@[simp] theorem State.setCompose_strobe (x : ComposeChannel) : (s.setCompose x).strobe = s.strobe := rfl
@[simp] theorem State.setCompose_engine (x : ComposeChannel) : (s.setCompose x).engine = s.engine := rfl
@[simp] theorem State.setCompose_head (x : ComposeChannel) : (s.setCompose x).head = s.head := rfl
@[simp] theorem State.setCompose_store (x : ComposeChannel) : (s.setCompose x).store = s.store := rfl
@[simp] theorem State.setCompose_send (x : ComposeChannel) : (s.setCompose x).send = s.send := rfl
@[simp] theorem State.setCompose_reprint (x : ComposeChannel) : (s.setCompose x).reprint = s.reprint := rfl
@[simp] theorem State.setCompose_take (x : ComposeChannel) : (s.setCompose x).take = s.take := rfl
@[simp] theorem State.setCompose_compose (x : ComposeChannel) : (s.setCompose x).compose = x := rfl
@[simp] theorem State.setCompose_supply (x : ComposeChannel) : (s.setCompose x).supply = s.supply := rfl
@[simp] theorem State.setCompose_link (x : ComposeChannel) : (s.setCompose x).link = s.link := rfl
@[simp] theorem State.setCompose_reports (x : ComposeChannel) : (s.setCompose x).reports = s.reports := rfl
@[simp] theorem State.setCompose_faults (x : ComposeChannel) : (s.setCompose x).faults = s.faults := rfl
@[simp] theorem State.setCompose_mem (x : ComposeChannel) : (s.setCompose x).mem = s.mem := rfl
@[simp] theorem State.setCompose_draws (x : ComposeChannel) : (s.setCompose x).draws = s.draws := rfl
@[simp] theorem State.setCompose_pending (x : ComposeChannel) : (s.setCompose x).pending = s.pending := rfl

/-! ### `setSupply` -/

@[simp] theorem State.setSupply_held (x : Supply) : (s.setSupply x).held = s.held := rfl
@[simp] theorem State.setSupply_params (x : Supply) : (s.setSupply x).params = s.params := rfl
@[simp] theorem State.setSupply_modem (x : Supply) : (s.setSupply x).modem = s.modem := rfl
@[simp] theorem State.setSupply_framer (x : Supply) : (s.setSupply x).framer = s.framer := rfl
@[simp] theorem State.setSupply_disp (x : Supply) : (s.setSupply x).disp = s.disp := rfl
@[simp] theorem State.setSupply_kbd (x : Supply) : (s.setSupply x).kbd = s.kbd := rfl
@[simp] theorem State.setSupply_comp (x : Supply) : (s.setSupply x).comp = s.comp := rfl
@[simp] theorem State.setSupply_strobe (x : Supply) : (s.setSupply x).strobe = s.strobe := rfl
@[simp] theorem State.setSupply_engine (x : Supply) : (s.setSupply x).engine = s.engine := rfl
@[simp] theorem State.setSupply_head (x : Supply) : (s.setSupply x).head = s.head := rfl
@[simp] theorem State.setSupply_store (x : Supply) : (s.setSupply x).store = s.store := rfl
@[simp] theorem State.setSupply_send (x : Supply) : (s.setSupply x).send = s.send := rfl
@[simp] theorem State.setSupply_reprint (x : Supply) : (s.setSupply x).reprint = s.reprint := rfl
@[simp] theorem State.setSupply_take (x : Supply) : (s.setSupply x).take = s.take := rfl
@[simp] theorem State.setSupply_compose (x : Supply) : (s.setSupply x).compose = s.compose := rfl
@[simp] theorem State.setSupply_supply (x : Supply) : (s.setSupply x).supply = x := rfl
@[simp] theorem State.setSupply_link (x : Supply) : (s.setSupply x).link = s.link := rfl
@[simp] theorem State.setSupply_reports (x : Supply) : (s.setSupply x).reports = s.reports := rfl
@[simp] theorem State.setSupply_faults (x : Supply) : (s.setSupply x).faults = s.faults := rfl
@[simp] theorem State.setSupply_mem (x : Supply) : (s.setSupply x).mem = s.mem := rfl
@[simp] theorem State.setSupply_draws (x : Supply) : (s.setSupply x).draws = s.draws := rfl
@[simp] theorem State.setSupply_pending (x : Supply) : (s.setSupply x).pending = s.pending := rfl

/-! ### `setLink` -/

@[simp] theorem State.setLink_held (x : Link) : (s.setLink x).held = s.held := rfl
@[simp] theorem State.setLink_params (x : Link) : (s.setLink x).params = s.params := rfl
@[simp] theorem State.setLink_modem (x : Link) : (s.setLink x).modem = s.modem := rfl
@[simp] theorem State.setLink_framer (x : Link) : (s.setLink x).framer = s.framer := rfl
@[simp] theorem State.setLink_disp (x : Link) : (s.setLink x).disp = s.disp := rfl
@[simp] theorem State.setLink_kbd (x : Link) : (s.setLink x).kbd = s.kbd := rfl
@[simp] theorem State.setLink_comp (x : Link) : (s.setLink x).comp = s.comp := rfl
@[simp] theorem State.setLink_strobe (x : Link) : (s.setLink x).strobe = s.strobe := rfl
@[simp] theorem State.setLink_engine (x : Link) : (s.setLink x).engine = s.engine := rfl
@[simp] theorem State.setLink_head (x : Link) : (s.setLink x).head = s.head := rfl
@[simp] theorem State.setLink_store (x : Link) : (s.setLink x).store = s.store := rfl
@[simp] theorem State.setLink_send (x : Link) : (s.setLink x).send = s.send := rfl
@[simp] theorem State.setLink_reprint (x : Link) : (s.setLink x).reprint = s.reprint := rfl
@[simp] theorem State.setLink_take (x : Link) : (s.setLink x).take = s.take := rfl
@[simp] theorem State.setLink_compose (x : Link) : (s.setLink x).compose = s.compose := rfl
@[simp] theorem State.setLink_supply (x : Link) : (s.setLink x).supply = s.supply := rfl
@[simp] theorem State.setLink_link (x : Link) : (s.setLink x).link = x := rfl
@[simp] theorem State.setLink_reports (x : Link) : (s.setLink x).reports = s.reports := rfl
@[simp] theorem State.setLink_faults (x : Link) : (s.setLink x).faults = s.faults := rfl
@[simp] theorem State.setLink_mem (x : Link) : (s.setLink x).mem = s.mem := rfl
@[simp] theorem State.setLink_draws (x : Link) : (s.setLink x).draws = s.draws := rfl
@[simp] theorem State.setLink_pending (x : Link) : (s.setLink x).pending = s.pending := rfl

/-! ### `setReports` -/

@[simp] theorem State.setReports_held (x : Reports) : (s.setReports x).held = s.held := rfl
@[simp] theorem State.setReports_params (x : Reports) : (s.setReports x).params = s.params := rfl
@[simp] theorem State.setReports_modem (x : Reports) : (s.setReports x).modem = s.modem := rfl
@[simp] theorem State.setReports_framer (x : Reports) : (s.setReports x).framer = s.framer := rfl
@[simp] theorem State.setReports_disp (x : Reports) : (s.setReports x).disp = s.disp := rfl
@[simp] theorem State.setReports_kbd (x : Reports) : (s.setReports x).kbd = s.kbd := rfl
@[simp] theorem State.setReports_comp (x : Reports) : (s.setReports x).comp = s.comp := rfl
@[simp] theorem State.setReports_strobe (x : Reports) : (s.setReports x).strobe = s.strobe := rfl
@[simp] theorem State.setReports_engine (x : Reports) : (s.setReports x).engine = s.engine := rfl
@[simp] theorem State.setReports_head (x : Reports) : (s.setReports x).head = s.head := rfl
@[simp] theorem State.setReports_store (x : Reports) : (s.setReports x).store = s.store := rfl
@[simp] theorem State.setReports_send (x : Reports) : (s.setReports x).send = s.send := rfl
@[simp] theorem State.setReports_reprint (x : Reports) : (s.setReports x).reprint = s.reprint := rfl
@[simp] theorem State.setReports_take (x : Reports) : (s.setReports x).take = s.take := rfl
@[simp] theorem State.setReports_compose (x : Reports) : (s.setReports x).compose = s.compose := rfl
@[simp] theorem State.setReports_supply (x : Reports) : (s.setReports x).supply = s.supply := rfl
@[simp] theorem State.setReports_link (x : Reports) : (s.setReports x).link = s.link := rfl
@[simp] theorem State.setReports_reports (x : Reports) : (s.setReports x).reports = x := rfl
@[simp] theorem State.setReports_faults (x : Reports) : (s.setReports x).faults = s.faults := rfl
@[simp] theorem State.setReports_mem (x : Reports) : (s.setReports x).mem = s.mem := rfl
@[simp] theorem State.setReports_draws (x : Reports) : (s.setReports x).draws = s.draws := rfl
@[simp] theorem State.setReports_pending (x : Reports) : (s.setReports x).pending = s.pending := rfl

/-! ### `setFaults` -/

@[simp] theorem State.setFaults_held (x : Option FaultRecord) : (s.setFaults x).held = s.held := rfl
@[simp] theorem State.setFaults_params (x : Option FaultRecord) : (s.setFaults x).params = s.params := rfl
@[simp] theorem State.setFaults_modem (x : Option FaultRecord) : (s.setFaults x).modem = s.modem := rfl
@[simp] theorem State.setFaults_framer (x : Option FaultRecord) : (s.setFaults x).framer = s.framer := rfl
@[simp] theorem State.setFaults_disp (x : Option FaultRecord) : (s.setFaults x).disp = s.disp := rfl
@[simp] theorem State.setFaults_kbd (x : Option FaultRecord) : (s.setFaults x).kbd = s.kbd := rfl
@[simp] theorem State.setFaults_comp (x : Option FaultRecord) : (s.setFaults x).comp = s.comp := rfl
@[simp] theorem State.setFaults_strobe (x : Option FaultRecord) : (s.setFaults x).strobe = s.strobe := rfl
@[simp] theorem State.setFaults_engine (x : Option FaultRecord) : (s.setFaults x).engine = s.engine := rfl
@[simp] theorem State.setFaults_head (x : Option FaultRecord) : (s.setFaults x).head = s.head := rfl
@[simp] theorem State.setFaults_store (x : Option FaultRecord) : (s.setFaults x).store = s.store := rfl
@[simp] theorem State.setFaults_send (x : Option FaultRecord) : (s.setFaults x).send = s.send := rfl
@[simp] theorem State.setFaults_reprint (x : Option FaultRecord) : (s.setFaults x).reprint = s.reprint := rfl
@[simp] theorem State.setFaults_take (x : Option FaultRecord) : (s.setFaults x).take = s.take := rfl
@[simp] theorem State.setFaults_compose (x : Option FaultRecord) : (s.setFaults x).compose = s.compose := rfl
@[simp] theorem State.setFaults_supply (x : Option FaultRecord) : (s.setFaults x).supply = s.supply := rfl
@[simp] theorem State.setFaults_link (x : Option FaultRecord) : (s.setFaults x).link = s.link := rfl
@[simp] theorem State.setFaults_reports (x : Option FaultRecord) : (s.setFaults x).reports = s.reports := rfl
@[simp] theorem State.setFaults_faults (x : Option FaultRecord) : (s.setFaults x).faults = x := rfl
@[simp] theorem State.setFaults_mem (x : Option FaultRecord) : (s.setFaults x).mem = s.mem := rfl
@[simp] theorem State.setFaults_draws (x : Option FaultRecord) : (s.setFaults x).draws = s.draws := rfl
@[simp] theorem State.setFaults_pending (x : Option FaultRecord) : (s.setFaults x).pending = s.pending := rfl

/-! ### `setMem` -/

@[simp] theorem State.setMem_held (x : Memory) : (s.setMem x).held = s.held := rfl
@[simp] theorem State.setMem_params (x : Memory) : (s.setMem x).params = s.params := rfl
@[simp] theorem State.setMem_modem (x : Memory) : (s.setMem x).modem = s.modem := rfl
@[simp] theorem State.setMem_framer (x : Memory) : (s.setMem x).framer = s.framer := rfl
@[simp] theorem State.setMem_disp (x : Memory) : (s.setMem x).disp = s.disp := rfl
@[simp] theorem State.setMem_kbd (x : Memory) : (s.setMem x).kbd = s.kbd := rfl
@[simp] theorem State.setMem_comp (x : Memory) : (s.setMem x).comp = s.comp := rfl
@[simp] theorem State.setMem_strobe (x : Memory) : (s.setMem x).strobe = s.strobe := rfl
@[simp] theorem State.setMem_engine (x : Memory) : (s.setMem x).engine = s.engine := rfl
@[simp] theorem State.setMem_head (x : Memory) : (s.setMem x).head = s.head := rfl
@[simp] theorem State.setMem_store (x : Memory) : (s.setMem x).store = s.store := rfl
@[simp] theorem State.setMem_send (x : Memory) : (s.setMem x).send = s.send := rfl
@[simp] theorem State.setMem_reprint (x : Memory) : (s.setMem x).reprint = s.reprint := rfl
@[simp] theorem State.setMem_take (x : Memory) : (s.setMem x).take = s.take := rfl
@[simp] theorem State.setMem_compose (x : Memory) : (s.setMem x).compose = s.compose := rfl
@[simp] theorem State.setMem_supply (x : Memory) : (s.setMem x).supply = s.supply := rfl
@[simp] theorem State.setMem_link (x : Memory) : (s.setMem x).link = s.link := rfl
@[simp] theorem State.setMem_reports (x : Memory) : (s.setMem x).reports = s.reports := rfl
@[simp] theorem State.setMem_faults (x : Memory) : (s.setMem x).faults = s.faults := rfl
@[simp] theorem State.setMem_mem (x : Memory) : (s.setMem x).mem = x := rfl
@[simp] theorem State.setMem_draws (x : Memory) : (s.setMem x).draws = s.draws := rfl
@[simp] theorem State.setMem_pending (x : Memory) : (s.setMem x).pending = s.pending := rfl

/-! ### `setDraws` -/

@[simp] theorem State.setDraws_held (x : Nat) : (s.setDraws x).held = s.held := rfl
@[simp] theorem State.setDraws_params (x : Nat) : (s.setDraws x).params = s.params := rfl
@[simp] theorem State.setDraws_modem (x : Nat) : (s.setDraws x).modem = s.modem := rfl
@[simp] theorem State.setDraws_framer (x : Nat) : (s.setDraws x).framer = s.framer := rfl
@[simp] theorem State.setDraws_disp (x : Nat) : (s.setDraws x).disp = s.disp := rfl
@[simp] theorem State.setDraws_kbd (x : Nat) : (s.setDraws x).kbd = s.kbd := rfl
@[simp] theorem State.setDraws_comp (x : Nat) : (s.setDraws x).comp = s.comp := rfl
@[simp] theorem State.setDraws_strobe (x : Nat) : (s.setDraws x).strobe = s.strobe := rfl
@[simp] theorem State.setDraws_engine (x : Nat) : (s.setDraws x).engine = s.engine := rfl
@[simp] theorem State.setDraws_head (x : Nat) : (s.setDraws x).head = s.head := rfl
@[simp] theorem State.setDraws_store (x : Nat) : (s.setDraws x).store = s.store := rfl
@[simp] theorem State.setDraws_send (x : Nat) : (s.setDraws x).send = s.send := rfl
@[simp] theorem State.setDraws_reprint (x : Nat) : (s.setDraws x).reprint = s.reprint := rfl
@[simp] theorem State.setDraws_take (x : Nat) : (s.setDraws x).take = s.take := rfl
@[simp] theorem State.setDraws_compose (x : Nat) : (s.setDraws x).compose = s.compose := rfl
@[simp] theorem State.setDraws_supply (x : Nat) : (s.setDraws x).supply = s.supply := rfl
@[simp] theorem State.setDraws_link (x : Nat) : (s.setDraws x).link = s.link := rfl
@[simp] theorem State.setDraws_reports (x : Nat) : (s.setDraws x).reports = s.reports := rfl
@[simp] theorem State.setDraws_faults (x : Nat) : (s.setDraws x).faults = s.faults := rfl
@[simp] theorem State.setDraws_mem (x : Nat) : (s.setDraws x).mem = s.mem := rfl
@[simp] theorem State.setDraws_draws (x : Nat) : (s.setDraws x).draws = x := rfl
@[simp] theorem State.setDraws_pending (x : Nat) : (s.setDraws x).pending = s.pending := rfl

/-! ### `setPending` -/

@[simp] theorem State.setPending_held (x : List Instr) : (s.setPending x).held = s.held := rfl
@[simp] theorem State.setPending_params (x : List Instr) : (s.setPending x).params = s.params := rfl
@[simp] theorem State.setPending_modem (x : List Instr) : (s.setPending x).modem = s.modem := rfl
@[simp] theorem State.setPending_framer (x : List Instr) : (s.setPending x).framer = s.framer := rfl
@[simp] theorem State.setPending_disp (x : List Instr) : (s.setPending x).disp = s.disp := rfl
@[simp] theorem State.setPending_kbd (x : List Instr) : (s.setPending x).kbd = s.kbd := rfl
@[simp] theorem State.setPending_comp (x : List Instr) : (s.setPending x).comp = s.comp := rfl
@[simp] theorem State.setPending_strobe (x : List Instr) : (s.setPending x).strobe = s.strobe := rfl
@[simp] theorem State.setPending_engine (x : List Instr) : (s.setPending x).engine = s.engine := rfl
@[simp] theorem State.setPending_head (x : List Instr) : (s.setPending x).head = s.head := rfl
@[simp] theorem State.setPending_store (x : List Instr) : (s.setPending x).store = s.store := rfl
@[simp] theorem State.setPending_send (x : List Instr) : (s.setPending x).send = s.send := rfl
@[simp] theorem State.setPending_reprint (x : List Instr) : (s.setPending x).reprint = s.reprint := rfl
@[simp] theorem State.setPending_take (x : List Instr) : (s.setPending x).take = s.take := rfl
@[simp] theorem State.setPending_compose (x : List Instr) : (s.setPending x).compose = s.compose := rfl
@[simp] theorem State.setPending_supply (x : List Instr) : (s.setPending x).supply = s.supply := rfl
@[simp] theorem State.setPending_link (x : List Instr) : (s.setPending x).link = s.link := rfl
@[simp] theorem State.setPending_reports (x : List Instr) : (s.setPending x).reports = s.reports := rfl
@[simp] theorem State.setPending_faults (x : List Instr) : (s.setPending x).faults = s.faults := rfl
@[simp] theorem State.setPending_mem (x : List Instr) : (s.setPending x).mem = s.mem := rfl
@[simp] theorem State.setPending_draws (x : List Instr) : (s.setPending x).draws = s.draws := rfl
@[simp] theorem State.setPending_pending (x : List Instr) : (s.setPending x).pending = x := rfl

end Sys2Proof.Machine
end

