-- ==== Sys2Proof/Laws/FrameCore.lean ====
section
/-! SUPPORT. What each shared operation leaves as it was: recording, the store memory, reset, the directory and TAKE.
Each lemma names every field, or part of a field, that the operation does not touch. -/

namespace Sys2Proof.Machine

@[simp] theorem setDirEntry_frame (n : Nat) (e : DirEntry) (s : State) :
    (setDirEntry n e s).held = s.held ∧ (setDirEntry n e s).params = s.params ∧ (setDirEntry n e s).modem = s.modem ∧
    (setDirEntry n e s).framer = s.framer ∧ (setDirEntry n e s).disp = s.disp ∧ (setDirEntry n e s).kbd = s.kbd ∧
    (setDirEntry n e s).comp = s.comp ∧ (setDirEntry n e s).strobe = s.strobe ∧
    (setDirEntry n e s).engine = s.engine ∧ (setDirEntry n e s).head = s.head ∧
    (setDirEntry n e s).store.state = s.store.state ∧ (setDirEntry n e s).store.mountNext = s.store.mountNext ∧
    (setDirEntry n e s).store.formatNext = s.store.formatNext ∧ (setDirEntry n e s).store.free = s.store.free ∧
    (setDirEntry n e s).store.bad = s.store.bad ∧ (setDirEntry n e s).store.sectors = s.store.sectors ∧
    (setDirEntry n e s).store.inFlight = s.store.inFlight ∧ (setDirEntry n e s).store.jobs = s.store.jobs ∧
    (setDirEntry n e s).store.patrolPos = s.store.patrolPos ∧
    (setDirEntry n e s).store.patrolTimer = s.store.patrolTimer ∧
    (setDirEntry n e s).store.patrolRead = s.store.patrolRead ∧
    (setDirEntry n e s).store.linkRead = s.store.linkRead ∧ (setDirEntry n e s).send = s.send ∧
    (setDirEntry n e s).reprint = s.reprint ∧ (setDirEntry n e s).take = s.take ∧
    (setDirEntry n e s).compose = s.compose ∧ (setDirEntry n e s).supply = s.supply ∧
    (setDirEntry n e s).link = s.link ∧ (setDirEntry n e s).reports = s.reports ∧
    (setDirEntry n e s).faults = s.faults ∧ (setDirEntry n e s).mem = s.mem ∧ (setDirEntry n e s).draws = s.draws ∧
    (setDirEntry n e s).pending = s.pending := by
  simp only [setDirEntry]; (repeat' split) <;> simp

@[simp] theorem recordModem_frame (e : ModemEvent) (s : State) :
    (recordModem e s).held = s.held ∧ (recordModem e s).params = s.params ∧ (recordModem e s).modem = s.modem ∧
    (recordModem e s).framer = s.framer ∧ (recordModem e s).disp = s.disp ∧ (recordModem e s).kbd = s.kbd ∧
    (recordModem e s).comp = s.comp ∧ (recordModem e s).strobe = s.strobe ∧ (recordModem e s).engine = s.engine ∧
    (recordModem e s).head = s.head ∧ (recordModem e s).store = s.store ∧ (recordModem e s).send = s.send ∧
    (recordModem e s).reprint = s.reprint ∧ (recordModem e s).take = s.take ∧ (recordModem e s).compose = s.compose ∧
    (recordModem e s).supply = s.supply ∧ (recordModem e s).link = s.link ∧ (recordModem e s).faults = s.faults ∧
    (recordModem e s).mem = s.mem ∧ (recordModem e s).draws = s.draws ∧ (recordModem e s).pending = s.pending := by
  simp only [recordModem]; (repeat' split) <;> simp

@[simp] theorem recordLine_frame (e : LineEvent) (refused : Option Nat) (s : State) :
    (recordLine e refused s).held = s.held ∧ (recordLine e refused s).params = s.params ∧
    (recordLine e refused s).modem = s.modem ∧ (recordLine e refused s).framer = s.framer ∧
    (recordLine e refused s).disp = s.disp ∧ (recordLine e refused s).kbd = s.kbd ∧
    (recordLine e refused s).comp = s.comp ∧ (recordLine e refused s).strobe = s.strobe ∧
    (recordLine e refused s).engine = s.engine ∧ (recordLine e refused s).head = s.head ∧
    (recordLine e refused s).store = s.store ∧ (recordLine e refused s).send = s.send ∧
    (recordLine e refused s).reprint = s.reprint ∧ (recordLine e refused s).take = s.take ∧
    (recordLine e refused s).compose = s.compose ∧ (recordLine e refused s).supply = s.supply ∧
    (recordLine e refused s).link = s.link ∧ (recordLine e refused s).faults = s.faults ∧
    (recordLine e refused s).mem = s.mem ∧ (recordLine e refused s).draws = s.draws ∧
    (recordLine e refused s).pending = s.pending := by
  simp only [recordLine]; (repeat' split) <;> simp

@[simp] theorem recordPrint_frame (es : List PrintEvent) (s : State) :
    (recordPrint es s).held = s.held ∧ (recordPrint es s).params = s.params ∧ (recordPrint es s).modem = s.modem ∧
    (recordPrint es s).framer = s.framer ∧ (recordPrint es s).disp = s.disp ∧ (recordPrint es s).kbd = s.kbd ∧
    (recordPrint es s).comp = s.comp ∧ (recordPrint es s).strobe = s.strobe ∧ (recordPrint es s).engine = s.engine ∧
    (recordPrint es s).head = s.head ∧ (recordPrint es s).store = s.store ∧ (recordPrint es s).send = s.send ∧
    (recordPrint es s).reprint = s.reprint ∧ (recordPrint es s).take = s.take ∧
    (recordPrint es s).compose = s.compose ∧ (recordPrint es s).supply = s.supply ∧ (recordPrint es s).link = s.link ∧
    (recordPrint es s).faults = s.faults ∧ (recordPrint es s).mem = s.mem ∧ (recordPrint es s).draws = s.draws ∧
    (recordPrint es s).pending = s.pending := by
  simp only [recordPrint]; (repeat' split) <;> simp

@[simp] theorem recordHead_frame (e : HeadEvent) (block : Option Nat) (s : State) :
    (recordHead e block s).held = s.held ∧ (recordHead e block s).params = s.params ∧
    (recordHead e block s).modem = s.modem ∧ (recordHead e block s).framer = s.framer ∧
    (recordHead e block s).disp = s.disp ∧ (recordHead e block s).kbd = s.kbd ∧ (recordHead e block s).comp = s.comp ∧
    (recordHead e block s).strobe = s.strobe ∧ (recordHead e block s).engine = s.engine ∧
    (recordHead e block s).head = s.head ∧ (recordHead e block s).store = s.store ∧
    (recordHead e block s).send = s.send ∧ (recordHead e block s).reprint = s.reprint ∧
    (recordHead e block s).take = s.take ∧ (recordHead e block s).compose = s.compose ∧
    (recordHead e block s).supply = s.supply ∧ (recordHead e block s).link = s.link ∧
    (recordHead e block s).faults = s.faults ∧ (recordHead e block s).mem = s.mem ∧
    (recordHead e block s).draws = s.draws ∧ (recordHead e block s).pending = s.pending := by
  simp only [recordHead]; (repeat' split) <;> simp

@[simp] theorem recordStore_frame (docs : List Nat) (damage : Bool) (outcome : Option StoreOutcome) (s : State) :
    (recordStore docs damage outcome s).held = s.held ∧ (recordStore docs damage outcome s).params = s.params ∧
    (recordStore docs damage outcome s).modem = s.modem ∧ (recordStore docs damage outcome s).framer = s.framer ∧
    (recordStore docs damage outcome s).disp = s.disp ∧ (recordStore docs damage outcome s).kbd = s.kbd ∧
    (recordStore docs damage outcome s).comp = s.comp ∧ (recordStore docs damage outcome s).strobe = s.strobe ∧
    (recordStore docs damage outcome s).engine = s.engine ∧ (recordStore docs damage outcome s).head = s.head ∧
    (recordStore docs damage outcome s).store = s.store ∧ (recordStore docs damage outcome s).send = s.send ∧
    (recordStore docs damage outcome s).reprint = s.reprint ∧ (recordStore docs damage outcome s).take = s.take ∧
    (recordStore docs damage outcome s).compose = s.compose ∧ (recordStore docs damage outcome s).supply = s.supply ∧
    (recordStore docs damage outcome s).link = s.link ∧ (recordStore docs damage outcome s).faults = s.faults ∧
    (recordStore docs damage outcome s).mem = s.mem ∧ (recordStore docs damage outcome s).draws = s.draws ∧
    (recordStore docs damage outcome s).pending = s.pending := by
  simp only [recordStore]; (repeat' split) <;> simp

@[simp] theorem recordDone_frame (c : DoneChannel) (o : ChannelOutcome) (docs : List Nat) (s : State) :
    (recordDone c o docs s).held = s.held ∧ (recordDone c o docs s).params = s.params ∧
    (recordDone c o docs s).modem = s.modem ∧ (recordDone c o docs s).framer = s.framer ∧
    (recordDone c o docs s).disp = s.disp ∧ (recordDone c o docs s).kbd = s.kbd ∧
    (recordDone c o docs s).comp = s.comp ∧ (recordDone c o docs s).strobe = s.strobe ∧
    (recordDone c o docs s).engine = s.engine ∧ (recordDone c o docs s).head = s.head ∧
    (recordDone c o docs s).store = s.store ∧ (recordDone c o docs s).send = s.send ∧
    (recordDone c o docs s).reprint = s.reprint ∧ (recordDone c o docs s).take = s.take ∧
    (recordDone c o docs s).compose = s.compose ∧ (recordDone c o docs s).supply = s.supply ∧
    (recordDone c o docs s).link = s.link ∧ (recordDone c o docs s).faults = s.faults ∧
    (recordDone c o docs s).mem = s.mem ∧ (recordDone c o docs s).draws = s.draws ∧
    (recordDone c o docs s).pending = s.pending := by
  simp only [recordDone]; (repeat' split) <;> simp

@[simp] theorem recordKeys_frame (refused : Bool) (s : State) :
    (recordKeys refused s).held = s.held ∧ (recordKeys refused s).params = s.params ∧
    (recordKeys refused s).modem = s.modem ∧ (recordKeys refused s).framer = s.framer ∧
    (recordKeys refused s).disp = s.disp ∧ (recordKeys refused s).kbd = s.kbd ∧ (recordKeys refused s).comp = s.comp ∧
    (recordKeys refused s).strobe = s.strobe ∧ (recordKeys refused s).engine = s.engine ∧
    (recordKeys refused s).head = s.head ∧ (recordKeys refused s).store = s.store ∧
    (recordKeys refused s).send = s.send ∧ (recordKeys refused s).reprint = s.reprint ∧
    (recordKeys refused s).take = s.take ∧ (recordKeys refused s).compose = s.compose ∧
    (recordKeys refused s).supply = s.supply ∧ (recordKeys refused s).link = s.link ∧
    (recordKeys refused s).faults = s.faults ∧ (recordKeys refused s).mem = s.mem ∧
    (recordKeys refused s).draws = s.draws ∧ (recordKeys refused s).pending = s.pending := by
  simp only [recordKeys]; (repeat' split) <;> simp

@[simp] theorem recordPower_frame (s : State) :
    (recordPower s).held = s.held ∧ (recordPower s).params = s.params ∧ (recordPower s).modem = s.modem ∧
    (recordPower s).framer = s.framer ∧ (recordPower s).disp = s.disp ∧ (recordPower s).kbd = s.kbd ∧
    (recordPower s).comp = s.comp ∧ (recordPower s).strobe = s.strobe ∧ (recordPower s).engine = s.engine ∧
    (recordPower s).head = s.head ∧ (recordPower s).store = s.store ∧ (recordPower s).send = s.send ∧
    (recordPower s).reprint = s.reprint ∧ (recordPower s).take = s.take ∧ (recordPower s).compose = s.compose ∧
    (recordPower s).supply = s.supply ∧ (recordPower s).link = s.link ∧ (recordPower s).faults = s.faults ∧
    (recordPower s).mem = s.mem ∧ (recordPower s).draws = s.draws ∧ (recordPower s).pending = s.pending := by
  simp only [recordPower]; (repeat' split) <;> simp

@[simp] theorem recordFault_frame (k : FaultKind) (d : FaultDetail) (s : State) :
    (recordFault k d s).held = s.held ∧ (recordFault k d s).params = s.params ∧ (recordFault k d s).modem = s.modem ∧
    (recordFault k d s).framer = s.framer ∧ (recordFault k d s).disp = s.disp ∧ (recordFault k d s).kbd = s.kbd ∧
    (recordFault k d s).comp = s.comp ∧ (recordFault k d s).strobe = s.strobe ∧
    (recordFault k d s).engine = s.engine ∧ (recordFault k d s).head = s.head ∧ (recordFault k d s).store = s.store ∧
    (recordFault k d s).send = s.send ∧ (recordFault k d s).reprint = s.reprint ∧ (recordFault k d s).take = s.take ∧
    (recordFault k d s).compose = s.compose ∧ (recordFault k d s).supply = s.supply ∧
    (recordFault k d s).link = s.link ∧ (recordFault k d s).mem = s.mem ∧ (recordFault k d s).draws = s.draws ∧
    (recordFault k d s).pending = s.pending := by
  simp only [recordFault]; (repeat' split) <;> simp

@[simp] theorem writeBlock_frame (block : Nat) (image : List Byte) (s : State) :
    (writeBlock block image s).held = s.held ∧ (writeBlock block image s).params = s.params ∧
    (writeBlock block image s).modem = s.modem ∧ (writeBlock block image s).framer = s.framer ∧
    (writeBlock block image s).disp = s.disp ∧ (writeBlock block image s).kbd = s.kbd ∧
    (writeBlock block image s).comp = s.comp ∧ (writeBlock block image s).strobe = s.strobe ∧
    (writeBlock block image s).engine = s.engine ∧ (writeBlock block image s).head = s.head ∧
    (writeBlock block image s).store = s.store ∧ (writeBlock block image s).send = s.send ∧
    (writeBlock block image s).reprint = s.reprint ∧ (writeBlock block image s).take = s.take ∧
    (writeBlock block image s).compose = s.compose ∧ (writeBlock block image s).supply = s.supply ∧
    (writeBlock block image s).link = s.link ∧ (writeBlock block image s).reports = s.reports ∧
    (writeBlock block image s).faults = s.faults ∧ (writeBlock block image s).draws = s.draws ∧
    (writeBlock block image s).pending = s.pending := by
  simp [writeBlock]

@[simp] theorem spoilBlock_frame (block : Nat) (s : State) :
    (spoilBlock block s).held = s.held ∧ (spoilBlock block s).params = s.params ∧
    (spoilBlock block s).modem = s.modem ∧ (spoilBlock block s).framer = s.framer ∧
    (spoilBlock block s).disp = s.disp ∧ (spoilBlock block s).kbd = s.kbd ∧ (spoilBlock block s).comp = s.comp ∧
    (spoilBlock block s).strobe = s.strobe ∧ (spoilBlock block s).engine = s.engine ∧
    (spoilBlock block s).head = s.head ∧ (spoilBlock block s).store = s.store ∧ (spoilBlock block s).send = s.send ∧
    (spoilBlock block s).reprint = s.reprint ∧ (spoilBlock block s).take = s.take ∧
    (spoilBlock block s).compose = s.compose ∧ (spoilBlock block s).supply = s.supply ∧
    (spoilBlock block s).link = s.link ∧ (spoilBlock block s).reports = s.reports ∧
    (spoilBlock block s).faults = s.faults ∧ (spoilBlock block s).pending = s.pending := by
  simp [spoilBlock]

@[simp] theorem abandonWrite_frame (s : State) :
    (abandonWrite s).held = s.held ∧ (abandonWrite s).params = s.params ∧ (abandonWrite s).modem = s.modem ∧
    (abandonWrite s).framer = s.framer ∧ (abandonWrite s).disp = s.disp ∧ (abandonWrite s).kbd = s.kbd ∧
    (abandonWrite s).comp = s.comp ∧ (abandonWrite s).strobe = s.strobe ∧ (abandonWrite s).engine = s.engine ∧
    (abandonWrite s).head = s.head ∧ (abandonWrite s).store = s.store ∧ (abandonWrite s).send = s.send ∧
    (abandonWrite s).reprint = s.reprint ∧ (abandonWrite s).take = s.take ∧ (abandonWrite s).compose = s.compose ∧
    (abandonWrite s).supply = s.supply ∧ (abandonWrite s).link = s.link ∧ (abandonWrite s).reports = s.reports ∧
    (abandonWrite s).faults = s.faults ∧ (abandonWrite s).pending = s.pending := by
  simp only [abandonWrite]; (repeat' split) <;> simp

@[simp] theorem resetPart_frame (cause : ResetCause) (s : State) :
    (resetPart cause s).supply = s.supply ∧ (resetPart cause s).pending = s.pending := by
  simp [resetPart]

@[simp] theorem judgePower_frame (v : Nat) (s : State) :
    (judgePower v s).held = s.held ∧ (judgePower v s).params = s.params ∧ (judgePower v s).modem = s.modem ∧
    (judgePower v s).framer = s.framer ∧ (judgePower v s).disp = s.disp ∧ (judgePower v s).kbd = s.kbd ∧
    (judgePower v s).comp = s.comp ∧ (judgePower v s).strobe = s.strobe ∧ (judgePower v s).engine = s.engine ∧
    (judgePower v s).head = s.head ∧ (judgePower v s).store = s.store ∧ (judgePower v s).send = s.send ∧
    (judgePower v s).reprint = s.reprint ∧ (judgePower v s).take = s.take ∧ (judgePower v s).compose = s.compose ∧
    (judgePower v s).link = s.link ∧ (judgePower v s).faults = s.faults ∧ (judgePower v s).mem = s.mem ∧
    (judgePower v s).draws = s.draws ∧ (judgePower v s).pending = s.pending := by
  simp only [judgePower]; (repeat' split) <;> simp

@[simp] theorem holdDoc_frame (n : Nat) (st : DocState) (s : State) :
    (holdDoc n st s).held = s.held ∧ (holdDoc n st s).params = s.params ∧ (holdDoc n st s).modem = s.modem ∧
    (holdDoc n st s).framer = s.framer ∧ (holdDoc n st s).disp = s.disp ∧ (holdDoc n st s).kbd = s.kbd ∧
    (holdDoc n st s).comp = s.comp ∧ (holdDoc n st s).strobe = s.strobe ∧ (holdDoc n st s).engine = s.engine ∧
    (holdDoc n st s).head = s.head ∧ (holdDoc n st s).store.state = s.store.state ∧
    (holdDoc n st s).store.mountNext = s.store.mountNext ∧ (holdDoc n st s).store.formatNext = s.store.formatNext ∧
    (holdDoc n st s).store.free = s.store.free ∧ (holdDoc n st s).store.bad = s.store.bad ∧
    (holdDoc n st s).store.sectors = s.store.sectors ∧ (holdDoc n st s).store.inFlight = s.store.inFlight ∧
    (holdDoc n st s).store.jobs = s.store.jobs ∧ (holdDoc n st s).store.patrolPos = s.store.patrolPos ∧
    (holdDoc n st s).store.patrolTimer = s.store.patrolTimer ∧
    (holdDoc n st s).store.patrolRead = s.store.patrolRead ∧ (holdDoc n st s).store.linkRead = s.store.linkRead ∧
    (holdDoc n st s).send = s.send ∧ (holdDoc n st s).reprint = s.reprint ∧ (holdDoc n st s).take = s.take ∧
    (holdDoc n st s).compose = s.compose ∧ (holdDoc n st s).supply = s.supply ∧ (holdDoc n st s).link = s.link ∧
    (holdDoc n st s).reports = s.reports ∧ (holdDoc n st s).faults = s.faults ∧ (holdDoc n st s).mem = s.mem ∧
    (holdDoc n st s).draws = s.draws ∧ (holdDoc n st s).pending = s.pending := by
  simp [holdDoc]

@[simp] theorem closeDoc_frame (n : Nat) (f : DocFlags → DocFlags) (s : State) :
    (closeDoc n f s).held = s.held ∧ (closeDoc n f s).params = s.params ∧ (closeDoc n f s).modem = s.modem ∧
    (closeDoc n f s).framer = s.framer ∧ (closeDoc n f s).disp = s.disp ∧ (closeDoc n f s).kbd = s.kbd ∧
    (closeDoc n f s).comp = s.comp ∧ (closeDoc n f s).strobe = s.strobe ∧ (closeDoc n f s).engine = s.engine ∧
    (closeDoc n f s).head = s.head ∧ (closeDoc n f s).store.state = s.store.state ∧
    (closeDoc n f s).store.mountNext = s.store.mountNext ∧ (closeDoc n f s).store.formatNext = s.store.formatNext ∧
    (closeDoc n f s).store.free = s.store.free ∧ (closeDoc n f s).store.bad = s.store.bad ∧
    (closeDoc n f s).store.sectors = s.store.sectors ∧ (closeDoc n f s).store.inFlight = s.store.inFlight ∧
    (closeDoc n f s).store.jobs = s.store.jobs ∧ (closeDoc n f s).store.patrolPos = s.store.patrolPos ∧
    (closeDoc n f s).store.patrolTimer = s.store.patrolTimer ∧
    (closeDoc n f s).store.patrolRead = s.store.patrolRead ∧ (closeDoc n f s).store.linkRead = s.store.linkRead ∧
    (closeDoc n f s).send = s.send ∧ (closeDoc n f s).reprint = s.reprint ∧ (closeDoc n f s).take = s.take ∧
    (closeDoc n f s).compose = s.compose ∧ (closeDoc n f s).supply = s.supply ∧ (closeDoc n f s).link = s.link ∧
    (closeDoc n f s).faults = s.faults ∧ (closeDoc n f s).mem = s.mem ∧ (closeDoc n f s).draws = s.draws ∧
    (closeDoc n f s).pending = s.pending := by
  simp [closeDoc]

@[simp] theorem damageDoc_frame (n : Nat) (s : State) :
    (damageDoc n s).held = s.held ∧ (damageDoc n s).params = s.params ∧ (damageDoc n s).modem = s.modem ∧
    (damageDoc n s).framer = s.framer ∧ (damageDoc n s).disp = s.disp ∧ (damageDoc n s).kbd = s.kbd ∧
    (damageDoc n s).comp = s.comp ∧ (damageDoc n s).strobe = s.strobe ∧ (damageDoc n s).engine = s.engine ∧
    (damageDoc n s).head = s.head ∧ (damageDoc n s).store.state = s.store.state ∧
    (damageDoc n s).store.mountNext = s.store.mountNext ∧ (damageDoc n s).store.formatNext = s.store.formatNext ∧
    (damageDoc n s).store.free = s.store.free ∧ (damageDoc n s).store.bad = s.store.bad ∧
    (damageDoc n s).store.sectors = s.store.sectors ∧ (damageDoc n s).store.inFlight = s.store.inFlight ∧
    (damageDoc n s).store.jobs = s.store.jobs ∧ (damageDoc n s).store.patrolPos = s.store.patrolPos ∧
    (damageDoc n s).store.patrolTimer = s.store.patrolTimer ∧ (damageDoc n s).store.patrolRead = s.store.patrolRead ∧
    (damageDoc n s).store.linkRead = s.store.linkRead ∧ (damageDoc n s).send = s.send ∧
    (damageDoc n s).reprint = s.reprint ∧ (damageDoc n s).take = s.take ∧ (damageDoc n s).compose = s.compose ∧
    (damageDoc n s).supply = s.supply ∧ (damageDoc n s).link = s.link ∧ (damageDoc n s).faults = s.faults ∧
    (damageDoc n s).mem = s.mem ∧ (damageDoc n s).draws = s.draws ∧ (damageDoc n s).pending = s.pending := by
  simp only [damageDoc]; (repeat' split) <;> simp

@[simp] theorem emptiedDoc_frame (n : Nat) (st : DocState) (s : State) :
    (emptiedDoc n st s).held = s.held ∧ (emptiedDoc n st s).params = s.params ∧ (emptiedDoc n st s).modem = s.modem ∧
    (emptiedDoc n st s).framer = s.framer ∧ (emptiedDoc n st s).disp = s.disp ∧ (emptiedDoc n st s).kbd = s.kbd ∧
    (emptiedDoc n st s).comp = s.comp ∧ (emptiedDoc n st s).strobe = s.strobe ∧
    (emptiedDoc n st s).engine = s.engine ∧ (emptiedDoc n st s).head = s.head ∧
    (emptiedDoc n st s).store.state = s.store.state ∧ (emptiedDoc n st s).store.mountNext = s.store.mountNext ∧
    (emptiedDoc n st s).store.formatNext = s.store.formatNext ∧ (emptiedDoc n st s).store.free = s.store.free ∧
    (emptiedDoc n st s).store.bad = s.store.bad ∧ (emptiedDoc n st s).store.sectors = s.store.sectors ∧
    (emptiedDoc n st s).store.inFlight = s.store.inFlight ∧ (emptiedDoc n st s).store.jobs = s.store.jobs ∧
    (emptiedDoc n st s).store.patrolPos = s.store.patrolPos ∧
    (emptiedDoc n st s).store.patrolTimer = s.store.patrolTimer ∧
    (emptiedDoc n st s).store.patrolRead = s.store.patrolRead ∧
    (emptiedDoc n st s).store.linkRead = s.store.linkRead ∧ (emptiedDoc n st s).send = s.send ∧
    (emptiedDoc n st s).reprint = s.reprint ∧ (emptiedDoc n st s).take = s.take ∧
    (emptiedDoc n st s).compose = s.compose ∧ (emptiedDoc n st s).supply = s.supply ∧
    (emptiedDoc n st s).link = s.link ∧ (emptiedDoc n st s).faults = s.faults ∧ (emptiedDoc n st s).mem = s.mem ∧
    (emptiedDoc n st s).draws = s.draws ∧ (emptiedDoc n st s).pending = s.pending := by
  simp [emptiedDoc]

@[simp] theorem dropStray_frame (b : Nat) (s : State) :
    (dropStray b s).held = s.held ∧ (dropStray b s).params = s.params ∧ (dropStray b s).modem = s.modem ∧
    (dropStray b s).framer = s.framer ∧ (dropStray b s).disp = s.disp ∧ (dropStray b s).kbd = s.kbd ∧
    (dropStray b s).comp = s.comp ∧ (dropStray b s).strobe = s.strobe ∧ (dropStray b s).engine = s.engine ∧
    (dropStray b s).head = s.head ∧ (dropStray b s).store.state = s.store.state ∧
    (dropStray b s).store.mountNext = s.store.mountNext ∧ (dropStray b s).store.formatNext = s.store.formatNext ∧
    (dropStray b s).store.free = s.store.free ∧ (dropStray b s).store.bad = s.store.bad ∧
    (dropStray b s).store.sectors = s.store.sectors ∧ (dropStray b s).store.inFlight = s.store.inFlight ∧
    (dropStray b s).store.jobs = s.store.jobs ∧ (dropStray b s).store.patrolPos = s.store.patrolPos ∧
    (dropStray b s).store.patrolTimer = s.store.patrolTimer ∧ (dropStray b s).store.patrolRead = s.store.patrolRead ∧
    (dropStray b s).store.linkRead = s.store.linkRead ∧ (dropStray b s).send = s.send ∧
    (dropStray b s).reprint = s.reprint ∧ (dropStray b s).take = s.take ∧ (dropStray b s).compose = s.compose ∧
    (dropStray b s).supply = s.supply ∧ (dropStray b s).link = s.link ∧ (dropStray b s).reports = s.reports ∧
    (dropStray b s).faults = s.faults ∧ (dropStray b s).mem = s.mem ∧ (dropStray b s).draws = s.draws ∧
    (dropStray b s).pending = s.pending := by
  simp [dropStray]

@[simp] theorem dropListed_frame (b : Nat) (s : State) :
    (dropListed b s).held = s.held ∧ (dropListed b s).params = s.params ∧ (dropListed b s).modem = s.modem ∧
    (dropListed b s).framer = s.framer ∧ (dropListed b s).disp = s.disp ∧ (dropListed b s).kbd = s.kbd ∧
    (dropListed b s).comp = s.comp ∧ (dropListed b s).strobe = s.strobe ∧ (dropListed b s).engine = s.engine ∧
    (dropListed b s).head = s.head ∧ (dropListed b s).store.state = s.store.state ∧
    (dropListed b s).store.mountNext = s.store.mountNext ∧ (dropListed b s).store.formatNext = s.store.formatNext ∧
    (dropListed b s).store.free = s.store.free ∧ (dropListed b s).store.bad = s.store.bad ∧
    (dropListed b s).store.sectors = s.store.sectors ∧ (dropListed b s).store.inFlight = s.store.inFlight ∧
    (dropListed b s).store.jobs = s.store.jobs ∧ (dropListed b s).store.patrolPos = s.store.patrolPos ∧
    (dropListed b s).store.patrolTimer = s.store.patrolTimer ∧
    (dropListed b s).store.patrolRead = s.store.patrolRead ∧ (dropListed b s).store.linkRead = s.store.linkRead ∧
    (dropListed b s).send = s.send ∧ (dropListed b s).reprint = s.reprint ∧ (dropListed b s).take = s.take ∧
    (dropListed b s).compose = s.compose ∧ (dropListed b s).supply = s.supply ∧ (dropListed b s).link = s.link ∧
    (dropListed b s).reports = s.reports ∧ (dropListed b s).faults = s.faults ∧ (dropListed b s).mem = s.mem ∧
    (dropListed b s).draws = s.draws ∧ (dropListed b s).pending = s.pending := by
  simp [dropListed]

@[simp] theorem joinFree_frame (b : Nat) (s : State) :
    (joinFree b s).held = s.held ∧ (joinFree b s).params = s.params ∧ (joinFree b s).modem = s.modem ∧
    (joinFree b s).framer = s.framer ∧ (joinFree b s).disp = s.disp ∧ (joinFree b s).kbd = s.kbd ∧
    (joinFree b s).comp = s.comp ∧ (joinFree b s).strobe = s.strobe ∧ (joinFree b s).engine = s.engine ∧
    (joinFree b s).head = s.head ∧ (joinFree b s).store.state = s.store.state ∧
    (joinFree b s).store.mountNext = s.store.mountNext ∧ (joinFree b s).store.formatNext = s.store.formatNext ∧
    (joinFree b s).store.dir = s.store.dir ∧ (joinFree b s).store.bad = s.store.bad ∧
    (joinFree b s).store.sectors = s.store.sectors ∧ (joinFree b s).store.inFlight = s.store.inFlight ∧
    (joinFree b s).store.jobs = s.store.jobs ∧ (joinFree b s).store.patrolPos = s.store.patrolPos ∧
    (joinFree b s).store.patrolTimer = s.store.patrolTimer ∧ (joinFree b s).store.patrolRead = s.store.patrolRead ∧
    (joinFree b s).store.linkRead = s.store.linkRead ∧ (joinFree b s).send = s.send ∧
    (joinFree b s).reprint = s.reprint ∧ (joinFree b s).take = s.take ∧ (joinFree b s).compose = s.compose ∧
    (joinFree b s).supply = s.supply ∧ (joinFree b s).link = s.link ∧ (joinFree b s).reports = s.reports ∧
    (joinFree b s).faults = s.faults ∧ (joinFree b s).mem = s.mem ∧ (joinFree b s).draws = s.draws ∧
    (joinFree b s).pending = s.pending := by
  simp [joinFree]

@[simp] theorem leaveFree_frame (b : Nat) (s : State) :
    (leaveFree b s).held = s.held ∧ (leaveFree b s).params = s.params ∧ (leaveFree b s).modem = s.modem ∧
    (leaveFree b s).framer = s.framer ∧ (leaveFree b s).disp = s.disp ∧ (leaveFree b s).kbd = s.kbd ∧
    (leaveFree b s).comp = s.comp ∧ (leaveFree b s).strobe = s.strobe ∧ (leaveFree b s).engine = s.engine ∧
    (leaveFree b s).head = s.head ∧ (leaveFree b s).store.state = s.store.state ∧
    (leaveFree b s).store.mountNext = s.store.mountNext ∧ (leaveFree b s).store.formatNext = s.store.formatNext ∧
    (leaveFree b s).store.dir = s.store.dir ∧ (leaveFree b s).store.bad = s.store.bad ∧
    (leaveFree b s).store.sectors = s.store.sectors ∧ (leaveFree b s).store.inFlight = s.store.inFlight ∧
    (leaveFree b s).store.jobs = s.store.jobs ∧ (leaveFree b s).store.patrolPos = s.store.patrolPos ∧
    (leaveFree b s).store.patrolTimer = s.store.patrolTimer ∧ (leaveFree b s).store.patrolRead = s.store.patrolRead ∧
    (leaveFree b s).store.linkRead = s.store.linkRead ∧ (leaveFree b s).send = s.send ∧
    (leaveFree b s).reprint = s.reprint ∧ (leaveFree b s).take = s.take ∧ (leaveFree b s).compose = s.compose ∧
    (leaveFree b s).supply = s.supply ∧ (leaveFree b s).link = s.link ∧ (leaveFree b s).reports = s.reports ∧
    (leaveFree b s).faults = s.faults ∧ (leaveFree b s).mem = s.mem ∧ (leaveFree b s).draws = s.draws ∧
    (leaveFree b s).pending = s.pending := by
  simp [leaveFree]

@[simp] theorem joinBad_frame (b : Nat) (s : State) :
    (joinBad b s).held = s.held ∧ (joinBad b s).params = s.params ∧ (joinBad b s).modem = s.modem ∧
    (joinBad b s).framer = s.framer ∧ (joinBad b s).disp = s.disp ∧ (joinBad b s).kbd = s.kbd ∧
    (joinBad b s).comp = s.comp ∧ (joinBad b s).strobe = s.strobe ∧ (joinBad b s).engine = s.engine ∧
    (joinBad b s).head = s.head ∧ (joinBad b s).store.state = s.store.state ∧
    (joinBad b s).store.mountNext = s.store.mountNext ∧ (joinBad b s).store.formatNext = s.store.formatNext ∧
    (joinBad b s).store.sectors = s.store.sectors ∧ (joinBad b s).store.inFlight = s.store.inFlight ∧
    (joinBad b s).store.jobs = s.store.jobs ∧ (joinBad b s).store.patrolPos = s.store.patrolPos ∧
    (joinBad b s).store.patrolTimer = s.store.patrolTimer ∧ (joinBad b s).store.patrolRead = s.store.patrolRead ∧
    (joinBad b s).store.linkRead = s.store.linkRead ∧ (joinBad b s).send = s.send ∧
    (joinBad b s).reprint = s.reprint ∧ (joinBad b s).take = s.take ∧ (joinBad b s).compose = s.compose ∧
    (joinBad b s).supply = s.supply ∧ (joinBad b s).link = s.link ∧ (joinBad b s).reports = s.reports ∧
    (joinBad b s).faults = s.faults ∧ (joinBad b s).mem = s.mem ∧ (joinBad b s).draws = s.draws ∧
    (joinBad b s).pending = s.pending := by
  simp [joinBad]

@[simp] theorem joinList_frame (n : Nat) (r : BlockRef) (s : State) :
    (joinList n r s).held = s.held ∧ (joinList n r s).params = s.params ∧ (joinList n r s).modem = s.modem ∧
    (joinList n r s).framer = s.framer ∧ (joinList n r s).disp = s.disp ∧ (joinList n r s).kbd = s.kbd ∧
    (joinList n r s).comp = s.comp ∧ (joinList n r s).strobe = s.strobe ∧ (joinList n r s).engine = s.engine ∧
    (joinList n r s).head = s.head ∧ (joinList n r s).store.state = s.store.state ∧
    (joinList n r s).store.mountNext = s.store.mountNext ∧ (joinList n r s).store.formatNext = s.store.formatNext ∧
    (joinList n r s).store.bad = s.store.bad ∧ (joinList n r s).store.sectors = s.store.sectors ∧
    (joinList n r s).store.inFlight = s.store.inFlight ∧ (joinList n r s).store.jobs = s.store.jobs ∧
    (joinList n r s).store.patrolPos = s.store.patrolPos ∧ (joinList n r s).store.patrolTimer = s.store.patrolTimer ∧
    (joinList n r s).store.patrolRead = s.store.patrolRead ∧ (joinList n r s).store.linkRead = s.store.linkRead ∧
    (joinList n r s).send = s.send ∧ (joinList n r s).reprint = s.reprint ∧ (joinList n r s).take = s.take ∧
    (joinList n r s).compose = s.compose ∧ (joinList n r s).supply = s.supply ∧ (joinList n r s).link = s.link ∧
    (joinList n r s).reports = s.reports ∧ (joinList n r s).faults = s.faults ∧ (joinList n r s).mem = s.mem ∧
    (joinList n r s).draws = s.draws ∧ (joinList n r s).pending = s.pending := by
  simp [joinList]

@[simp] theorem countSector_frame (b : Nat) (s : State) :
    (countSector b s).held = s.held ∧ (countSector b s).params = s.params ∧ (countSector b s).modem = s.modem ∧
    (countSector b s).framer = s.framer ∧ (countSector b s).disp = s.disp ∧ (countSector b s).kbd = s.kbd ∧
    (countSector b s).comp = s.comp ∧ (countSector b s).strobe = s.strobe ∧ (countSector b s).engine = s.engine ∧
    (countSector b s).head = s.head ∧ (countSector b s).store.state = s.store.state ∧
    (countSector b s).store.mountNext = s.store.mountNext ∧ (countSector b s).store.formatNext = s.store.formatNext ∧
    (countSector b s).store.dir = s.store.dir ∧ (countSector b s).store.free = s.store.free ∧
    (countSector b s).store.bad = s.store.bad ∧ (countSector b s).store.inFlight = s.store.inFlight ∧
    (countSector b s).store.jobs = s.store.jobs ∧ (countSector b s).store.patrolPos = s.store.patrolPos ∧
    (countSector b s).store.patrolTimer = s.store.patrolTimer ∧
    (countSector b s).store.patrolRead = s.store.patrolRead ∧ (countSector b s).store.linkRead = s.store.linkRead ∧
    (countSector b s).send = s.send ∧ (countSector b s).reprint = s.reprint ∧ (countSector b s).take = s.take ∧
    (countSector b s).compose = s.compose ∧ (countSector b s).supply = s.supply ∧ (countSector b s).link = s.link ∧
    (countSector b s).reports = s.reports ∧ (countSector b s).faults = s.faults ∧ (countSector b s).mem = s.mem ∧
    (countSector b s).draws = s.draws ∧ (countSector b s).pending = s.pending := by
  simp [countSector]

@[simp] theorem emptyDirectory_frame (s : State) :
    (emptyDirectory s).held = s.held ∧ (emptyDirectory s).params = s.params ∧ (emptyDirectory s).modem = s.modem ∧
    (emptyDirectory s).framer = s.framer ∧ (emptyDirectory s).disp = s.disp ∧ (emptyDirectory s).kbd = s.kbd ∧
    (emptyDirectory s).comp = s.comp ∧ (emptyDirectory s).strobe = s.strobe ∧ (emptyDirectory s).engine = s.engine ∧
    (emptyDirectory s).head = s.head ∧ (emptyDirectory s).store.state = s.store.state ∧
    (emptyDirectory s).store.mountNext = s.store.mountNext ∧
    (emptyDirectory s).store.formatNext = s.store.formatNext ∧ (emptyDirectory s).store.bad = s.store.bad ∧
    (emptyDirectory s).store.sectors = s.store.sectors ∧ (emptyDirectory s).store.inFlight = s.store.inFlight ∧
    (emptyDirectory s).store.jobs = s.store.jobs ∧ (emptyDirectory s).store.patrolPos = s.store.patrolPos ∧
    (emptyDirectory s).store.patrolTimer = s.store.patrolTimer ∧
    (emptyDirectory s).store.patrolRead = s.store.patrolRead ∧ (emptyDirectory s).store.linkRead = s.store.linkRead ∧
    (emptyDirectory s).send = s.send ∧ (emptyDirectory s).reprint = s.reprint ∧ (emptyDirectory s).take = s.take ∧
    (emptyDirectory s).compose = s.compose ∧ (emptyDirectory s).supply = s.supply ∧ (emptyDirectory s).link = s.link ∧
    (emptyDirectory s).reports = s.reports ∧ (emptyDirectory s).faults = s.faults ∧ (emptyDirectory s).mem = s.mem ∧
    (emptyDirectory s).draws = s.draws ∧ (emptyDirectory s).pending = s.pending := by
  simp [emptyDirectory]

@[simp] theorem beginMount_frame (s : State) :
    (beginMount s).held = s.held ∧ (beginMount s).params = s.params ∧ (beginMount s).modem = s.modem ∧
    (beginMount s).framer = s.framer ∧ (beginMount s).disp = s.disp ∧ (beginMount s).kbd = s.kbd ∧
    (beginMount s).comp = s.comp ∧ (beginMount s).strobe = s.strobe ∧ (beginMount s).engine = s.engine ∧
    (beginMount s).head = s.head ∧ (beginMount s).store.formatNext = s.store.formatNext ∧
    (beginMount s).store.bad = s.store.bad ∧ (beginMount s).store.sectors = s.store.sectors ∧
    (beginMount s).store.inFlight = s.store.inFlight ∧ (beginMount s).store.jobs = s.store.jobs ∧
    (beginMount s).store.patrolRead = s.store.patrolRead ∧ (beginMount s).store.linkRead = s.store.linkRead ∧
    (beginMount s).send = s.send ∧ (beginMount s).reprint = s.reprint ∧ (beginMount s).take = s.take ∧
    (beginMount s).compose = s.compose ∧ (beginMount s).supply = s.supply ∧ (beginMount s).link = s.link ∧
    (beginMount s).reports = s.reports ∧ (beginMount s).faults = s.faults ∧ (beginMount s).mem = s.mem ∧
    (beginMount s).draws = s.draws ∧ (beginMount s).pending = s.pending := by
  simp [beginMount]

@[simp] theorem enterReady_frame (s : State) :
    (enterReady s).held = s.held ∧ (enterReady s).params = s.params ∧ (enterReady s).modem = s.modem ∧
    (enterReady s).framer = s.framer ∧ (enterReady s).disp = s.disp ∧ (enterReady s).kbd = s.kbd ∧
    (enterReady s).comp = s.comp ∧ (enterReady s).strobe = s.strobe ∧ (enterReady s).engine = s.engine ∧
    (enterReady s).head = s.head ∧ (enterReady s).store.mountNext = s.store.mountNext ∧
    (enterReady s).store.formatNext = s.store.formatNext ∧ (enterReady s).store.dir = s.store.dir ∧
    (enterReady s).store.free = s.store.free ∧ (enterReady s).store.bad = s.store.bad ∧
    (enterReady s).store.sectors = s.store.sectors ∧ (enterReady s).store.inFlight = s.store.inFlight ∧
    (enterReady s).store.jobs = s.store.jobs ∧ (enterReady s).store.patrolPos = s.store.patrolPos ∧
    (enterReady s).store.patrolRead = s.store.patrolRead ∧ (enterReady s).store.linkRead = s.store.linkRead ∧
    (enterReady s).send = s.send ∧ (enterReady s).reprint = s.reprint ∧ (enterReady s).take = s.take ∧
    (enterReady s).compose = s.compose ∧ (enterReady s).supply = s.supply ∧ (enterReady s).link = s.link ∧
    (enterReady s).reports = s.reports ∧ (enterReady s).faults = s.faults ∧ (enterReady s).mem = s.mem ∧
    (enterReady s).draws = s.draws ∧ (enterReady s).pending = s.pending := by
  simp only [enterReady]; (repeat' split) <;> simp

@[simp] theorem withdrawPatrol_frame (s : State) :
    (withdrawPatrol s).held = s.held ∧ (withdrawPatrol s).params = s.params ∧ (withdrawPatrol s).modem = s.modem ∧
    (withdrawPatrol s).framer = s.framer ∧ (withdrawPatrol s).disp = s.disp ∧ (withdrawPatrol s).kbd = s.kbd ∧
    (withdrawPatrol s).comp = s.comp ∧ (withdrawPatrol s).strobe = s.strobe ∧ (withdrawPatrol s).engine = s.engine ∧
    (withdrawPatrol s).head = s.head ∧ (withdrawPatrol s).store.state = s.store.state ∧
    (withdrawPatrol s).store.mountNext = s.store.mountNext ∧
    (withdrawPatrol s).store.formatNext = s.store.formatNext ∧ (withdrawPatrol s).store.dir = s.store.dir ∧
    (withdrawPatrol s).store.free = s.store.free ∧ (withdrawPatrol s).store.bad = s.store.bad ∧
    (withdrawPatrol s).store.sectors = s.store.sectors ∧ (withdrawPatrol s).store.inFlight = s.store.inFlight ∧
    (withdrawPatrol s).store.jobs = s.store.jobs ∧ (withdrawPatrol s).store.patrolPos = s.store.patrolPos ∧
    (withdrawPatrol s).store.patrolTimer = s.store.patrolTimer ∧
    (withdrawPatrol s).store.linkRead = s.store.linkRead ∧ (withdrawPatrol s).send = s.send ∧
    (withdrawPatrol s).reprint = s.reprint ∧ (withdrawPatrol s).take = s.take ∧
    (withdrawPatrol s).compose = s.compose ∧ (withdrawPatrol s).supply = s.supply ∧ (withdrawPatrol s).link = s.link ∧
    (withdrawPatrol s).reports = s.reports ∧ (withdrawPatrol s).faults = s.faults ∧ (withdrawPatrol s).mem = s.mem ∧
    (withdrawPatrol s).draws = s.draws ∧ (withdrawPatrol s).pending = s.pending := by
  simp only [withdrawPatrol]; (repeat' split) <;> simp

@[simp] theorem discardRead_frame (c : PortClaimant) (s : State) :
    (discardRead c s).held = s.held ∧ (discardRead c s).params = s.params ∧ (discardRead c s).modem = s.modem ∧
    (discardRead c s).framer = s.framer ∧ (discardRead c s).disp = s.disp ∧ (discardRead c s).kbd = s.kbd ∧
    (discardRead c s).comp = s.comp ∧ (discardRead c s).strobe = s.strobe ∧ (discardRead c s).engine = s.engine ∧
    (discardRead c s).head = s.head ∧ (discardRead c s).store.state = s.store.state ∧
    (discardRead c s).store.mountNext = s.store.mountNext ∧ (discardRead c s).store.formatNext = s.store.formatNext ∧
    (discardRead c s).store.dir = s.store.dir ∧ (discardRead c s).store.free = s.store.free ∧
    (discardRead c s).store.bad = s.store.bad ∧ (discardRead c s).store.sectors = s.store.sectors ∧
    (discardRead c s).store.jobs = s.store.jobs ∧ (discardRead c s).store.patrolPos = s.store.patrolPos ∧
    (discardRead c s).store.patrolTimer = s.store.patrolTimer ∧
    (discardRead c s).store.patrolRead = s.store.patrolRead ∧ (discardRead c s).store.linkRead = s.store.linkRead ∧
    (discardRead c s).send = s.send ∧ (discardRead c s).reprint = s.reprint ∧ (discardRead c s).take = s.take ∧
    (discardRead c s).compose = s.compose ∧ (discardRead c s).supply = s.supply ∧ (discardRead c s).link = s.link ∧
    (discardRead c s).reports = s.reports ∧ (discardRead c s).faults = s.faults ∧ (discardRead c s).mem = s.mem ∧
    (discardRead c s).draws = s.draws ∧ (discardRead c s).pending = s.pending := by
  simp only [discardRead]; (repeat' split) <;> simp

@[simp] theorem takeAccept_frame (n : Nat) (s : State) :
    (takeAccept n s).held = s.held ∧ (takeAccept n s).params = s.params ∧ (takeAccept n s).modem = s.modem ∧
    (takeAccept n s).framer = s.framer ∧ (takeAccept n s).disp = s.disp ∧ (takeAccept n s).kbd = s.kbd ∧
    (takeAccept n s).comp = s.comp ∧ (takeAccept n s).strobe = s.strobe ∧ (takeAccept n s).engine = s.engine ∧
    (takeAccept n s).head = s.head ∧ (takeAccept n s).store.state = s.store.state ∧
    (takeAccept n s).store.mountNext = s.store.mountNext ∧ (takeAccept n s).store.formatNext = s.store.formatNext ∧
    (takeAccept n s).store.free = s.store.free ∧ (takeAccept n s).store.bad = s.store.bad ∧
    (takeAccept n s).store.sectors = s.store.sectors ∧ (takeAccept n s).store.inFlight = s.store.inFlight ∧
    (takeAccept n s).store.patrolPos = s.store.patrolPos ∧ (takeAccept n s).store.patrolTimer = s.store.patrolTimer ∧
    (takeAccept n s).store.patrolRead = s.store.patrolRead ∧ (takeAccept n s).store.linkRead = s.store.linkRead ∧
    (takeAccept n s).send = s.send ∧ (takeAccept n s).reprint = s.reprint ∧ (takeAccept n s).compose = s.compose ∧
    (takeAccept n s).supply = s.supply ∧ (takeAccept n s).link = s.link ∧ (takeAccept n s).reports = s.reports ∧
    (takeAccept n s).faults = s.faults ∧ (takeAccept n s).mem = s.mem ∧ (takeAccept n s).draws = s.draws ∧
    (takeAccept n s).pending = s.pending := by
  simp only [takeAccept]; (repeat' split) <;> simp

@[simp] theorem takeEnd_frame (incomplete : Bool) (outcome : ChannelOutcome) (s : State) :
    (takeEnd incomplete outcome s).held = s.held ∧ (takeEnd incomplete outcome s).params = s.params ∧
    (takeEnd incomplete outcome s).modem = s.modem ∧ (takeEnd incomplete outcome s).framer = s.framer ∧
    (takeEnd incomplete outcome s).disp = s.disp ∧ (takeEnd incomplete outcome s).kbd = s.kbd ∧
    (takeEnd incomplete outcome s).comp = s.comp ∧ (takeEnd incomplete outcome s).strobe = s.strobe ∧
    (takeEnd incomplete outcome s).engine = s.engine ∧ (takeEnd incomplete outcome s).head = s.head ∧
    (takeEnd incomplete outcome s).store = s.store ∧ (takeEnd incomplete outcome s).send = s.send ∧
    (takeEnd incomplete outcome s).reprint = s.reprint ∧ (takeEnd incomplete outcome s).compose = s.compose ∧
    (takeEnd incomplete outcome s).supply = s.supply ∧ (takeEnd incomplete outcome s).link = s.link ∧
    (takeEnd incomplete outcome s).reports = s.reports ∧ (takeEnd incomplete outcome s).faults = s.faults ∧
    (takeEnd incomplete outcome s).mem = s.mem ∧ (takeEnd incomplete outcome s).draws = s.draws ∧
    (takeEnd incomplete outcome s).pending = s.pending := by
  simp only [takeEnd]; (repeat' split) <;> simp

@[simp] theorem takeHead_frame (n : Nat) (e : Entry) (s : State) :
    (takeHead n e s).held = s.held ∧ (takeHead n e s).params = s.params ∧ (takeHead n e s).modem = s.modem ∧
    (takeHead n e s).framer = s.framer ∧ (takeHead n e s).disp = s.disp ∧ (takeHead n e s).kbd = s.kbd ∧
    (takeHead n e s).comp = s.comp ∧ (takeHead n e s).strobe = s.strobe ∧ (takeHead n e s).engine = s.engine ∧
    (takeHead n e s).head = s.head ∧ (takeHead n e s).store = s.store ∧ (takeHead n e s).send = s.send ∧
    (takeHead n e s).reprint = s.reprint ∧ (takeHead n e s).compose = s.compose ∧ (takeHead n e s).supply = s.supply ∧
    (takeHead n e s).link = s.link ∧ (takeHead n e s).reports = s.reports ∧ (takeHead n e s).faults = s.faults ∧
    (takeHead n e s).mem = s.mem ∧ (takeHead n e s).draws = s.draws ∧ (takeHead n e s).pending = s.pending := by
  simp only [takeHead]; (repeat' split) <;> simp

@[simp] theorem takeSettle_frame (s : State) :
    (takeSettle s).held = s.held ∧ (takeSettle s).params = s.params ∧ (takeSettle s).modem = s.modem ∧
    (takeSettle s).framer = s.framer ∧ (takeSettle s).disp = s.disp ∧ (takeSettle s).kbd = s.kbd ∧
    (takeSettle s).comp = s.comp ∧ (takeSettle s).strobe = s.strobe ∧ (takeSettle s).engine = s.engine ∧
    (takeSettle s).head = s.head ∧ (takeSettle s).store = s.store ∧ (takeSettle s).send = s.send ∧
    (takeSettle s).reprint = s.reprint ∧ (takeSettle s).compose = s.compose ∧ (takeSettle s).supply = s.supply ∧
    (takeSettle s).link = s.link ∧ (takeSettle s).reports = s.reports ∧ (takeSettle s).faults = s.faults ∧
    (takeSettle s).mem = s.mem ∧ (takeSettle s).draws = s.draws ∧ (takeSettle s).pending = s.pending := by
  simp [takeSettle]

@[simp] theorem takeForget_frame (n : Nat) (s : State) :
    (takeForget n s).held = s.held ∧ (takeForget n s).params = s.params ∧ (takeForget n s).modem = s.modem ∧
    (takeForget n s).framer = s.framer ∧ (takeForget n s).disp = s.disp ∧ (takeForget n s).kbd = s.kbd ∧
    (takeForget n s).comp = s.comp ∧ (takeForget n s).strobe = s.strobe ∧ (takeForget n s).engine = s.engine ∧
    (takeForget n s).head = s.head ∧ (takeForget n s).store = s.store ∧ (takeForget n s).send = s.send ∧
    (takeForget n s).reprint = s.reprint ∧ (takeForget n s).compose = s.compose ∧ (takeForget n s).supply = s.supply ∧
    (takeForget n s).link = s.link ∧ (takeForget n s).reports = s.reports ∧ (takeForget n s).faults = s.faults ∧
    (takeForget n s).mem = s.mem ∧ (takeForget n s).draws = s.draws ∧ (takeForget n s).pending = s.pending := by
  simp [takeForget]

@[simp] theorem takeWriteDone_frame (w : DataWrite) (s : State) :
    (takeWriteDone w s).held = s.held ∧ (takeWriteDone w s).params = s.params ∧ (takeWriteDone w s).modem = s.modem ∧
    (takeWriteDone w s).framer = s.framer ∧ (takeWriteDone w s).disp = s.disp ∧ (takeWriteDone w s).kbd = s.kbd ∧
    (takeWriteDone w s).comp = s.comp ∧ (takeWriteDone w s).strobe = s.strobe ∧
    (takeWriteDone w s).engine = s.engine ∧ (takeWriteDone w s).head = s.head ∧
    (takeWriteDone w s).store.state = s.store.state ∧ (takeWriteDone w s).store.mountNext = s.store.mountNext ∧
    (takeWriteDone w s).store.formatNext = s.store.formatNext ∧ (takeWriteDone w s).store.free = s.store.free ∧
    (takeWriteDone w s).store.bad = s.store.bad ∧ (takeWriteDone w s).store.sectors = s.store.sectors ∧
    (takeWriteDone w s).store.inFlight = s.store.inFlight ∧ (takeWriteDone w s).store.jobs = s.store.jobs ∧
    (takeWriteDone w s).store.patrolPos = s.store.patrolPos ∧
    (takeWriteDone w s).store.patrolTimer = s.store.patrolTimer ∧
    (takeWriteDone w s).store.patrolRead = s.store.patrolRead ∧
    (takeWriteDone w s).store.linkRead = s.store.linkRead ∧ (takeWriteDone w s).send = s.send ∧
    (takeWriteDone w s).reprint = s.reprint ∧ (takeWriteDone w s).compose = s.compose ∧
    (takeWriteDone w s).supply = s.supply ∧ (takeWriteDone w s).link = s.link ∧
    (takeWriteDone w s).faults = s.faults ∧ (takeWriteDone w s).mem = s.mem ∧ (takeWriteDone w s).draws = s.draws ∧
    (takeWriteDone w s).pending = s.pending := by
  simp only [takeWriteDone]; (repeat' split) <;> simp

end Sys2Proof.Machine
end

