-- ==== Sys2Proof/Laws/FrameLine.lean ====
section
/-! SUPPORT. What each shared operation leaves as it was: the line side and the reading channels.
Each lemma names every field, or part of a field, that the operation does not touch. -/

namespace Sys2Proof.Machine

@[simp] theorem judgeFlow_frame (s : State) :
    (judgeFlow s).held = s.held ∧ (judgeFlow s).params = s.params ∧ (judgeFlow s).modem = s.modem ∧
    (judgeFlow s).framer = s.framer ∧ (judgeFlow s).disp.route = s.disp.route ∧
    (judgeFlow s).disp.headExamined = s.disp.headExamined ∧ (judgeFlow s).disp.record = s.disp.record ∧
    (judgeFlow s).disp.remotePause = s.disp.remotePause ∧ (judgeFlow s).disp.answerback = s.disp.answerback ∧
    (judgeFlow s).disp.progress = s.disp.progress ∧ (judgeFlow s).kbd = s.kbd ∧ (judgeFlow s).comp = s.comp ∧
    (judgeFlow s).strobe = s.strobe ∧ (judgeFlow s).engine = s.engine ∧ (judgeFlow s).head = s.head ∧
    (judgeFlow s).store = s.store ∧ (judgeFlow s).send = s.send ∧ (judgeFlow s).reprint = s.reprint ∧
    (judgeFlow s).take = s.take ∧ (judgeFlow s).compose = s.compose ∧ (judgeFlow s).supply = s.supply ∧
    (judgeFlow s).link = s.link ∧ (judgeFlow s).reports = s.reports ∧ (judgeFlow s).faults = s.faults ∧
    (judgeFlow s).mem = s.mem ∧ (judgeFlow s).draws = s.draws ∧ (judgeFlow s).pending = s.pending := by
  simp only [judgeFlow]; (repeat' split) <;> simp

@[simp] theorem placeEntry_frame (e : Entry) (s : State) :
    (placeEntry e s).held = s.held ∧ (placeEntry e s).params = s.params ∧ (placeEntry e s).modem = s.modem ∧
    (placeEntry e s).framer.sampler = s.framer.sampler ∧ (placeEntry e s).framer.shift = s.framer.shift ∧
    (placeEntry e s).framer.holding = s.framer.holding ∧ (placeEntry e s).framer.brk = s.framer.brk ∧
    (placeEntry e s).framer.linkText = s.framer.linkText ∧ (placeEntry e s).disp.route = s.disp.route ∧
    (placeEntry e s).disp.headExamined = s.disp.headExamined ∧ (placeEntry e s).disp.record = s.disp.record ∧
    (placeEntry e s).disp.remotePause = s.disp.remotePause ∧ (placeEntry e s).disp.answerback = s.disp.answerback ∧
    (placeEntry e s).disp.progress = s.disp.progress ∧ (placeEntry e s).kbd = s.kbd ∧ (placeEntry e s).comp = s.comp ∧
    (placeEntry e s).strobe = s.strobe ∧ (placeEntry e s).engine = s.engine ∧ (placeEntry e s).head = s.head ∧
    (placeEntry e s).store = s.store ∧ (placeEntry e s).send = s.send ∧ (placeEntry e s).reprint = s.reprint ∧
    (placeEntry e s).take = s.take ∧ (placeEntry e s).compose = s.compose ∧ (placeEntry e s).supply = s.supply ∧
    (placeEntry e s).link = s.link ∧ (placeEntry e s).reports = s.reports ∧ (placeEntry e s).faults = s.faults ∧
    (placeEntry e s).mem = s.mem ∧ (placeEntry e s).draws = s.draws ∧ (placeEntry e s).pending = s.pending := by
  simp only [placeEntry]; (repeat' split) <;> simp

@[simp] theorem recoverOverrun_frame (s : State) :
    (recoverOverrun s).held = s.held ∧ (recoverOverrun s).params = s.params ∧ (recoverOverrun s).modem = s.modem ∧
    (recoverOverrun s).framer.sampler = s.framer.sampler ∧ (recoverOverrun s).framer.shift = s.framer.shift ∧
    (recoverOverrun s).framer.holding = s.framer.holding ∧ (recoverOverrun s).framer.brk = s.framer.brk ∧
    (recoverOverrun s).framer.linkText = s.framer.linkText ∧ (recoverOverrun s).disp = s.disp ∧
    (recoverOverrun s).kbd = s.kbd ∧ (recoverOverrun s).comp = s.comp ∧ (recoverOverrun s).strobe = s.strobe ∧
    (recoverOverrun s).engine = s.engine ∧ (recoverOverrun s).head = s.head ∧ (recoverOverrun s).store = s.store ∧
    (recoverOverrun s).send = s.send ∧ (recoverOverrun s).reprint = s.reprint ∧ (recoverOverrun s).take = s.take ∧
    (recoverOverrun s).compose = s.compose ∧ (recoverOverrun s).supply = s.supply ∧ (recoverOverrun s).link = s.link ∧
    (recoverOverrun s).faults = s.faults ∧ (recoverOverrun s).mem = s.mem ∧ (recoverOverrun s).draws = s.draws ∧
    (recoverOverrun s).pending = s.pending := by
  simp only [recoverOverrun]; (repeat' split) <;> simp

@[simp] theorem removeHead_frame (s : State) :
    (removeHead s).held = s.held ∧ (removeHead s).params = s.params ∧ (removeHead s).modem = s.modem ∧
    (removeHead s).framer.sampler = s.framer.sampler ∧ (removeHead s).framer.shift = s.framer.shift ∧
    (removeHead s).framer.holding = s.framer.holding ∧ (removeHead s).framer.brk = s.framer.brk ∧
    (removeHead s).framer.linkText = s.framer.linkText ∧ (removeHead s).disp.route = s.disp.route ∧
    (removeHead s).disp.remotePause = s.disp.remotePause ∧ (removeHead s).disp.answerback = s.disp.answerback ∧
    (removeHead s).disp.progress = s.disp.progress ∧ (removeHead s).kbd = s.kbd ∧ (removeHead s).comp = s.comp ∧
    (removeHead s).strobe = s.strobe ∧ (removeHead s).engine = s.engine ∧ (removeHead s).head = s.head ∧
    (removeHead s).store = s.store ∧ (removeHead s).send = s.send ∧ (removeHead s).reprint = s.reprint ∧
    (removeHead s).take = s.take ∧ (removeHead s).compose = s.compose ∧ (removeHead s).supply = s.supply ∧
    (removeHead s).link = s.link ∧ (removeHead s).faults = s.faults ∧ (removeHead s).mem = s.mem ∧
    (removeHead s).draws = s.draws ∧ (removeHead s).pending = s.pending := by
  simp [removeHead]

@[simp] theorem setRoute_frame (r : Route) (s : State) :
    (setRoute r s).held = s.held ∧ (setRoute r s).params = s.params ∧ (setRoute r s).modem = s.modem ∧
    (setRoute r s).framer = s.framer ∧ (setRoute r s).disp.headExamined = s.disp.headExamined ∧
    (setRoute r s).disp.record = s.disp.record ∧ (setRoute r s).disp.remotePause = s.disp.remotePause ∧
    (setRoute r s).disp.answerback = s.disp.answerback ∧ (setRoute r s).disp.progress = s.disp.progress ∧
    (setRoute r s).kbd = s.kbd ∧ (setRoute r s).comp = s.comp ∧ (setRoute r s).strobe = s.strobe ∧
    (setRoute r s).engine = s.engine ∧ (setRoute r s).head = s.head ∧ (setRoute r s).store = s.store ∧
    (setRoute r s).send = s.send ∧ (setRoute r s).reprint = s.reprint ∧ (setRoute r s).take = s.take ∧
    (setRoute r s).compose = s.compose ∧ (setRoute r s).supply = s.supply ∧ (setRoute r s).link = s.link ∧
    (setRoute r s).reports = s.reports ∧ (setRoute r s).faults = s.faults ∧ (setRoute r s).mem = s.mem ∧
    (setRoute r s).draws = s.draws ∧ (setRoute r s).pending = s.pending := by
  simp [setRoute]

@[simp] theorem joinRecord_frame (k : Sink) (s : State) :
    (joinRecord k s).held = s.held ∧ (joinRecord k s).params = s.params ∧ (joinRecord k s).modem = s.modem ∧
    (joinRecord k s).framer = s.framer ∧ (joinRecord k s).disp.route = s.disp.route ∧
    (joinRecord k s).disp.headExamined = s.disp.headExamined ∧ (joinRecord k s).disp.flow = s.disp.flow ∧
    (joinRecord k s).disp.pendingFlow = s.disp.pendingFlow ∧ (joinRecord k s).disp.remotePause = s.disp.remotePause ∧
    (joinRecord k s).disp.answerback = s.disp.answerback ∧ (joinRecord k s).disp.progress = s.disp.progress ∧
    (joinRecord k s).kbd = s.kbd ∧ (joinRecord k s).comp = s.comp ∧ (joinRecord k s).strobe = s.strobe ∧
    (joinRecord k s).engine = s.engine ∧ (joinRecord k s).head = s.head ∧ (joinRecord k s).store = s.store ∧
    (joinRecord k s).send = s.send ∧ (joinRecord k s).reprint = s.reprint ∧ (joinRecord k s).take = s.take ∧
    (joinRecord k s).compose = s.compose ∧ (joinRecord k s).supply = s.supply ∧ (joinRecord k s).link = s.link ∧
    (joinRecord k s).reports = s.reports ∧ (joinRecord k s).faults = s.faults ∧ (joinRecord k s).mem = s.mem ∧
    (joinRecord k s).draws = s.draws ∧ (joinRecord k s).pending = s.pending := by
  simp [joinRecord]

@[simp] theorem finishHead_frame (s : State) :
    (finishHead s).held = s.held ∧ (finishHead s).params = s.params ∧ (finishHead s).modem = s.modem ∧
    (finishHead s).framer.sampler = s.framer.sampler ∧ (finishHead s).framer.shift = s.framer.shift ∧
    (finishHead s).framer.holding = s.framer.holding ∧ (finishHead s).framer.brk = s.framer.brk ∧
    (finishHead s).framer.linkText = s.framer.linkText ∧ (finishHead s).disp.route = s.disp.route ∧
    (finishHead s).disp.remotePause = s.disp.remotePause ∧ (finishHead s).disp.answerback = s.disp.answerback ∧
    (finishHead s).disp.progress = s.disp.progress ∧ (finishHead s).kbd = s.kbd ∧ (finishHead s).comp = s.comp ∧
    (finishHead s).strobe = s.strobe ∧ (finishHead s).engine = s.engine ∧ (finishHead s).head = s.head ∧
    (finishHead s).store = s.store ∧ (finishHead s).send = s.send ∧ (finishHead s).reprint = s.reprint ∧
    (finishHead s).take = s.take ∧ (finishHead s).compose = s.compose ∧ (finishHead s).supply = s.supply ∧
    (finishHead s).link = s.link ∧ (finishHead s).faults = s.faults ∧ (finishHead s).mem = s.mem ∧
    (finishHead s).draws = s.draws ∧ (finishHead s).pending = s.pending := by
  simp only [finishHead]; (repeat' split) <;> simp

@[simp] theorem takeOverflow_frame (n : Nat) (s : State) :
    (takeOverflow n s).held = s.held ∧ (takeOverflow n s).params = s.params ∧ (takeOverflow n s).modem = s.modem ∧
    (takeOverflow n s).framer = s.framer ∧ (takeOverflow n s).disp.headExamined = s.disp.headExamined ∧
    (takeOverflow n s).disp.record = s.disp.record ∧ (takeOverflow n s).disp.remotePause = s.disp.remotePause ∧
    (takeOverflow n s).disp.answerback = s.disp.answerback ∧ (takeOverflow n s).disp.progress = s.disp.progress ∧
    (takeOverflow n s).kbd = s.kbd ∧ (takeOverflow n s).comp = s.comp ∧ (takeOverflow n s).strobe = s.strobe ∧
    (takeOverflow n s).engine = s.engine ∧ (takeOverflow n s).head = s.head ∧ (takeOverflow n s).store = s.store ∧
    (takeOverflow n s).send = s.send ∧ (takeOverflow n s).reprint = s.reprint ∧
    (takeOverflow n s).compose = s.compose ∧ (takeOverflow n s).supply = s.supply ∧ (takeOverflow n s).link = s.link ∧
    (takeOverflow n s).reports = s.reports ∧ (takeOverflow n s).faults = s.faults ∧ (takeOverflow n s).mem = s.mem ∧
    (takeOverflow n s).draws = s.draws ∧ (takeOverflow n s).pending = s.pending := by
  simp [takeOverflow]

@[simp] theorem offerTake_frame (s : State) :
    (offerTake s).held = s.held ∧ (offerTake s).params = s.params ∧ (offerTake s).modem = s.modem ∧
    (offerTake s).framer = s.framer ∧ (offerTake s).disp.headExamined = s.disp.headExamined ∧
    (offerTake s).disp.remotePause = s.disp.remotePause ∧ (offerTake s).disp.answerback = s.disp.answerback ∧
    (offerTake s).disp.progress = s.disp.progress ∧ (offerTake s).kbd = s.kbd ∧ (offerTake s).comp = s.comp ∧
    (offerTake s).strobe = s.strobe ∧ (offerTake s).engine = s.engine ∧ (offerTake s).head = s.head ∧
    (offerTake s).store = s.store ∧ (offerTake s).send = s.send ∧ (offerTake s).reprint = s.reprint ∧
    (offerTake s).compose = s.compose ∧ (offerTake s).supply = s.supply ∧ (offerTake s).link = s.link ∧
    (offerTake s).reports = s.reports ∧ (offerTake s).faults = s.faults ∧ (offerTake s).mem = s.mem ∧
    (offerTake s).draws = s.draws ∧ (offerTake s).pending = s.pending := by
  simp only [offerTake]; (repeat' split) <;> simp

@[simp] theorem offerHead_frame (s : State) :
    (offerHead s).held = s.held ∧ (offerHead s).params = s.params ∧ (offerHead s).modem = s.modem ∧
    (offerHead s).framer.sampler = s.framer.sampler ∧ (offerHead s).framer.shift = s.framer.shift ∧
    (offerHead s).framer.holding = s.framer.holding ∧ (offerHead s).framer.brk = s.framer.brk ∧
    (offerHead s).framer.linkText = s.framer.linkText ∧ (offerHead s).disp.remotePause = s.disp.remotePause ∧
    (offerHead s).disp.answerback = s.disp.answerback ∧ (offerHead s).disp.progress = s.disp.progress ∧
    (offerHead s).kbd = s.kbd ∧ (offerHead s).comp = s.comp ∧ (offerHead s).strobe = s.strobe ∧
    (offerHead s).engine = s.engine ∧ (offerHead s).head = s.head ∧ (offerHead s).store = s.store ∧
    (offerHead s).send = s.send ∧ (offerHead s).reprint = s.reprint ∧ (offerHead s).compose = s.compose ∧
    (offerHead s).supply = s.supply ∧ (offerHead s).link = s.link ∧ (offerHead s).faults = s.faults ∧
    (offerHead s).mem = s.mem ∧ (offerHead s).draws = s.draws ∧ (offerHead s).pending = s.pending := by
  simp [offerHead]

@[simp] theorem takeNotice_frame (s : State) :
    (takeNotice s).held = s.held ∧ (takeNotice s).params = s.params ∧ (takeNotice s).modem = s.modem ∧
    (takeNotice s).framer.sampler = s.framer.sampler ∧ (takeNotice s).framer.shift = s.framer.shift ∧
    (takeNotice s).framer.holding = s.framer.holding ∧ (takeNotice s).framer.brk = s.framer.brk ∧
    (takeNotice s).framer.linkText = s.framer.linkText ∧ (takeNotice s).disp.remotePause = s.disp.remotePause ∧
    (takeNotice s).disp.answerback = s.disp.answerback ∧ (takeNotice s).disp.progress = s.disp.progress ∧
    (takeNotice s).kbd = s.kbd ∧ (takeNotice s).comp = s.comp ∧ (takeNotice s).strobe = s.strobe ∧
    (takeNotice s).engine = s.engine ∧ (takeNotice s).head = s.head ∧ (takeNotice s).store = s.store ∧
    (takeNotice s).send = s.send ∧ (takeNotice s).reprint = s.reprint ∧ (takeNotice s).compose = s.compose ∧
    (takeNotice s).supply = s.supply ∧ (takeNotice s).link = s.link ∧ (takeNotice s).faults = s.faults ∧
    (takeNotice s).mem = s.mem ∧ (takeNotice s).draws = s.draws ∧ (takeNotice s).pending = s.pending := by
  simp [takeNotice]

@[simp] theorem endRouteHold_frame (new : Route) (isReset : Bool) (s : State) :
    (endRouteHold new isReset s).held = s.held ∧ (endRouteHold new isReset s).params = s.params ∧
    (endRouteHold new isReset s).modem = s.modem ∧ (endRouteHold new isReset s).framer = s.framer ∧
    (endRouteHold new isReset s).disp = s.disp ∧ (endRouteHold new isReset s).kbd = s.kbd ∧
    (endRouteHold new isReset s).comp = s.comp ∧ (endRouteHold new isReset s).strobe = s.strobe ∧
    (endRouteHold new isReset s).engine = s.engine ∧ (endRouteHold new isReset s).head = s.head ∧
    (endRouteHold new isReset s).store = s.store ∧ (endRouteHold new isReset s).send = s.send ∧
    (endRouteHold new isReset s).reprint = s.reprint ∧ (endRouteHold new isReset s).compose = s.compose ∧
    (endRouteHold new isReset s).supply = s.supply ∧ (endRouteHold new isReset s).link = s.link ∧
    (endRouteHold new isReset s).reports = s.reports ∧ (endRouteHold new isReset s).faults = s.faults ∧
    (endRouteHold new isReset s).mem = s.mem ∧ (endRouteHold new isReset s).draws = s.draws ∧
    (endRouteHold new isReset s).pending = s.pending := by
  simp only [endRouteHold]; (repeat' split) <;> simp

@[simp] theorem refuseRoute_frame (n : Nat) (s : State) :
    (refuseRoute n s).held = s.held ∧ (refuseRoute n s).params = s.params ∧ (refuseRoute n s).modem = s.modem ∧
    (refuseRoute n s).framer = s.framer ∧ (refuseRoute n s).disp.headExamined = s.disp.headExamined ∧
    (refuseRoute n s).disp.record = s.disp.record ∧ (refuseRoute n s).disp.remotePause = s.disp.remotePause ∧
    (refuseRoute n s).disp.answerback = s.disp.answerback ∧ (refuseRoute n s).disp.progress = s.disp.progress ∧
    (refuseRoute n s).kbd = s.kbd ∧ (refuseRoute n s).comp = s.comp ∧ (refuseRoute n s).strobe = s.strobe ∧
    (refuseRoute n s).engine = s.engine ∧ (refuseRoute n s).head = s.head ∧ (refuseRoute n s).store = s.store ∧
    (refuseRoute n s).send = s.send ∧ (refuseRoute n s).reprint = s.reprint ∧ (refuseRoute n s).take = s.take ∧
    (refuseRoute n s).compose = s.compose ∧ (refuseRoute n s).supply = s.supply ∧ (refuseRoute n s).link = s.link ∧
    (refuseRoute n s).faults = s.faults ∧ (refuseRoute n s).mem = s.mem ∧ (refuseRoute n s).draws = s.draws ∧
    (refuseRoute n s).pending = s.pending := by
  simp [refuseRoute]

@[simp] theorem enterRoute_frame (new : Route) (isReset : Bool) (s : State) :
    (enterRoute new isReset s).held = s.held ∧ (enterRoute new isReset s).params = s.params ∧
    (enterRoute new isReset s).modem = s.modem ∧ (enterRoute new isReset s).framer = s.framer ∧
    (enterRoute new isReset s).disp.headExamined = s.disp.headExamined ∧
    (enterRoute new isReset s).disp.record = s.disp.record ∧
    (enterRoute new isReset s).disp.remotePause = s.disp.remotePause ∧
    (enterRoute new isReset s).disp.answerback = s.disp.answerback ∧
    (enterRoute new isReset s).disp.progress = s.disp.progress ∧ (enterRoute new isReset s).kbd = s.kbd ∧
    (enterRoute new isReset s).comp = s.comp ∧ (enterRoute new isReset s).strobe = s.strobe ∧
    (enterRoute new isReset s).engine = s.engine ∧ (enterRoute new isReset s).head = s.head ∧
    (enterRoute new isReset s).store.state = s.store.state ∧
    (enterRoute new isReset s).store.mountNext = s.store.mountNext ∧
    (enterRoute new isReset s).store.formatNext = s.store.formatNext ∧
    (enterRoute new isReset s).store.free = s.store.free ∧ (enterRoute new isReset s).store.bad = s.store.bad ∧
    (enterRoute new isReset s).store.sectors = s.store.sectors ∧
    (enterRoute new isReset s).store.inFlight = s.store.inFlight ∧
    (enterRoute new isReset s).store.patrolPos = s.store.patrolPos ∧
    (enterRoute new isReset s).store.patrolTimer = s.store.patrolTimer ∧
    (enterRoute new isReset s).store.patrolRead = s.store.patrolRead ∧
    (enterRoute new isReset s).store.linkRead = s.store.linkRead ∧ (enterRoute new isReset s).send = s.send ∧
    (enterRoute new isReset s).reprint = s.reprint ∧ (enterRoute new isReset s).compose = s.compose ∧
    (enterRoute new isReset s).supply = s.supply ∧ (enterRoute new isReset s).link = s.link ∧
    (enterRoute new isReset s).faults = s.faults ∧ (enterRoute new isReset s).mem = s.mem ∧
    (enterRoute new isReset s).draws = s.draws ∧ (enterRoute new isReset s).pending = s.pending := by
  simp only [enterRoute]; (repeat' split) <;> simp

@[simp] theorem changeRoute_frame (new : Route) (isReset : Bool) (s : State) :
    (changeRoute new isReset s).held = s.held ∧ (changeRoute new isReset s).params = s.params ∧
    (changeRoute new isReset s).modem = s.modem ∧ (changeRoute new isReset s).framer.sampler = s.framer.sampler ∧
    (changeRoute new isReset s).framer.shift = s.framer.shift ∧
    (changeRoute new isReset s).framer.holding = s.framer.holding ∧
    (changeRoute new isReset s).framer.brk = s.framer.brk ∧
    (changeRoute new isReset s).framer.linkText = s.framer.linkText ∧
    (changeRoute new isReset s).disp.remotePause = s.disp.remotePause ∧
    (changeRoute new isReset s).disp.answerback = s.disp.answerback ∧
    (changeRoute new isReset s).disp.progress = s.disp.progress ∧ (changeRoute new isReset s).kbd = s.kbd ∧
    (changeRoute new isReset s).comp = s.comp ∧ (changeRoute new isReset s).strobe = s.strobe ∧
    (changeRoute new isReset s).engine = s.engine ∧ (changeRoute new isReset s).head = s.head ∧
    (changeRoute new isReset s).store.state = s.store.state ∧
    (changeRoute new isReset s).store.mountNext = s.store.mountNext ∧
    (changeRoute new isReset s).store.formatNext = s.store.formatNext ∧
    (changeRoute new isReset s).store.free = s.store.free ∧ (changeRoute new isReset s).store.bad = s.store.bad ∧
    (changeRoute new isReset s).store.sectors = s.store.sectors ∧
    (changeRoute new isReset s).store.inFlight = s.store.inFlight ∧
    (changeRoute new isReset s).store.patrolPos = s.store.patrolPos ∧
    (changeRoute new isReset s).store.patrolTimer = s.store.patrolTimer ∧
    (changeRoute new isReset s).store.patrolRead = s.store.patrolRead ∧
    (changeRoute new isReset s).store.linkRead = s.store.linkRead ∧ (changeRoute new isReset s).send = s.send ∧
    (changeRoute new isReset s).reprint = s.reprint ∧ (changeRoute new isReset s).compose = s.compose ∧
    (changeRoute new isReset s).supply = s.supply ∧ (changeRoute new isReset s).link = s.link ∧
    (changeRoute new isReset s).faults = s.faults ∧ (changeRoute new isReset s).mem = s.mem ∧
    (changeRoute new isReset s).draws = s.draws ∧ (changeRoute new isReset s).pending = s.pending := by
  simp [changeRoute]

@[simp] theorem resetRoute_frame (s : State) :
    (resetRoute s).held = s.held ∧ (resetRoute s).params = s.params ∧ (resetRoute s).modem = s.modem ∧
    (resetRoute s).framer.sampler = s.framer.sampler ∧ (resetRoute s).framer.shift = s.framer.shift ∧
    (resetRoute s).framer.holding = s.framer.holding ∧ (resetRoute s).framer.brk = s.framer.brk ∧
    (resetRoute s).framer.linkText = s.framer.linkText ∧ (resetRoute s).disp.remotePause = s.disp.remotePause ∧
    (resetRoute s).disp.answerback = s.disp.answerback ∧ (resetRoute s).disp.progress = s.disp.progress ∧
    (resetRoute s).kbd = s.kbd ∧ (resetRoute s).comp = s.comp ∧ (resetRoute s).strobe = s.strobe ∧
    (resetRoute s).engine = s.engine ∧ (resetRoute s).head = s.head ∧ (resetRoute s).store.state = s.store.state ∧
    (resetRoute s).store.mountNext = s.store.mountNext ∧ (resetRoute s).store.formatNext = s.store.formatNext ∧
    (resetRoute s).store.free = s.store.free ∧ (resetRoute s).store.bad = s.store.bad ∧
    (resetRoute s).store.sectors = s.store.sectors ∧ (resetRoute s).store.inFlight = s.store.inFlight ∧
    (resetRoute s).store.patrolPos = s.store.patrolPos ∧ (resetRoute s).store.patrolTimer = s.store.patrolTimer ∧
    (resetRoute s).store.patrolRead = s.store.patrolRead ∧ (resetRoute s).store.linkRead = s.store.linkRead ∧
    (resetRoute s).send = s.send ∧ (resetRoute s).reprint = s.reprint ∧ (resetRoute s).compose = s.compose ∧
    (resetRoute s).supply = s.supply ∧ (resetRoute s).link = s.link ∧ (resetRoute s).faults = s.faults ∧
    (resetRoute s).mem = s.mem ∧ (resetRoute s).draws = s.draws ∧ (resetRoute s).pending = s.pending := by
  simp [resetRoute]

@[simp] theorem designate_frame (v : Nat) (s : State) :
    (designate v s).held = s.held ∧ (designate v s).params = s.params ∧ (designate v s).modem = s.modem ∧
    (designate v s).framer.sampler = s.framer.sampler ∧ (designate v s).framer.shift = s.framer.shift ∧
    (designate v s).framer.holding = s.framer.holding ∧ (designate v s).framer.brk = s.framer.brk ∧
    (designate v s).framer.linkText = s.framer.linkText ∧ (designate v s).disp.remotePause = s.disp.remotePause ∧
    (designate v s).disp.answerback = s.disp.answerback ∧ (designate v s).disp.progress = s.disp.progress ∧
    (designate v s).kbd = s.kbd ∧ (designate v s).comp = s.comp ∧ (designate v s).strobe = s.strobe ∧
    (designate v s).engine = s.engine ∧ (designate v s).head = s.head ∧ (designate v s).store.state = s.store.state ∧
    (designate v s).store.mountNext = s.store.mountNext ∧ (designate v s).store.formatNext = s.store.formatNext ∧
    (designate v s).store.free = s.store.free ∧ (designate v s).store.bad = s.store.bad ∧
    (designate v s).store.sectors = s.store.sectors ∧ (designate v s).store.inFlight = s.store.inFlight ∧
    (designate v s).store.patrolPos = s.store.patrolPos ∧ (designate v s).store.patrolTimer = s.store.patrolTimer ∧
    (designate v s).store.patrolRead = s.store.patrolRead ∧ (designate v s).store.linkRead = s.store.linkRead ∧
    (designate v s).send = s.send ∧ (designate v s).reprint = s.reprint ∧ (designate v s).compose = s.compose ∧
    (designate v s).supply = s.supply ∧ (designate v s).link = s.link ∧ (designate v s).faults = s.faults ∧
    (designate v s).mem = s.mem ∧ (designate v s).draws = s.draws ∧ (designate v s).pending = s.pending := by
  simp only [designate]; (repeat' split) <;> simp

@[simp] theorem enquire_frame (s : State) :
    (enquire s).held = s.held ∧ (enquire s).params = s.params ∧ (enquire s).modem = s.modem ∧
    (enquire s).framer = s.framer ∧ (enquire s).disp.route = s.disp.route ∧
    (enquire s).disp.headExamined = s.disp.headExamined ∧ (enquire s).disp.record = s.disp.record ∧
    (enquire s).disp.flow = s.disp.flow ∧ (enquire s).disp.pendingFlow = s.disp.pendingFlow ∧
    (enquire s).disp.remotePause = s.disp.remotePause ∧ (enquire s).disp.answerback = s.disp.answerback ∧
    (enquire s).kbd = s.kbd ∧ (enquire s).comp = s.comp ∧ (enquire s).strobe = s.strobe ∧
    (enquire s).engine = s.engine ∧ (enquire s).head = s.head ∧ (enquire s).store = s.store ∧
    (enquire s).send = s.send ∧ (enquire s).reprint = s.reprint ∧ (enquire s).take = s.take ∧
    (enquire s).compose = s.compose ∧ (enquire s).supply = s.supply ∧ (enquire s).link = s.link ∧
    (enquire s).reports = s.reports ∧ (enquire s).faults = s.faults ∧ (enquire s).mem = s.mem ∧
    (enquire s).draws = s.draws ∧ (enquire s).pending = s.pending := by
  simp only [enquire]; (repeat' split) <;> simp

@[simp] theorem examineHead_frame (s : State) :
    (examineHead s).held = s.held ∧ (examineHead s).params = s.params ∧ (examineHead s).modem = s.modem ∧
    (examineHead s).framer.sampler = s.framer.sampler ∧ (examineHead s).framer.shift = s.framer.shift ∧
    (examineHead s).framer.holding = s.framer.holding ∧ (examineHead s).framer.brk = s.framer.brk ∧
    (examineHead s).framer.linkText = s.framer.linkText ∧ (examineHead s).disp.answerback = s.disp.answerback ∧
    (examineHead s).kbd = s.kbd ∧ (examineHead s).comp = s.comp ∧ (examineHead s).strobe = s.strobe ∧
    (examineHead s).engine = s.engine ∧ (examineHead s).head = s.head ∧ (examineHead s).store.state = s.store.state ∧
    (examineHead s).store.mountNext = s.store.mountNext ∧ (examineHead s).store.formatNext = s.store.formatNext ∧
    (examineHead s).store.free = s.store.free ∧ (examineHead s).store.bad = s.store.bad ∧
    (examineHead s).store.sectors = s.store.sectors ∧ (examineHead s).store.inFlight = s.store.inFlight ∧
    (examineHead s).store.patrolPos = s.store.patrolPos ∧ (examineHead s).store.patrolTimer = s.store.patrolTimer ∧
    (examineHead s).store.patrolRead = s.store.patrolRead ∧ (examineHead s).store.linkRead = s.store.linkRead ∧
    (examineHead s).send = s.send ∧ (examineHead s).reprint = s.reprint ∧ (examineHead s).compose = s.compose ∧
    (examineHead s).supply = s.supply ∧ (examineHead s).link = s.link ∧ (examineHead s).faults = s.faults ∧
    (examineHead s).mem = s.mem ∧ (examineHead s).draws = s.draws ∧ (examineHead s).pending = s.pending := by
  simp only [examineHead]; (repeat' split) <;> simp

@[simp] theorem startShift_frame (c : Code) (s : State) :
    (startShift c s).held = s.held ∧ (startShift c s).params = s.params ∧ (startShift c s).modem = s.modem ∧
    (startShift c s).framer.sampler = s.framer.sampler ∧ (startShift c s).framer.rxFifo = s.framer.rxFifo ∧
    (startShift c s).framer.overrun = s.framer.overrun ∧ (startShift c s).framer.holding = s.framer.holding ∧
    (startShift c s).framer.brk = s.framer.brk ∧ (startShift c s).framer.linkText = s.framer.linkText ∧
    (startShift c s).disp = s.disp ∧ (startShift c s).kbd = s.kbd ∧ (startShift c s).comp = s.comp ∧
    (startShift c s).strobe = s.strobe ∧ (startShift c s).engine = s.engine ∧ (startShift c s).head = s.head ∧
    (startShift c s).store = s.store ∧ (startShift c s).send = s.send ∧ (startShift c s).reprint = s.reprint ∧
    (startShift c s).take = s.take ∧ (startShift c s).compose = s.compose ∧ (startShift c s).supply = s.supply ∧
    (startShift c s).link = s.link ∧ (startShift c s).reports = s.reports ∧ (startShift c s).faults = s.faults ∧
    (startShift c s).mem = s.mem ∧ (startShift c s).draws = s.draws ∧ (startShift c s).pending = s.pending := by
  simp [startShift]

@[simp] theorem fillShift_frame (s : State) :
    (fillShift s).held = s.held ∧ (fillShift s).params = s.params ∧ (fillShift s).modem = s.modem ∧
    (fillShift s).framer.sampler = s.framer.sampler ∧ (fillShift s).framer.rxFifo = s.framer.rxFifo ∧
    (fillShift s).framer.overrun = s.framer.overrun ∧ (fillShift s).framer.brk = s.framer.brk ∧
    (fillShift s).framer.linkText = s.framer.linkText ∧ (fillShift s).disp = s.disp ∧ (fillShift s).kbd = s.kbd ∧
    (fillShift s).comp = s.comp ∧ (fillShift s).strobe = s.strobe ∧ (fillShift s).engine = s.engine ∧
    (fillShift s).head = s.head ∧ (fillShift s).store = s.store ∧ (fillShift s).send = s.send ∧
    (fillShift s).reprint = s.reprint ∧ (fillShift s).take = s.take ∧ (fillShift s).compose = s.compose ∧
    (fillShift s).supply = s.supply ∧ (fillShift s).link = s.link ∧ (fillShift s).reports = s.reports ∧
    (fillShift s).faults = s.faults ∧ (fillShift s).mem = s.mem ∧ (fillShift s).draws = s.draws ∧
    (fillShift s).pending = s.pending := by
  simp only [fillShift]; (repeat' split) <;> simp

@[simp] theorem beginBreak_frame (s : State) :
    (beginBreak s).held = s.held ∧ (beginBreak s).params = s.params ∧ (beginBreak s).modem = s.modem ∧
    (beginBreak s).framer.sampler = s.framer.sampler ∧ (beginBreak s).framer.rxFifo = s.framer.rxFifo ∧
    (beginBreak s).framer.overrun = s.framer.overrun ∧ (beginBreak s).framer.shift = s.framer.shift ∧
    (beginBreak s).framer.holding = s.framer.holding ∧ (beginBreak s).framer.linkText = s.framer.linkText ∧
    (beginBreak s).disp = s.disp ∧ (beginBreak s).kbd = s.kbd ∧ (beginBreak s).comp = s.comp ∧
    (beginBreak s).strobe = s.strobe ∧ (beginBreak s).engine = s.engine ∧ (beginBreak s).head = s.head ∧
    (beginBreak s).store = s.store ∧ (beginBreak s).send = s.send ∧ (beginBreak s).reprint = s.reprint ∧
    (beginBreak s).take = s.take ∧ (beginBreak s).compose = s.compose ∧ (beginBreak s).supply = s.supply ∧
    (beginBreak s).link = s.link ∧ (beginBreak s).reports = s.reports ∧ (beginBreak s).faults = s.faults ∧
    (beginBreak s).mem = s.mem ∧ (beginBreak s).draws = s.draws ∧ (beginBreak s).pending = s.pending := by
  simp only [beginBreak]; (repeat' split) <;> simp

@[simp] theorem askBreak_frame (s : State) :
    (askBreak s).held = s.held ∧ (askBreak s).params = s.params ∧ (askBreak s).modem = s.modem ∧
    (askBreak s).framer.sampler = s.framer.sampler ∧ (askBreak s).framer.rxFifo = s.framer.rxFifo ∧
    (askBreak s).framer.overrun = s.framer.overrun ∧ (askBreak s).framer.shift = s.framer.shift ∧
    (askBreak s).framer.holding = s.framer.holding ∧ (askBreak s).framer.linkText = s.framer.linkText ∧
    (askBreak s).disp = s.disp ∧ (askBreak s).kbd = s.kbd ∧ (askBreak s).comp = s.comp ∧
    (askBreak s).strobe = s.strobe ∧ (askBreak s).engine = s.engine ∧ (askBreak s).head = s.head ∧
    (askBreak s).store = s.store ∧ (askBreak s).send = s.send ∧ (askBreak s).reprint = s.reprint ∧
    (askBreak s).take = s.take ∧ (askBreak s).compose = s.compose ∧ (askBreak s).supply = s.supply ∧
    (askBreak s).link = s.link ∧ (askBreak s).reports = s.reports ∧ (askBreak s).faults = s.faults ∧
    (askBreak s).mem = s.mem ∧ (askBreak s).draws = s.draws ∧ (askBreak s).pending = s.pending := by
  simp only [askBreak]; (repeat' split) <;> simp

@[simp] theorem clearTransmitter_frame (s : State) :
    (clearTransmitter s).held = s.held ∧ (clearTransmitter s).params = s.params ∧
    (clearTransmitter s).modem = s.modem ∧ (clearTransmitter s).framer.sampler = s.framer.sampler ∧
    (clearTransmitter s).framer.rxFifo = s.framer.rxFifo ∧ (clearTransmitter s).framer.overrun = s.framer.overrun ∧
    (clearTransmitter s).framer.linkText = s.framer.linkText ∧ (clearTransmitter s).disp = s.disp ∧
    (clearTransmitter s).kbd = s.kbd ∧ (clearTransmitter s).comp = s.comp ∧ (clearTransmitter s).strobe = s.strobe ∧
    (clearTransmitter s).engine = s.engine ∧ (clearTransmitter s).head = s.head ∧
    (clearTransmitter s).store = s.store ∧ (clearTransmitter s).send = s.send ∧
    (clearTransmitter s).reprint = s.reprint ∧ (clearTransmitter s).take = s.take ∧
    (clearTransmitter s).compose = s.compose ∧ (clearTransmitter s).supply = s.supply ∧
    (clearTransmitter s).link = s.link ∧ (clearTransmitter s).reports = s.reports ∧
    (clearTransmitter s).faults = s.faults ∧ (clearTransmitter s).mem = s.mem ∧ (clearTransmitter s).draws = s.draws ∧
    (clearTransmitter s).pending = s.pending := by
  simp [clearTransmitter]

@[simp] theorem resetFlow_frame (s : State) :
    (resetFlow s).held = s.held ∧ (resetFlow s).params = s.params ∧ (resetFlow s).modem = s.modem ∧
    (resetFlow s).framer = s.framer ∧ (resetFlow s).disp.route = s.disp.route ∧
    (resetFlow s).disp.headExamined = s.disp.headExamined ∧ (resetFlow s).disp.record = s.disp.record ∧
    (resetFlow s).disp.answerback = s.disp.answerback ∧ (resetFlow s).disp.progress = s.disp.progress ∧
    (resetFlow s).kbd = s.kbd ∧ (resetFlow s).comp = s.comp ∧ (resetFlow s).strobe = s.strobe ∧
    (resetFlow s).engine = s.engine ∧ (resetFlow s).head = s.head ∧ (resetFlow s).store = s.store ∧
    (resetFlow s).send = s.send ∧ (resetFlow s).reprint = s.reprint ∧ (resetFlow s).take = s.take ∧
    (resetFlow s).compose = s.compose ∧ (resetFlow s).supply = s.supply ∧ (resetFlow s).link = s.link ∧
    (resetFlow s).reports = s.reports ∧ (resetFlow s).faults = s.faults ∧ (resetFlow s).mem = s.mem ∧
    (resetFlow s).draws = s.draws ∧ (resetFlow s).pending = s.pending := by
  simp [resetFlow]

@[simp] theorem modemBecomes_frame (m : Modem) (s : State) :
    (modemBecomes m s).held = s.held ∧ (modemBecomes m s).params = s.params ∧
    (modemBecomes m s).framer.rxFifo = s.framer.rxFifo ∧ (modemBecomes m s).framer.overrun = s.framer.overrun ∧
    (modemBecomes m s).framer.shift = s.framer.shift ∧ (modemBecomes m s).framer.holding = s.framer.holding ∧
    (modemBecomes m s).framer.brk = s.framer.brk ∧ (modemBecomes m s).framer.linkText = s.framer.linkText ∧
    (modemBecomes m s).disp = s.disp ∧ (modemBecomes m s).kbd = s.kbd ∧ (modemBecomes m s).comp = s.comp ∧
    (modemBecomes m s).strobe = s.strobe ∧ (modemBecomes m s).engine = s.engine ∧ (modemBecomes m s).head = s.head ∧
    (modemBecomes m s).store = s.store ∧ (modemBecomes m s).send = s.send ∧ (modemBecomes m s).reprint = s.reprint ∧
    (modemBecomes m s).take = s.take ∧ (modemBecomes m s).compose = s.compose ∧ (modemBecomes m s).supply = s.supply ∧
    (modemBecomes m s).link = s.link ∧ (modemBecomes m s).reports = s.reports ∧ (modemBecomes m s).faults = s.faults ∧
    (modemBecomes m s).mem = s.mem ∧ (modemBecomes m s).draws = s.draws ∧ (modemBecomes m s).pending = s.pending := by
  simp [modemBecomes]

@[simp] theorem modemIdle_frame (s : State) :
    (modemIdle s).held = s.held ∧ (modemIdle s).params = s.params ∧ (modemIdle s).framer.rxFifo = s.framer.rxFifo ∧
    (modemIdle s).framer.overrun = s.framer.overrun ∧ (modemIdle s).framer.shift = s.framer.shift ∧
    (modemIdle s).framer.holding = s.framer.holding ∧ (modemIdle s).framer.brk = s.framer.brk ∧
    (modemIdle s).framer.linkText = s.framer.linkText ∧ (modemIdle s).disp = s.disp ∧ (modemIdle s).kbd = s.kbd ∧
    (modemIdle s).comp = s.comp ∧ (modemIdle s).strobe = s.strobe ∧ (modemIdle s).engine = s.engine ∧
    (modemIdle s).head = s.head ∧ (modemIdle s).store = s.store ∧ (modemIdle s).send = s.send ∧
    (modemIdle s).reprint = s.reprint ∧ (modemIdle s).take = s.take ∧ (modemIdle s).compose = s.compose ∧
    (modemIdle s).supply = s.supply ∧ (modemIdle s).link = s.link ∧ (modemIdle s).reports = s.reports ∧
    (modemIdle s).faults = s.faults ∧ (modemIdle s).mem = s.mem ∧ (modemIdle s).draws = s.draws ∧
    (modemIdle s).pending = s.pending := by
  simp [modemIdle]

@[simp] theorem endSend_frame (o : ChannelOutcome) (s : State) :
    (endSend o s).held = s.held ∧ (endSend o s).params = s.params ∧ (endSend o s).modem = s.modem ∧
    (endSend o s).framer = s.framer ∧ (endSend o s).disp = s.disp ∧ (endSend o s).kbd = s.kbd ∧
    (endSend o s).comp = s.comp ∧ (endSend o s).strobe = s.strobe ∧ (endSend o s).engine = s.engine ∧
    (endSend o s).head = s.head ∧ (endSend o s).store.state = s.store.state ∧
    (endSend o s).store.mountNext = s.store.mountNext ∧ (endSend o s).store.formatNext = s.store.formatNext ∧
    (endSend o s).store.free = s.store.free ∧ (endSend o s).store.bad = s.store.bad ∧
    (endSend o s).store.sectors = s.store.sectors ∧ (endSend o s).store.jobs = s.store.jobs ∧
    (endSend o s).store.patrolPos = s.store.patrolPos ∧ (endSend o s).store.patrolTimer = s.store.patrolTimer ∧
    (endSend o s).store.patrolRead = s.store.patrolRead ∧ (endSend o s).store.linkRead = s.store.linkRead ∧
    (endSend o s).reprint = s.reprint ∧ (endSend o s).take = s.take ∧ (endSend o s).compose = s.compose ∧
    (endSend o s).supply = s.supply ∧ (endSend o s).link = s.link ∧ (endSend o s).faults = s.faults ∧
    (endSend o s).mem = s.mem ∧ (endSend o s).draws = s.draws ∧ (endSend o s).pending = s.pending := by
  simp only [endSend]
  cases s.send.staged <;> (repeat' split) <;> simp

@[simp] theorem leaveConnection_frame (s : State) :
    (leaveConnection s).held = s.held ∧ (leaveConnection s).params = s.params ∧ (leaveConnection s).modem = s.modem ∧
    (leaveConnection s).framer.sampler = s.framer.sampler ∧ (leaveConnection s).framer.linkText = s.framer.linkText ∧
    (leaveConnection s).disp.answerback = s.disp.answerback ∧ (leaveConnection s).kbd.keys = s.kbd.keys ∧
    (leaveConnection s).kbd.owed = s.kbd.owed ∧ (leaveConnection s).kbd.events = s.kbd.events ∧
    (leaveConnection s).kbd.headJudged = s.kbd.headJudged ∧ (leaveConnection s).kbd.plain = s.kbd.plain ∧
    (leaveConnection s).kbd.shift = s.kbd.shift ∧ (leaveConnection s).kbd.control = s.kbd.control ∧
    (leaveConnection s).kbd.downs = s.kbd.downs ∧ (leaveConnection s).kbd.caps = s.kbd.caps ∧
    (leaveConnection s).kbd.autoRepeat = s.kbd.autoRepeat ∧ (leaveConnection s).kbd.feedRepeats = s.kbd.feedRepeats ∧
    (leaveConnection s).kbd.mode = s.kbd.mode ∧ (leaveConnection s).kbd.lock = s.kbd.lock ∧
    (leaveConnection s).kbd.relay = s.kbd.relay ∧ (leaveConnection s).kbd.tones = s.kbd.tones ∧
    (leaveConnection s).comp = s.comp ∧ (leaveConnection s).strobe = s.strobe ∧
    (leaveConnection s).engine = s.engine ∧ (leaveConnection s).head = s.head ∧
    (leaveConnection s).store.state = s.store.state ∧ (leaveConnection s).store.mountNext = s.store.mountNext ∧
    (leaveConnection s).store.formatNext = s.store.formatNext ∧ (leaveConnection s).store.free = s.store.free ∧
    (leaveConnection s).store.bad = s.store.bad ∧ (leaveConnection s).store.sectors = s.store.sectors ∧
    (leaveConnection s).store.patrolPos = s.store.patrolPos ∧
    (leaveConnection s).store.patrolTimer = s.store.patrolTimer ∧
    (leaveConnection s).store.patrolRead = s.store.patrolRead ∧
    (leaveConnection s).store.linkRead = s.store.linkRead ∧ (leaveConnection s).reprint = s.reprint ∧
    (leaveConnection s).compose = s.compose ∧ (leaveConnection s).supply = s.supply ∧
    (leaveConnection s).link = s.link ∧ (leaveConnection s).faults = s.faults ∧ (leaveConnection s).mem = s.mem ∧
    (leaveConnection s).draws = s.draws ∧ (leaveConnection s).pending = s.pending := by
  simp [leaveConnection]

@[simp] theorem enterIdle_frame (e : ModemEvent) (s : State) :
    (enterIdle e s).held = s.held ∧ (enterIdle e s).params = s.params ∧
    (enterIdle e s).framer.linkText = s.framer.linkText ∧ (enterIdle e s).disp.answerback = s.disp.answerback ∧
    (enterIdle e s).kbd.keys = s.kbd.keys ∧ (enterIdle e s).kbd.owed = s.kbd.owed ∧
    (enterIdle e s).kbd.events = s.kbd.events ∧ (enterIdle e s).kbd.headJudged = s.kbd.headJudged ∧
    (enterIdle e s).kbd.plain = s.kbd.plain ∧ (enterIdle e s).kbd.shift = s.kbd.shift ∧
    (enterIdle e s).kbd.control = s.kbd.control ∧ (enterIdle e s).kbd.downs = s.kbd.downs ∧
    (enterIdle e s).kbd.caps = s.kbd.caps ∧ (enterIdle e s).kbd.autoRepeat = s.kbd.autoRepeat ∧
    (enterIdle e s).kbd.feedRepeats = s.kbd.feedRepeats ∧ (enterIdle e s).kbd.mode = s.kbd.mode ∧
    (enterIdle e s).kbd.lock = s.kbd.lock ∧ (enterIdle e s).kbd.relay = s.kbd.relay ∧
    (enterIdle e s).kbd.tones = s.kbd.tones ∧ (enterIdle e s).comp = s.comp ∧ (enterIdle e s).strobe = s.strobe ∧
    (enterIdle e s).engine = s.engine ∧ (enterIdle e s).head = s.head ∧ (enterIdle e s).store.state = s.store.state ∧
    (enterIdle e s).store.mountNext = s.store.mountNext ∧ (enterIdle e s).store.formatNext = s.store.formatNext ∧
    (enterIdle e s).store.free = s.store.free ∧ (enterIdle e s).store.bad = s.store.bad ∧
    (enterIdle e s).store.sectors = s.store.sectors ∧ (enterIdle e s).store.patrolPos = s.store.patrolPos ∧
    (enterIdle e s).store.patrolTimer = s.store.patrolTimer ∧ (enterIdle e s).store.patrolRead = s.store.patrolRead ∧
    (enterIdle e s).store.linkRead = s.store.linkRead ∧ (enterIdle e s).reprint = s.reprint ∧
    (enterIdle e s).compose = s.compose ∧ (enterIdle e s).supply = s.supply ∧ (enterIdle e s).link = s.link ∧
    (enterIdle e s).faults = s.faults ∧ (enterIdle e s).mem = s.mem ∧ (enterIdle e s).draws = s.draws ∧
    (enterIdle e s).pending = s.pending := by
  simp only [enterIdle]; (repeat' split) <;> simp

@[simp] theorem sendComplete_frame (s : State) :
    (sendComplete s).held = s.held ∧ (sendComplete s).params = s.params ∧ (sendComplete s).modem = s.modem ∧
    (sendComplete s).framer = s.framer ∧ (sendComplete s).disp = s.disp ∧ (sendComplete s).kbd = s.kbd ∧
    (sendComplete s).comp = s.comp ∧ (sendComplete s).strobe = s.strobe ∧ (sendComplete s).engine = s.engine ∧
    (sendComplete s).head = s.head ∧ (sendComplete s).store.state = s.store.state ∧
    (sendComplete s).store.mountNext = s.store.mountNext ∧ (sendComplete s).store.formatNext = s.store.formatNext ∧
    (sendComplete s).store.free = s.store.free ∧ (sendComplete s).store.bad = s.store.bad ∧
    (sendComplete s).store.sectors = s.store.sectors ∧ (sendComplete s).store.inFlight = s.store.inFlight ∧
    (sendComplete s).store.jobs = s.store.jobs ∧ (sendComplete s).store.patrolPos = s.store.patrolPos ∧
    (sendComplete s).store.patrolTimer = s.store.patrolTimer ∧
    (sendComplete s).store.patrolRead = s.store.patrolRead ∧ (sendComplete s).store.linkRead = s.store.linkRead ∧
    (sendComplete s).reprint = s.reprint ∧ (sendComplete s).take = s.take ∧ (sendComplete s).compose = s.compose ∧
    (sendComplete s).supply = s.supply ∧ (sendComplete s).link = s.link ∧ (sendComplete s).faults = s.faults ∧
    (sendComplete s).mem = s.mem ∧ (sendComplete s).draws = s.draws ∧ (sendComplete s).pending = s.pending := by
  simp only [sendComplete]; (repeat' split) <;> simp

@[simp] theorem sendTurn_frame (s : State) :
    (sendTurn s).held = s.held ∧ (sendTurn s).params = s.params ∧ (sendTurn s).modem = s.modem ∧
    (sendTurn s).framer = s.framer ∧ (sendTurn s).disp = s.disp ∧ (sendTurn s).kbd = s.kbd ∧
    (sendTurn s).comp = s.comp ∧ (sendTurn s).strobe = s.strobe ∧ (sendTurn s).engine = s.engine ∧
    (sendTurn s).head = s.head ∧ (sendTurn s).store.state = s.store.state ∧
    (sendTurn s).store.mountNext = s.store.mountNext ∧ (sendTurn s).store.formatNext = s.store.formatNext ∧
    (sendTurn s).store.free = s.store.free ∧ (sendTurn s).store.bad = s.store.bad ∧
    (sendTurn s).store.sectors = s.store.sectors ∧ (sendTurn s).store.inFlight = s.store.inFlight ∧
    (sendTurn s).store.jobs = s.store.jobs ∧ (sendTurn s).store.patrolPos = s.store.patrolPos ∧
    (sendTurn s).store.patrolTimer = s.store.patrolTimer ∧ (sendTurn s).store.patrolRead = s.store.patrolRead ∧
    (sendTurn s).store.linkRead = s.store.linkRead ∧ (sendTurn s).reprint = s.reprint ∧ (sendTurn s).take = s.take ∧
    (sendTurn s).compose = s.compose ∧ (sendTurn s).supply = s.supply ∧ (sendTurn s).link = s.link ∧
    (sendTurn s).faults = s.faults ∧ (sendTurn s).mem = s.mem ∧ (sendTurn s).draws = s.draws ∧
    (sendTurn s).pending = s.pending := by
  simp only [sendTurn]; (repeat' split) <;> simp

@[simp] theorem sendSettle_frame (s : State) :
    (sendSettle s).held = s.held ∧ (sendSettle s).params = s.params ∧ (sendSettle s).modem = s.modem ∧
    (sendSettle s).framer = s.framer ∧ (sendSettle s).disp = s.disp ∧ (sendSettle s).kbd = s.kbd ∧
    (sendSettle s).comp = s.comp ∧ (sendSettle s).strobe = s.strobe ∧ (sendSettle s).engine = s.engine ∧
    (sendSettle s).head = s.head ∧ (sendSettle s).store.state = s.store.state ∧
    (sendSettle s).store.mountNext = s.store.mountNext ∧ (sendSettle s).store.formatNext = s.store.formatNext ∧
    (sendSettle s).store.free = s.store.free ∧ (sendSettle s).store.bad = s.store.bad ∧
    (sendSettle s).store.sectors = s.store.sectors ∧ (sendSettle s).store.inFlight = s.store.inFlight ∧
    (sendSettle s).store.jobs = s.store.jobs ∧ (sendSettle s).store.patrolPos = s.store.patrolPos ∧
    (sendSettle s).store.patrolTimer = s.store.patrolTimer ∧ (sendSettle s).store.patrolRead = s.store.patrolRead ∧
    (sendSettle s).store.linkRead = s.store.linkRead ∧ (sendSettle s).reprint = s.reprint ∧
    (sendSettle s).take = s.take ∧ (sendSettle s).compose = s.compose ∧ (sendSettle s).supply = s.supply ∧
    (sendSettle s).link = s.link ∧ (sendSettle s).faults = s.faults ∧ (sendSettle s).mem = s.mem ∧
    (sendSettle s).draws = s.draws ∧ (sendSettle s).pending = s.pending := by
  simp [sendSettle]

@[simp] theorem sendTake_frame (s : State) :
    (sendTake s).held = s.held ∧ (sendTake s).params = s.params ∧ (sendTake s).modem = s.modem ∧
    (sendTake s).framer = s.framer ∧ (sendTake s).disp = s.disp ∧ (sendTake s).kbd = s.kbd ∧
    (sendTake s).comp = s.comp ∧ (sendTake s).strobe = s.strobe ∧ (sendTake s).engine = s.engine ∧
    (sendTake s).head = s.head ∧ (sendTake s).store.state = s.store.state ∧
    (sendTake s).store.mountNext = s.store.mountNext ∧ (sendTake s).store.formatNext = s.store.formatNext ∧
    (sendTake s).store.free = s.store.free ∧ (sendTake s).store.bad = s.store.bad ∧
    (sendTake s).store.sectors = s.store.sectors ∧ (sendTake s).store.inFlight = s.store.inFlight ∧
    (sendTake s).store.jobs = s.store.jobs ∧ (sendTake s).store.patrolPos = s.store.patrolPos ∧
    (sendTake s).store.patrolTimer = s.store.patrolTimer ∧ (sendTake s).store.patrolRead = s.store.patrolRead ∧
    (sendTake s).store.linkRead = s.store.linkRead ∧ (sendTake s).reprint = s.reprint ∧ (sendTake s).take = s.take ∧
    (sendTake s).compose = s.compose ∧ (sendTake s).supply = s.supply ∧ (sendTake s).link = s.link ∧
    (sendTake s).faults = s.faults ∧ (sendTake s).mem = s.mem ∧ (sendTake s).draws = s.draws ∧
    (sendTake s).pending = s.pending := by
  simp only [sendTake]; (repeat' split) <;> simp

@[simp] theorem freeInput_frame (s : State) :
    (freeInput s).held = s.held ∧ (freeInput s).params = s.params ∧ (freeInput s).modem = s.modem ∧
    (freeInput s).framer = s.framer ∧ (freeInput s).disp = s.disp ∧ (freeInput s).kbd = s.kbd ∧
    (freeInput s).comp.queue = s.comp.queue ∧ (freeInput s).comp.linkPrint = s.comp.linkPrint ∧
    (freeInput s).comp.output = s.comp.output ∧ (freeInput s).comp.cells = s.comp.cells ∧
    (freeInput s).comp.column = s.comp.column ∧ (freeInput s).comp.wrapPending = s.comp.wrapPending ∧
    (freeInput s).comp.lineSource = s.comp.lineSource ∧ (freeInput s).comp.formCount = s.comp.formCount ∧
    (freeInput s).comp.idleTimer = s.comp.idleTimer ∧ (freeInput s).comp.flushDue = s.comp.flushDue ∧
    (freeInput s).strobe = s.strobe ∧ (freeInput s).engine = s.engine ∧ (freeInput s).head = s.head ∧
    (freeInput s).store = s.store ∧ (freeInput s).send = s.send ∧ (freeInput s).reprint = s.reprint ∧
    (freeInput s).take = s.take ∧ (freeInput s).compose = s.compose ∧ (freeInput s).supply = s.supply ∧
    (freeInput s).link = s.link ∧ (freeInput s).reports = s.reports ∧ (freeInput s).faults = s.faults ∧
    (freeInput s).mem = s.mem ∧ (freeInput s).draws = s.draws ∧ (freeInput s).pending = s.pending := by
  simp [freeInput]

@[simp] theorem endReprint_frame (o : ChannelOutcome) (s : State) :
    (endReprint o s).held = s.held ∧ (endReprint o s).params = s.params ∧ (endReprint o s).modem = s.modem ∧
    (endReprint o s).framer = s.framer ∧ (endReprint o s).disp = s.disp ∧ (endReprint o s).kbd = s.kbd ∧
    (endReprint o s).comp.queue = s.comp.queue ∧ (endReprint o s).comp.linkPrint = s.comp.linkPrint ∧
    (endReprint o s).comp.output = s.comp.output ∧ (endReprint o s).comp.cells = s.comp.cells ∧
    (endReprint o s).comp.column = s.comp.column ∧ (endReprint o s).comp.wrapPending = s.comp.wrapPending ∧
    (endReprint o s).comp.lineSource = s.comp.lineSource ∧ (endReprint o s).comp.formCount = s.comp.formCount ∧
    (endReprint o s).comp.idleTimer = s.comp.idleTimer ∧ (endReprint o s).comp.flushDue = s.comp.flushDue ∧
    (endReprint o s).strobe = s.strobe ∧ (endReprint o s).engine = s.engine ∧ (endReprint o s).head = s.head ∧
    (endReprint o s).store.state = s.store.state ∧ (endReprint o s).store.mountNext = s.store.mountNext ∧
    (endReprint o s).store.formatNext = s.store.formatNext ∧ (endReprint o s).store.free = s.store.free ∧
    (endReprint o s).store.bad = s.store.bad ∧ (endReprint o s).store.sectors = s.store.sectors ∧
    (endReprint o s).store.jobs = s.store.jobs ∧ (endReprint o s).store.patrolPos = s.store.patrolPos ∧
    (endReprint o s).store.patrolTimer = s.store.patrolTimer ∧
    (endReprint o s).store.patrolRead = s.store.patrolRead ∧ (endReprint o s).store.linkRead = s.store.linkRead ∧
    (endReprint o s).send = s.send ∧ (endReprint o s).take = s.take ∧ (endReprint o s).compose = s.compose ∧
    (endReprint o s).supply = s.supply ∧ (endReprint o s).link = s.link ∧ (endReprint o s).faults = s.faults ∧
    (endReprint o s).mem = s.mem ∧ (endReprint o s).draws = s.draws ∧ (endReprint o s).pending = s.pending := by
  simp only [endReprint]; (repeat' split) <;> simp

@[simp] theorem reprintSettle_frame (s : State) :
    (reprintSettle s).held = s.held ∧ (reprintSettle s).params = s.params ∧ (reprintSettle s).modem = s.modem ∧
    (reprintSettle s).framer = s.framer ∧ (reprintSettle s).disp = s.disp ∧ (reprintSettle s).kbd = s.kbd ∧
    (reprintSettle s).comp.queue = s.comp.queue ∧ (reprintSettle s).comp.linkPrint = s.comp.linkPrint ∧
    (reprintSettle s).comp.output = s.comp.output ∧ (reprintSettle s).comp.cells = s.comp.cells ∧
    (reprintSettle s).comp.column = s.comp.column ∧ (reprintSettle s).comp.wrapPending = s.comp.wrapPending ∧
    (reprintSettle s).comp.lineSource = s.comp.lineSource ∧ (reprintSettle s).comp.formCount = s.comp.formCount ∧
    (reprintSettle s).comp.idleTimer = s.comp.idleTimer ∧ (reprintSettle s).comp.flushDue = s.comp.flushDue ∧
    (reprintSettle s).strobe = s.strobe ∧ (reprintSettle s).engine = s.engine ∧ (reprintSettle s).head = s.head ∧
    (reprintSettle s).store.state = s.store.state ∧ (reprintSettle s).store.mountNext = s.store.mountNext ∧
    (reprintSettle s).store.formatNext = s.store.formatNext ∧ (reprintSettle s).store.free = s.store.free ∧
    (reprintSettle s).store.bad = s.store.bad ∧ (reprintSettle s).store.sectors = s.store.sectors ∧
    (reprintSettle s).store.jobs = s.store.jobs ∧ (reprintSettle s).store.patrolPos = s.store.patrolPos ∧
    (reprintSettle s).store.patrolTimer = s.store.patrolTimer ∧
    (reprintSettle s).store.patrolRead = s.store.patrolRead ∧ (reprintSettle s).store.linkRead = s.store.linkRead ∧
    (reprintSettle s).send = s.send ∧ (reprintSettle s).take = s.take ∧ (reprintSettle s).compose = s.compose ∧
    (reprintSettle s).supply = s.supply ∧ (reprintSettle s).link = s.link ∧ (reprintSettle s).faults = s.faults ∧
    (reprintSettle s).mem = s.mem ∧ (reprintSettle s).draws = s.draws ∧ (reprintSettle s).pending = s.pending := by
  simp only [reprintSettle]; (repeat' split) <;> simp

@[simp] theorem reprintTake_frame (e : PrintEntry) (s : State) :
    (reprintTake e s).held = s.held ∧ (reprintTake e s).params = s.params ∧ (reprintTake e s).modem = s.modem ∧
    (reprintTake e s).framer = s.framer ∧ (reprintTake e s).disp = s.disp ∧ (reprintTake e s).kbd = s.kbd ∧
    (reprintTake e s).comp = s.comp ∧ (reprintTake e s).strobe = s.strobe ∧ (reprintTake e s).engine = s.engine ∧
    (reprintTake e s).head = s.head ∧ (reprintTake e s).store = s.store ∧ (reprintTake e s).send = s.send ∧
    (reprintTake e s).take = s.take ∧ (reprintTake e s).compose = s.compose ∧ (reprintTake e s).supply = s.supply ∧
    (reprintTake e s).link = s.link ∧ (reprintTake e s).reports = s.reports ∧ (reprintTake e s).faults = s.faults ∧
    (reprintTake e s).mem = s.mem ∧ (reprintTake e s).draws = s.draws ∧ (reprintTake e s).pending = s.pending := by
  simp [reprintTake]

end Sys2Proof.Machine
end

