-- ==== Sys2Proof/Laws/FramePrint.lean ====
section
/-! SUPPORT. What each shared operation leaves as it was: the print side and the store port.
Each lemma names every field, or part of a field, that the operation does not touch. -/

namespace Sys2Proof.Machine

@[simp] theorem placeJob_frame (j : Job) (s : State) :
    (placeJob j s).held = s.held ∧ (placeJob j s).params = s.params ∧ (placeJob j s).modem = s.modem ∧
    (placeJob j s).framer = s.framer ∧ (placeJob j s).disp = s.disp ∧ (placeJob j s).kbd = s.kbd ∧
    (placeJob j s).comp.queue = s.comp.queue ∧ (placeJob j s).comp.owner = s.comp.owner ∧
    (placeJob j s).comp.ownerTimer = s.comp.ownerTimer ∧ (placeJob j s).comp.linkPrint = s.comp.linkPrint ∧
    (placeJob j s).comp.cells = s.comp.cells ∧ (placeJob j s).comp.column = s.comp.column ∧
    (placeJob j s).comp.wrapPending = s.comp.wrapPending ∧ (placeJob j s).comp.lineSource = s.comp.lineSource ∧
    (placeJob j s).comp.formCount = s.comp.formCount ∧ (placeJob j s).comp.idleTimer = s.comp.idleTimer ∧
    (placeJob j s).comp.flushDue = s.comp.flushDue ∧ (placeJob j s).comp.keysEcho = s.comp.keysEcho ∧
    (placeJob j s).strobe = s.strobe ∧ (placeJob j s).engine = s.engine ∧ (placeJob j s).head = s.head ∧
    (placeJob j s).store = s.store ∧ (placeJob j s).send = s.send ∧ (placeJob j s).reprint = s.reprint ∧
    (placeJob j s).take = s.take ∧ (placeJob j s).compose = s.compose ∧ (placeJob j s).supply = s.supply ∧
    (placeJob j s).link = s.link ∧ (placeJob j s).reports = s.reports ∧ (placeJob j s).faults = s.faults ∧
    (placeJob j s).mem = s.mem ∧ (placeJob j s).draws = s.draws ∧ (placeJob j s).pending = s.pending := by
  simp [placeJob]

@[simp] theorem printLine_frame (s : State) :
    (printLine s).held = s.held ∧ (printLine s).params = s.params ∧ (printLine s).modem = s.modem ∧
    (printLine s).framer = s.framer ∧ (printLine s).disp = s.disp ∧ (printLine s).kbd = s.kbd ∧
    (printLine s).comp.queue = s.comp.queue ∧ (printLine s).comp.owner = s.comp.owner ∧
    (printLine s).comp.ownerTimer = s.comp.ownerTimer ∧ (printLine s).comp.linkPrint = s.comp.linkPrint ∧
    (printLine s).comp.column = s.comp.column ∧ (printLine s).comp.wrapPending = s.comp.wrapPending ∧
    (printLine s).comp.idleTimer = s.comp.idleTimer ∧ (printLine s).comp.flushDue = s.comp.flushDue ∧
    (printLine s).comp.keysEcho = s.comp.keysEcho ∧ (printLine s).strobe = s.strobe ∧
    (printLine s).engine = s.engine ∧ (printLine s).head = s.head ∧ (printLine s).store = s.store ∧
    (printLine s).send = s.send ∧ (printLine s).reprint = s.reprint ∧ (printLine s).take = s.take ∧
    (printLine s).compose = s.compose ∧ (printLine s).supply = s.supply ∧ (printLine s).link = s.link ∧
    (printLine s).reports = s.reports ∧ (printLine s).faults = s.faults ∧ (printLine s).mem = s.mem ∧
    (printLine s).draws = s.draws ∧ (printLine s).pending = s.pending := by
  simp [printLine]

@[simp] theorem placeFeed_frame (lines : Nat) (key : Option Nat) (s : State) :
    (placeFeed lines key s).held = s.held ∧ (placeFeed lines key s).params = s.params ∧
    (placeFeed lines key s).modem = s.modem ∧ (placeFeed lines key s).framer = s.framer ∧
    (placeFeed lines key s).disp = s.disp ∧ (placeFeed lines key s).kbd = s.kbd ∧
    (placeFeed lines key s).comp.queue = s.comp.queue ∧ (placeFeed lines key s).comp.owner = s.comp.owner ∧
    (placeFeed lines key s).comp.ownerTimer = s.comp.ownerTimer ∧
    (placeFeed lines key s).comp.linkPrint = s.comp.linkPrint ∧ (placeFeed lines key s).comp.column = s.comp.column ∧
    (placeFeed lines key s).comp.wrapPending = s.comp.wrapPending ∧
    (placeFeed lines key s).comp.idleTimer = s.comp.idleTimer ∧
    (placeFeed lines key s).comp.flushDue = s.comp.flushDue ∧
    (placeFeed lines key s).comp.keysEcho = s.comp.keysEcho ∧ (placeFeed lines key s).strobe = s.strobe ∧
    (placeFeed lines key s).engine = s.engine ∧ (placeFeed lines key s).head = s.head ∧
    (placeFeed lines key s).store = s.store ∧ (placeFeed lines key s).send = s.send ∧
    (placeFeed lines key s).reprint = s.reprint ∧ (placeFeed lines key s).take = s.take ∧
    (placeFeed lines key s).compose = s.compose ∧ (placeFeed lines key s).supply = s.supply ∧
    (placeFeed lines key s).link = s.link ∧ (placeFeed lines key s).reports = s.reports ∧
    (placeFeed lines key s).faults = s.faults ∧ (placeFeed lines key s).mem = s.mem ∧
    (placeFeed lines key s).draws = s.draws ∧ (placeFeed lines key s).pending = s.pending := by
  simp only [placeFeed]; (repeat' split) <;> simp

@[simp] theorem keyFeed_frame (p : Nat) (s : State) :
    (keyFeed p s).held = s.held ∧ (keyFeed p s).params = s.params ∧ (keyFeed p s).modem = s.modem ∧
    (keyFeed p s).framer = s.framer ∧ (keyFeed p s).disp = s.disp ∧ (keyFeed p s).kbd = s.kbd ∧
    (keyFeed p s).comp.queue = s.comp.queue ∧ (keyFeed p s).comp.owner = s.comp.owner ∧
    (keyFeed p s).comp.ownerTimer = s.comp.ownerTimer ∧ (keyFeed p s).comp.linkPrint = s.comp.linkPrint ∧
    (keyFeed p s).comp.column = s.comp.column ∧ (keyFeed p s).comp.wrapPending = s.comp.wrapPending ∧
    (keyFeed p s).comp.idleTimer = s.comp.idleTimer ∧ (keyFeed p s).comp.flushDue = s.comp.flushDue ∧
    (keyFeed p s).comp.keysEcho = s.comp.keysEcho ∧ (keyFeed p s).strobe = s.strobe ∧
    (keyFeed p s).engine = s.engine ∧ (keyFeed p s).head = s.head ∧ (keyFeed p s).store = s.store ∧
    (keyFeed p s).send = s.send ∧ (keyFeed p s).reprint = s.reprint ∧ (keyFeed p s).take = s.take ∧
    (keyFeed p s).compose = s.compose ∧ (keyFeed p s).supply = s.supply ∧ (keyFeed p s).link = s.link ∧
    (keyFeed p s).reports = s.reports ∧ (keyFeed p s).faults = s.faults ∧ (keyFeed p s).mem = s.mem ∧
    (keyFeed p s).draws = s.draws ∧ (keyFeed p s).pending = s.pending := by
  simp only [keyFeed]; (repeat' split) <;> simp

@[simp] theorem composeFullWrite_frame (s : State) :
    (composeFullWrite s).held = s.held ∧ (composeFullWrite s).params = s.params ∧
    (composeFullWrite s).modem = s.modem ∧ (composeFullWrite s).framer = s.framer ∧
    (composeFullWrite s).disp = s.disp ∧ (composeFullWrite s).kbd = s.kbd ∧ (composeFullWrite s).comp = s.comp ∧
    (composeFullWrite s).strobe = s.strobe ∧ (composeFullWrite s).engine = s.engine ∧
    (composeFullWrite s).head = s.head ∧ (composeFullWrite s).store = s.store ∧ (composeFullWrite s).send = s.send ∧
    (composeFullWrite s).reprint = s.reprint ∧ (composeFullWrite s).take = s.take ∧
    (composeFullWrite s).supply = s.supply ∧ (composeFullWrite s).link = s.link ∧
    (composeFullWrite s).reports = s.reports ∧ (composeFullWrite s).faults = s.faults ∧
    (composeFullWrite s).mem = s.mem ∧ (composeFullWrite s).draws = s.draws ∧
    (composeFullWrite s).pending = s.pending := by
  simp only [composeFullWrite]; (repeat' split) <;> simp

@[simp] theorem composeAccept_frame (c : Code) (s : State) :
    (composeAccept c s).held = s.held ∧ (composeAccept c s).params = s.params ∧ (composeAccept c s).modem = s.modem ∧
    (composeAccept c s).framer = s.framer ∧ (composeAccept c s).disp = s.disp ∧ (composeAccept c s).kbd = s.kbd ∧
    (composeAccept c s).comp = s.comp ∧ (composeAccept c s).strobe = s.strobe ∧
    (composeAccept c s).engine = s.engine ∧ (composeAccept c s).head = s.head ∧ (composeAccept c s).store = s.store ∧
    (composeAccept c s).send = s.send ∧ (composeAccept c s).reprint = s.reprint ∧ (composeAccept c s).take = s.take ∧
    (composeAccept c s).supply = s.supply ∧ (composeAccept c s).link = s.link ∧
    (composeAccept c s).reports = s.reports ∧ (composeAccept c s).faults = s.faults ∧
    (composeAccept c s).mem = s.mem ∧ (composeAccept c s).draws = s.draws ∧
    (composeAccept c s).pending = s.pending := by
  simp only [composeAccept]; (repeat' split) <;> simp

@[simp] theorem composeFinalWrite_frame (s : State) :
    (composeFinalWrite s).held = s.held ∧ (composeFinalWrite s).params = s.params ∧
    (composeFinalWrite s).modem = s.modem ∧ (composeFinalWrite s).framer = s.framer ∧
    (composeFinalWrite s).disp = s.disp ∧ (composeFinalWrite s).kbd = s.kbd ∧ (composeFinalWrite s).comp = s.comp ∧
    (composeFinalWrite s).strobe = s.strobe ∧ (composeFinalWrite s).engine = s.engine ∧
    (composeFinalWrite s).head = s.head ∧ (composeFinalWrite s).store = s.store ∧
    (composeFinalWrite s).send = s.send ∧ (composeFinalWrite s).reprint = s.reprint ∧
    (composeFinalWrite s).take = s.take ∧ (composeFinalWrite s).supply = s.supply ∧
    (composeFinalWrite s).link = s.link ∧ (composeFinalWrite s).reports = s.reports ∧
    (composeFinalWrite s).faults = s.faults ∧ (composeFinalWrite s).mem = s.mem ∧
    (composeFinalWrite s).draws = s.draws ∧ (composeFinalWrite s).pending = s.pending := by
  simp only [composeFinalWrite]; (repeat' split) <;> simp

@[simp] theorem endCompose_frame (s : State) :
    (endCompose s).held = s.held ∧ (endCompose s).params = s.params ∧ (endCompose s).modem = s.modem ∧
    (endCompose s).framer = s.framer ∧ (endCompose s).disp = s.disp ∧ (endCompose s).kbd = s.kbd ∧
    (endCompose s).comp = s.comp ∧ (endCompose s).strobe = s.strobe ∧ (endCompose s).engine = s.engine ∧
    (endCompose s).head = s.head ∧ (endCompose s).store = s.store ∧ (endCompose s).send = s.send ∧
    (endCompose s).reprint = s.reprint ∧ (endCompose s).take = s.take ∧ (endCompose s).supply = s.supply ∧
    (endCompose s).link = s.link ∧ (endCompose s).reports = s.reports ∧ (endCompose s).faults = s.faults ∧
    (endCompose s).mem = s.mem ∧ (endCompose s).draws = s.draws ∧ (endCompose s).pending = s.pending := by
  simp [endCompose]

@[simp] theorem readEcho_frame (s : State) :
    (readEcho s).held = s.held ∧ (readEcho s).params = s.params ∧ (readEcho s).modem = s.modem ∧
    (readEcho s).framer = s.framer ∧ (readEcho s).disp = s.disp ∧ (readEcho s).kbd = s.kbd ∧
    (readEcho s).comp.queue = s.comp.queue ∧ (readEcho s).comp.owner = s.comp.owner ∧
    (readEcho s).comp.ownerTimer = s.comp.ownerTimer ∧ (readEcho s).comp.linkPrint = s.comp.linkPrint ∧
    (readEcho s).comp.output = s.comp.output ∧ (readEcho s).comp.cells = s.comp.cells ∧
    (readEcho s).comp.column = s.comp.column ∧ (readEcho s).comp.wrapPending = s.comp.wrapPending ∧
    (readEcho s).comp.lineSource = s.comp.lineSource ∧ (readEcho s).comp.formCount = s.comp.formCount ∧
    (readEcho s).comp.idleTimer = s.comp.idleTimer ∧ (readEcho s).comp.flushDue = s.comp.flushDue ∧
    (readEcho s).strobe = s.strobe ∧ (readEcho s).engine = s.engine ∧ (readEcho s).head = s.head ∧
    (readEcho s).store = s.store ∧ (readEcho s).send = s.send ∧ (readEcho s).reprint = s.reprint ∧
    (readEcho s).take = s.take ∧ (readEcho s).compose = s.compose ∧ (readEcho s).supply = s.supply ∧
    (readEcho s).link = s.link ∧ (readEcho s).reports = s.reports ∧ (readEcho s).faults = s.faults ∧
    (readEcho s).mem = s.mem ∧ (readEcho s).draws = s.draws ∧ (readEcho s).pending = s.pending := by
  simp [readEcho]

@[simp] theorem readEcho_keysEcho (s : State) : (readEcho s).comp.keysEcho = s.params.composeEcho := rfl

@[simp] theorem echoSettle_frame (s0 s : State) :
    (echoSettle s0 s).held = s.held ∧ (echoSettle s0 s).params = s.params ∧ (echoSettle s0 s).modem = s.modem ∧
    (echoSettle s0 s).framer = s.framer ∧ (echoSettle s0 s).disp = s.disp ∧ (echoSettle s0 s).kbd = s.kbd ∧
    (echoSettle s0 s).comp.queue = s.comp.queue ∧ (echoSettle s0 s).comp.owner = s.comp.owner ∧
    (echoSettle s0 s).comp.ownerTimer = s.comp.ownerTimer ∧ (echoSettle s0 s).comp.linkPrint = s.comp.linkPrint ∧
    (echoSettle s0 s).comp.output = s.comp.output ∧ (echoSettle s0 s).comp.cells = s.comp.cells ∧
    (echoSettle s0 s).comp.column = s.comp.column ∧ (echoSettle s0 s).comp.wrapPending = s.comp.wrapPending ∧
    (echoSettle s0 s).comp.lineSource = s.comp.lineSource ∧ (echoSettle s0 s).comp.formCount = s.comp.formCount ∧
    (echoSettle s0 s).comp.idleTimer = s.comp.idleTimer ∧ (echoSettle s0 s).comp.flushDue = s.comp.flushDue ∧
    (echoSettle s0 s).strobe = s.strobe ∧ (echoSettle s0 s).engine = s.engine ∧ (echoSettle s0 s).head = s.head ∧
    (echoSettle s0 s).store = s.store ∧ (echoSettle s0 s).send = s.send ∧ (echoSettle s0 s).reprint = s.reprint ∧
    (echoSettle s0 s).take = s.take ∧ (echoSettle s0 s).compose = s.compose ∧ (echoSettle s0 s).supply = s.supply ∧
    (echoSettle s0 s).link = s.link ∧ (echoSettle s0 s).reports = s.reports ∧ (echoSettle s0 s).faults = s.faults ∧
    (echoSettle s0 s).mem = s.mem ∧ (echoSettle s0 s).draws = s.draws ∧ (echoSettle s0 s).pending = s.pending := by
  simp only [echoSettle]; (repeat' split) <;> simp

@[simp] theorem arbitrate_frame (s : State) :
    (arbitrate s).held = s.held ∧ (arbitrate s).params = s.params ∧ (arbitrate s).modem = s.modem ∧
    (arbitrate s).framer = s.framer ∧ (arbitrate s).disp = s.disp ∧ (arbitrate s).kbd = s.kbd ∧
    (arbitrate s).comp.queue = s.comp.queue ∧ (arbitrate s).comp.linkPrint = s.comp.linkPrint ∧
    (arbitrate s).comp.output = s.comp.output ∧ (arbitrate s).comp.cells = s.comp.cells ∧
    (arbitrate s).comp.column = s.comp.column ∧ (arbitrate s).comp.wrapPending = s.comp.wrapPending ∧
    (arbitrate s).comp.lineSource = s.comp.lineSource ∧ (arbitrate s).comp.formCount = s.comp.formCount ∧
    (arbitrate s).comp.idleTimer = s.comp.idleTimer ∧ (arbitrate s).comp.flushDue = s.comp.flushDue ∧
    (arbitrate s).strobe = s.strobe ∧ (arbitrate s).engine = s.engine ∧ (arbitrate s).head = s.head ∧
    (arbitrate s).store = s.store ∧ (arbitrate s).send = s.send ∧ (arbitrate s).reprint = s.reprint ∧
    (arbitrate s).take = s.take ∧ (arbitrate s).compose = s.compose ∧ (arbitrate s).supply = s.supply ∧
    (arbitrate s).link = s.link ∧ (arbitrate s).reports = s.reports ∧ (arbitrate s).faults = s.faults ∧
    (arbitrate s).mem = s.mem ∧ (arbitrate s).draws = s.draws ∧ (arbitrate s).pending = s.pending := by
  simp only [arbitrate]; (repeat' split) <;> simp

@[simp] theorem ownerTimerSettle_frame (s : State) :
    (ownerTimerSettle s).held = s.held ∧ (ownerTimerSettle s).params = s.params ∧
    (ownerTimerSettle s).modem = s.modem ∧ (ownerTimerSettle s).framer = s.framer ∧
    (ownerTimerSettle s).disp = s.disp ∧ (ownerTimerSettle s).kbd = s.kbd ∧
    (ownerTimerSettle s).comp.queue = s.comp.queue ∧ (ownerTimerSettle s).comp.owner = s.comp.owner ∧
    (ownerTimerSettle s).comp.linkPrint = s.comp.linkPrint ∧ (ownerTimerSettle s).comp.output = s.comp.output ∧
    (ownerTimerSettle s).comp.cells = s.comp.cells ∧ (ownerTimerSettle s).comp.column = s.comp.column ∧
    (ownerTimerSettle s).comp.wrapPending = s.comp.wrapPending ∧
    (ownerTimerSettle s).comp.lineSource = s.comp.lineSource ∧
    (ownerTimerSettle s).comp.formCount = s.comp.formCount ∧ (ownerTimerSettle s).comp.idleTimer = s.comp.idleTimer ∧
    (ownerTimerSettle s).comp.flushDue = s.comp.flushDue ∧ (ownerTimerSettle s).comp.keysEcho = s.comp.keysEcho ∧
    (ownerTimerSettle s).strobe = s.strobe ∧ (ownerTimerSettle s).engine = s.engine ∧
    (ownerTimerSettle s).head = s.head ∧ (ownerTimerSettle s).store = s.store ∧ (ownerTimerSettle s).send = s.send ∧
    (ownerTimerSettle s).reprint = s.reprint ∧ (ownerTimerSettle s).take = s.take ∧
    (ownerTimerSettle s).compose = s.compose ∧ (ownerTimerSettle s).supply = s.supply ∧
    (ownerTimerSettle s).link = s.link ∧ (ownerTimerSettle s).reports = s.reports ∧
    (ownerTimerSettle s).faults = s.faults ∧ (ownerTimerSettle s).mem = s.mem ∧ (ownerTimerSettle s).draws = s.draws ∧
    (ownerTimerSettle s).pending = s.pending := by
  simp only [ownerTimerSettle]; (repeat' split) <;> simp

@[simp] theorem idleTimerSettle_frame (s0 s : State) :
    (idleTimerSettle s0 s).held = s.held ∧ (idleTimerSettle s0 s).params = s.params ∧
    (idleTimerSettle s0 s).modem = s.modem ∧ (idleTimerSettle s0 s).framer = s.framer ∧
    (idleTimerSettle s0 s).disp = s.disp ∧ (idleTimerSettle s0 s).kbd = s.kbd ∧
    (idleTimerSettle s0 s).comp.queue = s.comp.queue ∧ (idleTimerSettle s0 s).comp.owner = s.comp.owner ∧
    (idleTimerSettle s0 s).comp.ownerTimer = s.comp.ownerTimer ∧
    (idleTimerSettle s0 s).comp.linkPrint = s.comp.linkPrint ∧ (idleTimerSettle s0 s).comp.output = s.comp.output ∧
    (idleTimerSettle s0 s).comp.cells = s.comp.cells ∧ (idleTimerSettle s0 s).comp.column = s.comp.column ∧
    (idleTimerSettle s0 s).comp.wrapPending = s.comp.wrapPending ∧
    (idleTimerSettle s0 s).comp.lineSource = s.comp.lineSource ∧
    (idleTimerSettle s0 s).comp.formCount = s.comp.formCount ∧
    (idleTimerSettle s0 s).comp.keysEcho = s.comp.keysEcho ∧ (idleTimerSettle s0 s).strobe = s.strobe ∧
    (idleTimerSettle s0 s).engine = s.engine ∧ (idleTimerSettle s0 s).head = s.head ∧
    (idleTimerSettle s0 s).store = s.store ∧ (idleTimerSettle s0 s).send = s.send ∧
    (idleTimerSettle s0 s).reprint = s.reprint ∧ (idleTimerSettle s0 s).take = s.take ∧
    (idleTimerSettle s0 s).compose = s.compose ∧ (idleTimerSettle s0 s).supply = s.supply ∧
    (idleTimerSettle s0 s).link = s.link ∧ (idleTimerSettle s0 s).reports = s.reports ∧
    (idleTimerSettle s0 s).faults = s.faults ∧ (idleTimerSettle s0 s).mem = s.mem ∧
    (idleTimerSettle s0 s).draws = s.draws ∧ (idleTimerSettle s0 s).pending = s.pending := by
  simp only [idleTimerSettle]; (repeat' split) <;> simp

@[simp] theorem depositEntry_frame (e : PrintEntry) (s : State) :
    (depositEntry e s).held = s.held ∧ (depositEntry e s).params = s.params ∧ (depositEntry e s).modem = s.modem ∧
    (depositEntry e s).framer = s.framer ∧ (depositEntry e s).disp.route = s.disp.route ∧
    (depositEntry e s).disp.headExamined = s.disp.headExamined ∧ (depositEntry e s).disp.record = s.disp.record ∧
    (depositEntry e s).disp.remotePause = s.disp.remotePause ∧
    (depositEntry e s).disp.answerback = s.disp.answerback ∧ (depositEntry e s).disp.progress = s.disp.progress ∧
    (depositEntry e s).kbd = s.kbd ∧ (depositEntry e s).comp.owner = s.comp.owner ∧
    (depositEntry e s).comp.linkPrint = s.comp.linkPrint ∧ (depositEntry e s).comp.output = s.comp.output ∧
    (depositEntry e s).comp.cells = s.comp.cells ∧ (depositEntry e s).comp.column = s.comp.column ∧
    (depositEntry e s).comp.wrapPending = s.comp.wrapPending ∧
    (depositEntry e s).comp.lineSource = s.comp.lineSource ∧ (depositEntry e s).comp.formCount = s.comp.formCount ∧
    (depositEntry e s).comp.idleTimer = s.comp.idleTimer ∧ (depositEntry e s).comp.flushDue = s.comp.flushDue ∧
    (depositEntry e s).comp.keysEcho = s.params.composeEcho ∧ (depositEntry e s).strobe = s.strobe ∧
    (depositEntry e s).engine = s.engine ∧ (depositEntry e s).head = s.head ∧ (depositEntry e s).store = s.store ∧
    (depositEntry e s).send = s.send ∧ (depositEntry e s).reprint = s.reprint ∧ (depositEntry e s).take = s.take ∧
    (depositEntry e s).compose = s.compose ∧ (depositEntry e s).supply = s.supply ∧ (depositEntry e s).link = s.link ∧
    (depositEntry e s).reports = s.reports ∧ (depositEntry e s).faults = s.faults ∧ (depositEntry e s).mem = s.mem ∧
    (depositEntry e s).draws = s.draws ∧ (depositEntry e s).pending = s.pending := by
  simp [depositEntry]

@[simp] theorem startOp_frame (c : PortClaimant) (op : PortOp) (b : Nat) (s : State) :
    (startOp c op b s).held = s.held ∧ (startOp c op b s).params = s.params ∧ (startOp c op b s).modem = s.modem ∧
    (startOp c op b s).framer = s.framer ∧ (startOp c op b s).disp = s.disp ∧ (startOp c op b s).kbd = s.kbd ∧
    (startOp c op b s).comp = s.comp ∧ (startOp c op b s).strobe = s.strobe ∧ (startOp c op b s).engine = s.engine ∧
    (startOp c op b s).head = s.head ∧ (startOp c op b s).store.state = s.store.state ∧
    (startOp c op b s).store.mountNext = s.store.mountNext ∧
    (startOp c op b s).store.formatNext = s.store.formatNext ∧ (startOp c op b s).store.free = s.store.free ∧
    (startOp c op b s).store.bad = s.store.bad ∧ (startOp c op b s).store.sectors = s.store.sectors ∧
    (startOp c op b s).store.jobs = s.store.jobs ∧ (startOp c op b s).store.patrolPos = s.store.patrolPos ∧
    (startOp c op b s).store.patrolTimer = s.store.patrolTimer ∧
    (startOp c op b s).store.patrolRead = s.store.patrolRead ∧ (startOp c op b s).store.linkRead = s.store.linkRead ∧
    (startOp c op b s).send = s.send ∧ (startOp c op b s).reprint = s.reprint ∧ (startOp c op b s).take = s.take ∧
    (startOp c op b s).compose = s.compose ∧ (startOp c op b s).supply = s.supply ∧ (startOp c op b s).link = s.link ∧
    (startOp c op b s).reports = s.reports ∧ (startOp c op b s).faults = s.faults ∧ (startOp c op b s).mem = s.mem ∧
    (startOp c op b s).draws = s.draws ∧ (startOp c op b s).pending = s.pending := by
  simp only [startOp]; (repeat' split) <;> simp

@[simp] theorem writeFault_frame (w : DataWrite) (lastFailed : Option Nat) (s : State) :
    (writeFault w lastFailed s).held = s.held ∧ (writeFault w lastFailed s).params = s.params ∧
    (writeFault w lastFailed s).modem = s.modem ∧ (writeFault w lastFailed s).framer = s.framer ∧
    (writeFault w lastFailed s).disp = s.disp ∧ (writeFault w lastFailed s).kbd = s.kbd ∧
    (writeFault w lastFailed s).comp = s.comp ∧ (writeFault w lastFailed s).strobe = s.strobe ∧
    (writeFault w lastFailed s).engine = s.engine ∧ (writeFault w lastFailed s).head = s.head ∧
    (writeFault w lastFailed s).store = s.store ∧ (writeFault w lastFailed s).send = s.send ∧
    (writeFault w lastFailed s).reprint = s.reprint ∧ (writeFault w lastFailed s).take = s.take ∧
    (writeFault w lastFailed s).compose = s.compose ∧ (writeFault w lastFailed s).supply = s.supply ∧
    (writeFault w lastFailed s).link = s.link ∧ (writeFault w lastFailed s).mem = s.mem ∧
    (writeFault w lastFailed s).draws = s.draws ∧ (writeFault w lastFailed s).pending = s.pending := by
  simp [writeFault]

@[simp] theorem takeWriteFailed_frame (w : DataWrite) (s : State) :
    (takeWriteFailed w s).held = s.held ∧ (takeWriteFailed w s).params = s.params ∧
    (takeWriteFailed w s).modem = s.modem ∧ (takeWriteFailed w s).framer.sampler = s.framer.sampler ∧
    (takeWriteFailed w s).framer.shift = s.framer.shift ∧ (takeWriteFailed w s).framer.holding = s.framer.holding ∧
    (takeWriteFailed w s).framer.brk = s.framer.brk ∧ (takeWriteFailed w s).framer.linkText = s.framer.linkText ∧
    (takeWriteFailed w s).disp.remotePause = s.disp.remotePause ∧
    (takeWriteFailed w s).disp.answerback = s.disp.answerback ∧
    (takeWriteFailed w s).disp.progress = s.disp.progress ∧ (takeWriteFailed w s).kbd = s.kbd ∧
    (takeWriteFailed w s).comp = s.comp ∧ (takeWriteFailed w s).strobe = s.strobe ∧
    (takeWriteFailed w s).engine = s.engine ∧ (takeWriteFailed w s).head = s.head ∧
    (takeWriteFailed w s).store.state = s.store.state ∧ (takeWriteFailed w s).store.mountNext = s.store.mountNext ∧
    (takeWriteFailed w s).store.formatNext = s.store.formatNext ∧ (takeWriteFailed w s).store.free = s.store.free ∧
    (takeWriteFailed w s).store.bad = s.store.bad ∧ (takeWriteFailed w s).store.sectors = s.store.sectors ∧
    (takeWriteFailed w s).store.inFlight = s.store.inFlight ∧ (takeWriteFailed w s).store.jobs = s.store.jobs ∧
    (takeWriteFailed w s).store.patrolPos = s.store.patrolPos ∧
    (takeWriteFailed w s).store.patrolTimer = s.store.patrolTimer ∧
    (takeWriteFailed w s).store.patrolRead = s.store.patrolRead ∧
    (takeWriteFailed w s).store.linkRead = s.store.linkRead ∧ (takeWriteFailed w s).send = s.send ∧
    (takeWriteFailed w s).reprint = s.reprint ∧ (takeWriteFailed w s).compose = s.compose ∧
    (takeWriteFailed w s).supply = s.supply ∧ (takeWriteFailed w s).link = s.link ∧
    (takeWriteFailed w s).faults = s.faults ∧ (takeWriteFailed w s).mem = s.mem ∧
    (takeWriteFailed w s).draws = s.draws ∧ (takeWriteFailed w s).pending = s.pending := by
  simp only [takeWriteFailed]; (repeat' split) <;> simp

@[simp] theorem composeWriteFailed_frame (s : State) :
    (composeWriteFailed s).held = s.held ∧ (composeWriteFailed s).params = s.params ∧
    (composeWriteFailed s).modem = s.modem ∧ (composeWriteFailed s).framer = s.framer ∧
    (composeWriteFailed s).disp = s.disp ∧ (composeWriteFailed s).kbd = s.kbd ∧ (composeWriteFailed s).comp = s.comp ∧
    (composeWriteFailed s).strobe = s.strobe ∧ (composeWriteFailed s).engine = s.engine ∧
    (composeWriteFailed s).head = s.head ∧ (composeWriteFailed s).store.state = s.store.state ∧
    (composeWriteFailed s).store.mountNext = s.store.mountNext ∧
    (composeWriteFailed s).store.formatNext = s.store.formatNext ∧ (composeWriteFailed s).store.free = s.store.free ∧
    (composeWriteFailed s).store.bad = s.store.bad ∧ (composeWriteFailed s).store.sectors = s.store.sectors ∧
    (composeWriteFailed s).store.inFlight = s.store.inFlight ∧ (composeWriteFailed s).store.jobs = s.store.jobs ∧
    (composeWriteFailed s).store.patrolPos = s.store.patrolPos ∧
    (composeWriteFailed s).store.patrolTimer = s.store.patrolTimer ∧
    (composeWriteFailed s).store.patrolRead = s.store.patrolRead ∧
    (composeWriteFailed s).store.linkRead = s.store.linkRead ∧ (composeWriteFailed s).send = s.send ∧
    (composeWriteFailed s).reprint = s.reprint ∧ (composeWriteFailed s).take = s.take ∧
    (composeWriteFailed s).supply = s.supply ∧ (composeWriteFailed s).link = s.link ∧
    (composeWriteFailed s).faults = s.faults ∧ (composeWriteFailed s).mem = s.mem ∧
    (composeWriteFailed s).draws = s.draws ∧ (composeWriteFailed s).pending = s.pending := by
  simp only [composeWriteFailed]; (repeat' split) <;> simp

@[simp] theorem dataWriteFailed_frame (c : PortClaimant) (w : DataWrite) (lastFailed : Option Nat) (s : State) :
    (dataWriteFailed c w lastFailed s).held = s.held ∧ (dataWriteFailed c w lastFailed s).params = s.params ∧
    (dataWriteFailed c w lastFailed s).modem = s.modem ∧
    (dataWriteFailed c w lastFailed s).framer.sampler = s.framer.sampler ∧
    (dataWriteFailed c w lastFailed s).framer.shift = s.framer.shift ∧
    (dataWriteFailed c w lastFailed s).framer.holding = s.framer.holding ∧
    (dataWriteFailed c w lastFailed s).framer.brk = s.framer.brk ∧
    (dataWriteFailed c w lastFailed s).framer.linkText = s.framer.linkText ∧
    (dataWriteFailed c w lastFailed s).disp.remotePause = s.disp.remotePause ∧
    (dataWriteFailed c w lastFailed s).disp.answerback = s.disp.answerback ∧
    (dataWriteFailed c w lastFailed s).disp.progress = s.disp.progress ∧
    (dataWriteFailed c w lastFailed s).kbd = s.kbd ∧ (dataWriteFailed c w lastFailed s).comp = s.comp ∧
    (dataWriteFailed c w lastFailed s).strobe = s.strobe ∧ (dataWriteFailed c w lastFailed s).engine = s.engine ∧
    (dataWriteFailed c w lastFailed s).head = s.head ∧
    (dataWriteFailed c w lastFailed s).store.state = s.store.state ∧
    (dataWriteFailed c w lastFailed s).store.mountNext = s.store.mountNext ∧
    (dataWriteFailed c w lastFailed s).store.formatNext = s.store.formatNext ∧
    (dataWriteFailed c w lastFailed s).store.free = s.store.free ∧
    (dataWriteFailed c w lastFailed s).store.bad = s.store.bad ∧
    (dataWriteFailed c w lastFailed s).store.sectors = s.store.sectors ∧
    (dataWriteFailed c w lastFailed s).store.inFlight = s.store.inFlight ∧
    (dataWriteFailed c w lastFailed s).store.jobs = s.store.jobs ∧
    (dataWriteFailed c w lastFailed s).store.patrolPos = s.store.patrolPos ∧
    (dataWriteFailed c w lastFailed s).store.patrolTimer = s.store.patrolTimer ∧
    (dataWriteFailed c w lastFailed s).store.patrolRead = s.store.patrolRead ∧
    (dataWriteFailed c w lastFailed s).store.linkRead = s.store.linkRead ∧
    (dataWriteFailed c w lastFailed s).send = s.send ∧ (dataWriteFailed c w lastFailed s).reprint = s.reprint ∧
    (dataWriteFailed c w lastFailed s).supply = s.supply ∧ (dataWriteFailed c w lastFailed s).link = s.link ∧
    (dataWriteFailed c w lastFailed s).mem = s.mem ∧ (dataWriteFailed c w lastFailed s).draws = s.draws ∧
    (dataWriteFailed c w lastFailed s).pending = s.pending := by
  simp only [dataWriteFailed]; (repeat' split) <;> simp

@[simp] theorem composeWriteDone_frame (w : DataWrite) (s : State) :
    (composeWriteDone w s).held = s.held ∧ (composeWriteDone w s).params = s.params ∧
    (composeWriteDone w s).modem = s.modem ∧ (composeWriteDone w s).framer = s.framer ∧
    (composeWriteDone w s).disp = s.disp ∧ (composeWriteDone w s).kbd = s.kbd ∧ (composeWriteDone w s).comp = s.comp ∧
    (composeWriteDone w s).strobe = s.strobe ∧ (composeWriteDone w s).engine = s.engine ∧
    (composeWriteDone w s).head = s.head ∧ (composeWriteDone w s).store.state = s.store.state ∧
    (composeWriteDone w s).store.mountNext = s.store.mountNext ∧
    (composeWriteDone w s).store.formatNext = s.store.formatNext ∧ (composeWriteDone w s).store.free = s.store.free ∧
    (composeWriteDone w s).store.bad = s.store.bad ∧ (composeWriteDone w s).store.sectors = s.store.sectors ∧
    (composeWriteDone w s).store.inFlight = s.store.inFlight ∧ (composeWriteDone w s).store.jobs = s.store.jobs ∧
    (composeWriteDone w s).store.patrolPos = s.store.patrolPos ∧
    (composeWriteDone w s).store.patrolTimer = s.store.patrolTimer ∧
    (composeWriteDone w s).store.patrolRead = s.store.patrolRead ∧
    (composeWriteDone w s).store.linkRead = s.store.linkRead ∧ (composeWriteDone w s).send = s.send ∧
    (composeWriteDone w s).reprint = s.reprint ∧ (composeWriteDone w s).take = s.take ∧
    (composeWriteDone w s).supply = s.supply ∧ (composeWriteDone w s).link = s.link ∧
    (composeWriteDone w s).faults = s.faults ∧ (composeWriteDone w s).mem = s.mem ∧
    (composeWriteDone w s).draws = s.draws ∧ (composeWriteDone w s).pending = s.pending := by
  simp only [composeWriteDone]; (repeat' split) <;> simp

@[simp] theorem dataWriteDone_frame (c : PortClaimant) (w : DataWrite) (b : Nat) (s : State) :
    (dataWriteDone c w b s).held = s.held ∧ (dataWriteDone c w b s).params = s.params ∧
    (dataWriteDone c w b s).modem = s.modem ∧ (dataWriteDone c w b s).framer = s.framer ∧
    (dataWriteDone c w b s).disp = s.disp ∧ (dataWriteDone c w b s).kbd = s.kbd ∧
    (dataWriteDone c w b s).comp = s.comp ∧ (dataWriteDone c w b s).strobe = s.strobe ∧
    (dataWriteDone c w b s).engine = s.engine ∧ (dataWriteDone c w b s).head = s.head ∧
    (dataWriteDone c w b s).store.state = s.store.state ∧
    (dataWriteDone c w b s).store.mountNext = s.store.mountNext ∧
    (dataWriteDone c w b s).store.formatNext = s.store.formatNext ∧ (dataWriteDone c w b s).store.bad = s.store.bad ∧
    (dataWriteDone c w b s).store.sectors = s.store.sectors ∧
    (dataWriteDone c w b s).store.inFlight = s.store.inFlight ∧ (dataWriteDone c w b s).store.jobs = s.store.jobs ∧
    (dataWriteDone c w b s).store.patrolPos = s.store.patrolPos ∧
    (dataWriteDone c w b s).store.patrolTimer = s.store.patrolTimer ∧
    (dataWriteDone c w b s).store.patrolRead = s.store.patrolRead ∧
    (dataWriteDone c w b s).store.linkRead = s.store.linkRead ∧ (dataWriteDone c w b s).send = s.send ∧
    (dataWriteDone c w b s).reprint = s.reprint ∧ (dataWriteDone c w b s).supply = s.supply ∧
    (dataWriteDone c w b s).link = s.link ∧ (dataWriteDone c w b s).faults = s.faults ∧
    (dataWriteDone c w b s).draws = s.draws ∧ (dataWriteDone c w b s).pending = s.pending := by
  simp only [dataWriteDone]; (repeat' split) <;> simp

@[simp] theorem attemptFailed_frame (c : PortClaimant) (w : DataWrite) (b : Nat) (s : State) :
    (attemptFailed c w b s).held = s.held ∧ (attemptFailed c w b s).params = s.params ∧
    (attemptFailed c w b s).modem = s.modem ∧ (attemptFailed c w b s).framer.sampler = s.framer.sampler ∧
    (attemptFailed c w b s).framer.shift = s.framer.shift ∧
    (attemptFailed c w b s).framer.holding = s.framer.holding ∧ (attemptFailed c w b s).framer.brk = s.framer.brk ∧
    (attemptFailed c w b s).framer.linkText = s.framer.linkText ∧
    (attemptFailed c w b s).disp.remotePause = s.disp.remotePause ∧
    (attemptFailed c w b s).disp.answerback = s.disp.answerback ∧
    (attemptFailed c w b s).disp.progress = s.disp.progress ∧ (attemptFailed c w b s).kbd = s.kbd ∧
    (attemptFailed c w b s).comp = s.comp ∧ (attemptFailed c w b s).strobe = s.strobe ∧
    (attemptFailed c w b s).engine = s.engine ∧ (attemptFailed c w b s).head = s.head ∧
    (attemptFailed c w b s).store.state = s.store.state ∧
    (attemptFailed c w b s).store.mountNext = s.store.mountNext ∧
    (attemptFailed c w b s).store.formatNext = s.store.formatNext ∧
    (attemptFailed c w b s).store.sectors = s.store.sectors ∧
    (attemptFailed c w b s).store.inFlight = s.store.inFlight ∧ (attemptFailed c w b s).store.jobs = s.store.jobs ∧
    (attemptFailed c w b s).store.patrolPos = s.store.patrolPos ∧
    (attemptFailed c w b s).store.patrolTimer = s.store.patrolTimer ∧
    (attemptFailed c w b s).store.patrolRead = s.store.patrolRead ∧
    (attemptFailed c w b s).store.linkRead = s.store.linkRead ∧ (attemptFailed c w b s).send = s.send ∧
    (attemptFailed c w b s).reprint = s.reprint ∧ (attemptFailed c w b s).supply = s.supply ∧
    (attemptFailed c w b s).link = s.link ∧ (attemptFailed c w b s).pending = s.pending := by
  simp only [attemptFailed]; (repeat' split) <;> simp

@[simp] theorem popJob_frame (s : State) :
    (popJob s).held = s.held ∧ (popJob s).params = s.params ∧ (popJob s).modem = s.modem ∧
    (popJob s).framer = s.framer ∧ (popJob s).disp = s.disp ∧ (popJob s).kbd = s.kbd ∧ (popJob s).comp = s.comp ∧
    (popJob s).strobe = s.strobe ∧ (popJob s).engine = s.engine ∧ (popJob s).head = s.head ∧
    (popJob s).store.state = s.store.state ∧ (popJob s).store.mountNext = s.store.mountNext ∧
    (popJob s).store.formatNext = s.store.formatNext ∧ (popJob s).store.dir = s.store.dir ∧
    (popJob s).store.free = s.store.free ∧ (popJob s).store.bad = s.store.bad ∧
    (popJob s).store.sectors = s.store.sectors ∧ (popJob s).store.inFlight = s.store.inFlight ∧
    (popJob s).store.patrolPos = s.store.patrolPos ∧ (popJob s).store.patrolTimer = s.store.patrolTimer ∧
    (popJob s).store.patrolRead = s.store.patrolRead ∧ (popJob s).store.linkRead = s.store.linkRead ∧
    (popJob s).send = s.send ∧ (popJob s).reprint = s.reprint ∧ (popJob s).take = s.take ∧
    (popJob s).compose = s.compose ∧ (popJob s).supply = s.supply ∧ (popJob s).link = s.link ∧
    (popJob s).reports = s.reports ∧ (popJob s).faults = s.faults ∧ (popJob s).mem = s.mem ∧
    (popJob s).draws = s.draws ∧ (popJob s).pending = s.pending := by
  simp [popJob]

@[simp] theorem deleteDone_frame (j : DeleteJob) (s : State) :
    (deleteDone j s).held = s.held ∧ (deleteDone j s).params = s.params ∧ (deleteDone j s).modem = s.modem ∧
    (deleteDone j s).framer = s.framer ∧ (deleteDone j s).disp = s.disp ∧ (deleteDone j s).kbd = s.kbd ∧
    (deleteDone j s).comp = s.comp ∧ (deleteDone j s).strobe = s.strobe ∧ (deleteDone j s).engine = s.engine ∧
    (deleteDone j s).head = s.head ∧ (deleteDone j s).store.state = s.store.state ∧
    (deleteDone j s).store.mountNext = s.store.mountNext ∧ (deleteDone j s).store.formatNext = s.store.formatNext ∧
    (deleteDone j s).store.free = s.store.free ∧ (deleteDone j s).store.bad = s.store.bad ∧
    (deleteDone j s).store.sectors = s.store.sectors ∧ (deleteDone j s).store.inFlight = s.store.inFlight ∧
    (deleteDone j s).store.patrolPos = s.store.patrolPos ∧ (deleteDone j s).store.patrolTimer = s.store.patrolTimer ∧
    (deleteDone j s).store.patrolRead = s.store.patrolRead ∧ (deleteDone j s).store.linkRead = s.store.linkRead ∧
    (deleteDone j s).send = s.send ∧ (deleteDone j s).reprint = s.reprint ∧ (deleteDone j s).compose = s.compose ∧
    (deleteDone j s).supply = s.supply ∧ (deleteDone j s).link = s.link ∧ (deleteDone j s).faults = s.faults ∧
    (deleteDone j s).mem = s.mem ∧ (deleteDone j s).draws = s.draws ∧ (deleteDone j s).pending = s.pending := by
  simp only [deleteDone]; (repeat' split) <;> simp

@[simp] theorem deleteTurn_frame (s : State) :
    (deleteTurn s).held = s.held ∧ (deleteTurn s).params = s.params ∧ (deleteTurn s).modem = s.modem ∧
    (deleteTurn s).framer = s.framer ∧ (deleteTurn s).disp = s.disp ∧ (deleteTurn s).kbd = s.kbd ∧
    (deleteTurn s).comp = s.comp ∧ (deleteTurn s).strobe = s.strobe ∧ (deleteTurn s).engine = s.engine ∧
    (deleteTurn s).head = s.head ∧ (deleteTurn s).store.state = s.store.state ∧
    (deleteTurn s).store.mountNext = s.store.mountNext ∧ (deleteTurn s).store.formatNext = s.store.formatNext ∧
    (deleteTurn s).store.free = s.store.free ∧ (deleteTurn s).store.bad = s.store.bad ∧
    (deleteTurn s).store.sectors = s.store.sectors ∧ (deleteTurn s).store.inFlight = s.store.inFlight ∧
    (deleteTurn s).store.patrolPos = s.store.patrolPos ∧ (deleteTurn s).store.patrolTimer = s.store.patrolTimer ∧
    (deleteTurn s).store.patrolRead = s.store.patrolRead ∧ (deleteTurn s).store.linkRead = s.store.linkRead ∧
    (deleteTurn s).send = s.send ∧ (deleteTurn s).reprint = s.reprint ∧ (deleteTurn s).compose = s.compose ∧
    (deleteTurn s).supply = s.supply ∧ (deleteTurn s).link = s.link ∧ (deleteTurn s).faults = s.faults ∧
    (deleteTurn s).mem = s.mem ∧ (deleteTurn s).draws = s.draws ∧ (deleteTurn s).pending = s.pending := by
  simp only [deleteTurn]; (repeat' split) <;> simp

@[simp] theorem deleteFailed_frame (j : DeleteJob) (b : Nat) (s : State) :
    (deleteFailed j b s).held = s.held ∧ (deleteFailed j b s).params = s.params ∧
    (deleteFailed j b s).modem = s.modem ∧ (deleteFailed j b s).framer.sampler = s.framer.sampler ∧
    (deleteFailed j b s).framer.shift = s.framer.shift ∧ (deleteFailed j b s).framer.holding = s.framer.holding ∧
    (deleteFailed j b s).framer.brk = s.framer.brk ∧ (deleteFailed j b s).framer.linkText = s.framer.linkText ∧
    (deleteFailed j b s).disp.remotePause = s.disp.remotePause ∧
    (deleteFailed j b s).disp.answerback = s.disp.answerback ∧ (deleteFailed j b s).disp.progress = s.disp.progress ∧
    (deleteFailed j b s).kbd = s.kbd ∧ (deleteFailed j b s).comp = s.comp ∧ (deleteFailed j b s).strobe = s.strobe ∧
    (deleteFailed j b s).engine = s.engine ∧ (deleteFailed j b s).head = s.head ∧
    (deleteFailed j b s).store.state = s.store.state ∧ (deleteFailed j b s).store.mountNext = s.store.mountNext ∧
    (deleteFailed j b s).store.formatNext = s.store.formatNext ∧ (deleteFailed j b s).store.free = s.store.free ∧
    (deleteFailed j b s).store.bad = s.store.bad ∧ (deleteFailed j b s).store.sectors = s.store.sectors ∧
    (deleteFailed j b s).store.inFlight = s.store.inFlight ∧
    (deleteFailed j b s).store.patrolPos = s.store.patrolPos ∧
    (deleteFailed j b s).store.patrolTimer = s.store.patrolTimer ∧
    (deleteFailed j b s).store.patrolRead = s.store.patrolRead ∧
    (deleteFailed j b s).store.linkRead = s.store.linkRead ∧ (deleteFailed j b s).send = s.send ∧
    (deleteFailed j b s).reprint = s.reprint ∧ (deleteFailed j b s).compose = s.compose ∧
    (deleteFailed j b s).supply = s.supply ∧ (deleteFailed j b s).link = s.link ∧ (deleteFailed j b s).mem = s.mem ∧
    (deleteFailed j b s).draws = s.draws ∧ (deleteFailed j b s).pending = s.pending := by
  simp only [deleteFailed]; (repeat' split) <;> simp

@[simp] theorem formatOn_frame (b : Nat) (s : State) :
    (formatOn b s).held = s.held ∧ (formatOn b s).params = s.params ∧ (formatOn b s).modem = s.modem ∧
    (formatOn b s).framer = s.framer ∧ (formatOn b s).disp = s.disp ∧ (formatOn b s).kbd = s.kbd ∧
    (formatOn b s).comp = s.comp ∧ (formatOn b s).strobe = s.strobe ∧ (formatOn b s).engine = s.engine ∧
    (formatOn b s).head = s.head ∧ (formatOn b s).store.mountNext = s.store.mountNext ∧
    (formatOn b s).store.dir = s.store.dir ∧ (formatOn b s).store.free = s.store.free ∧
    (formatOn b s).store.bad = s.store.bad ∧ (formatOn b s).store.sectors = s.store.sectors ∧
    (formatOn b s).store.inFlight = s.store.inFlight ∧ (formatOn b s).store.jobs = s.store.jobs ∧
    (formatOn b s).store.patrolPos = s.store.patrolPos ∧ (formatOn b s).store.patrolRead = s.store.patrolRead ∧
    (formatOn b s).store.linkRead = s.store.linkRead ∧ (formatOn b s).send = s.send ∧
    (formatOn b s).reprint = s.reprint ∧ (formatOn b s).take = s.take ∧ (formatOn b s).compose = s.compose ∧
    (formatOn b s).supply = s.supply ∧ (formatOn b s).link = s.link ∧ (formatOn b s).faults = s.faults ∧
    (formatOn b s).mem = s.mem ∧ (formatOn b s).draws = s.draws ∧ (formatOn b s).pending = s.pending := by
  simp only [formatOn]; (repeat' split) <;> simp

@[simp] theorem formatFailed_frame (s : State) :
    (formatFailed s).held = s.held ∧ (formatFailed s).params = s.params ∧ (formatFailed s).modem = s.modem ∧
    (formatFailed s).framer = s.framer ∧ (formatFailed s).disp = s.disp ∧ (formatFailed s).kbd = s.kbd ∧
    (formatFailed s).comp = s.comp ∧ (formatFailed s).strobe = s.strobe ∧ (formatFailed s).engine = s.engine ∧
    (formatFailed s).head = s.head ∧ (formatFailed s).store.mountNext = s.store.mountNext ∧
    (formatFailed s).store.formatNext = s.store.formatNext ∧ (formatFailed s).store.dir = s.store.dir ∧
    (formatFailed s).store.free = s.store.free ∧ (formatFailed s).store.bad = s.store.bad ∧
    (formatFailed s).store.sectors = s.store.sectors ∧ (formatFailed s).store.inFlight = s.store.inFlight ∧
    (formatFailed s).store.jobs = s.store.jobs ∧ (formatFailed s).store.patrolPos = s.store.patrolPos ∧
    (formatFailed s).store.patrolTimer = s.store.patrolTimer ∧
    (formatFailed s).store.patrolRead = s.store.patrolRead ∧ (formatFailed s).store.linkRead = s.store.linkRead ∧
    (formatFailed s).send = s.send ∧ (formatFailed s).reprint = s.reprint ∧ (formatFailed s).take = s.take ∧
    (formatFailed s).compose = s.compose ∧ (formatFailed s).supply = s.supply ∧ (formatFailed s).link = s.link ∧
    (formatFailed s).mem = s.mem ∧ (formatFailed s).draws = s.draws ∧ (formatFailed s).pending = s.pending := by
  simp [formatFailed]

@[simp] theorem releaseDone_frame (b : Nat) (s : State) :
    (releaseDone b s).held = s.held ∧ (releaseDone b s).params = s.params ∧ (releaseDone b s).modem = s.modem ∧
    (releaseDone b s).framer = s.framer ∧ (releaseDone b s).disp = s.disp ∧ (releaseDone b s).kbd = s.kbd ∧
    (releaseDone b s).comp = s.comp ∧ (releaseDone b s).strobe = s.strobe ∧ (releaseDone b s).engine = s.engine ∧
    (releaseDone b s).head = s.head ∧ (releaseDone b s).store.mountNext = s.store.mountNext ∧
    (releaseDone b s).store.bad = s.store.bad ∧ (releaseDone b s).store.sectors = s.store.sectors ∧
    (releaseDone b s).store.inFlight = s.store.inFlight ∧ (releaseDone b s).store.jobs = s.store.jobs ∧
    (releaseDone b s).store.patrolPos = s.store.patrolPos ∧ (releaseDone b s).store.patrolRead = s.store.patrolRead ∧
    (releaseDone b s).store.linkRead = s.store.linkRead ∧ (releaseDone b s).send = s.send ∧
    (releaseDone b s).reprint = s.reprint ∧ (releaseDone b s).take = s.take ∧ (releaseDone b s).compose = s.compose ∧
    (releaseDone b s).supply = s.supply ∧ (releaseDone b s).link = s.link ∧ (releaseDone b s).faults = s.faults ∧
    (releaseDone b s).draws = s.draws ∧ (releaseDone b s).pending = s.pending := by
  simp only [releaseDone]; (repeat' split) <;> simp

@[simp] theorem releaseFailed_frame (b : Nat) (s : State) :
    (releaseFailed b s).held = s.held ∧ (releaseFailed b s).params = s.params ∧ (releaseFailed b s).modem = s.modem ∧
    (releaseFailed b s).framer.sampler = s.framer.sampler ∧ (releaseFailed b s).framer.shift = s.framer.shift ∧
    (releaseFailed b s).framer.holding = s.framer.holding ∧ (releaseFailed b s).framer.brk = s.framer.brk ∧
    (releaseFailed b s).framer.linkText = s.framer.linkText ∧
    (releaseFailed b s).disp.remotePause = s.disp.remotePause ∧
    (releaseFailed b s).disp.answerback = s.disp.answerback ∧ (releaseFailed b s).disp.progress = s.disp.progress ∧
    (releaseFailed b s).kbd = s.kbd ∧ (releaseFailed b s).comp = s.comp ∧ (releaseFailed b s).strobe = s.strobe ∧
    (releaseFailed b s).engine = s.engine ∧ (releaseFailed b s).head = s.head ∧
    (releaseFailed b s).store.mountNext = s.store.mountNext ∧ (releaseFailed b s).store.sectors = s.store.sectors ∧
    (releaseFailed b s).store.inFlight = s.store.inFlight ∧ (releaseFailed b s).store.patrolPos = s.store.patrolPos ∧
    (releaseFailed b s).store.patrolRead = s.store.patrolRead ∧
    (releaseFailed b s).store.linkRead = s.store.linkRead ∧ (releaseFailed b s).send = s.send ∧
    (releaseFailed b s).reprint = s.reprint ∧ (releaseFailed b s).compose = s.compose ∧
    (releaseFailed b s).supply = s.supply ∧ (releaseFailed b s).link = s.link ∧
    (releaseFailed b s).pending = s.pending := by
  simp only [releaseFailed]; (repeat' split) <;> simp

@[simp] theorem takeTurn_frame (s : State) :
    (takeTurn s).held = s.held ∧ (takeTurn s).params = s.params ∧ (takeTurn s).modem = s.modem ∧
    (takeTurn s).framer.sampler = s.framer.sampler ∧ (takeTurn s).framer.shift = s.framer.shift ∧
    (takeTurn s).framer.holding = s.framer.holding ∧ (takeTurn s).framer.brk = s.framer.brk ∧
    (takeTurn s).framer.linkText = s.framer.linkText ∧ (takeTurn s).disp.remotePause = s.disp.remotePause ∧
    (takeTurn s).disp.answerback = s.disp.answerback ∧ (takeTurn s).disp.progress = s.disp.progress ∧
    (takeTurn s).kbd = s.kbd ∧ (takeTurn s).comp = s.comp ∧ (takeTurn s).strobe = s.strobe ∧
    (takeTurn s).engine = s.engine ∧ (takeTurn s).head = s.head ∧ (takeTurn s).store = s.store ∧
    (takeTurn s).send = s.send ∧ (takeTurn s).reprint = s.reprint ∧ (takeTurn s).compose = s.compose ∧
    (takeTurn s).supply = s.supply ∧ (takeTurn s).link = s.link ∧ (takeTurn s).faults = s.faults ∧
    (takeTurn s).mem = s.mem ∧ (takeTurn s).draws = s.draws ∧ (takeTurn s).pending = s.pending := by
  simp [takeTurn]

@[simp] theorem channelsSettle_frame (s : State) :
    (channelsSettle s).held = s.held ∧ (channelsSettle s).params = s.params ∧ (channelsSettle s).modem = s.modem ∧
    (channelsSettle s).framer.sampler = s.framer.sampler ∧ (channelsSettle s).framer.shift = s.framer.shift ∧
    (channelsSettle s).framer.holding = s.framer.holding ∧ (channelsSettle s).framer.brk = s.framer.brk ∧
    (channelsSettle s).framer.linkText = s.framer.linkText ∧
    (channelsSettle s).disp.remotePause = s.disp.remotePause ∧
    (channelsSettle s).disp.answerback = s.disp.answerback ∧ (channelsSettle s).disp.progress = s.disp.progress ∧
    (channelsSettle s).kbd = s.kbd ∧ (channelsSettle s).comp.queue = s.comp.queue ∧
    (channelsSettle s).comp.linkPrint = s.comp.linkPrint ∧ (channelsSettle s).comp.output = s.comp.output ∧
    (channelsSettle s).comp.cells = s.comp.cells ∧ (channelsSettle s).comp.column = s.comp.column ∧
    (channelsSettle s).comp.wrapPending = s.comp.wrapPending ∧
    (channelsSettle s).comp.lineSource = s.comp.lineSource ∧ (channelsSettle s).comp.formCount = s.comp.formCount ∧
    (channelsSettle s).comp.idleTimer = s.comp.idleTimer ∧ (channelsSettle s).comp.flushDue = s.comp.flushDue ∧
    (channelsSettle s).strobe = s.strobe ∧ (channelsSettle s).engine = s.engine ∧ (channelsSettle s).head = s.head ∧
    (channelsSettle s).store.state = s.store.state ∧ (channelsSettle s).store.mountNext = s.store.mountNext ∧
    (channelsSettle s).store.formatNext = s.store.formatNext ∧ (channelsSettle s).store.free = s.store.free ∧
    (channelsSettle s).store.bad = s.store.bad ∧ (channelsSettle s).store.sectors = s.store.sectors ∧
    (channelsSettle s).store.patrolPos = s.store.patrolPos ∧
    (channelsSettle s).store.patrolTimer = s.store.patrolTimer ∧
    (channelsSettle s).store.patrolRead = s.store.patrolRead ∧ (channelsSettle s).store.linkRead = s.store.linkRead ∧
    (channelsSettle s).compose = s.compose ∧ (channelsSettle s).supply = s.supply ∧ (channelsSettle s).link = s.link ∧
    (channelsSettle s).faults = s.faults ∧ (channelsSettle s).mem = s.mem ∧ (channelsSettle s).draws = s.draws ∧
    (channelsSettle s).pending = s.pending := by
  simp [channelsSettle]

@[simp] theorem portTurn_frame (s : State) :
    (portTurn s).held = s.held ∧ (portTurn s).params = s.params ∧ (portTurn s).modem = s.modem ∧
    (portTurn s).framer.sampler = s.framer.sampler ∧ (portTurn s).framer.shift = s.framer.shift ∧
    (portTurn s).framer.holding = s.framer.holding ∧ (portTurn s).framer.brk = s.framer.brk ∧
    (portTurn s).framer.linkText = s.framer.linkText ∧ (portTurn s).disp.remotePause = s.disp.remotePause ∧
    (portTurn s).disp.answerback = s.disp.answerback ∧ (portTurn s).disp.progress = s.disp.progress ∧
    (portTurn s).kbd = s.kbd ∧ (portTurn s).comp = s.comp ∧ (portTurn s).strobe = s.strobe ∧
    (portTurn s).engine = s.engine ∧ (portTurn s).head = s.head ∧ (portTurn s).store.state = s.store.state ∧
    (portTurn s).store.mountNext = s.store.mountNext ∧ (portTurn s).store.formatNext = s.store.formatNext ∧
    (portTurn s).store.free = s.store.free ∧ (portTurn s).store.bad = s.store.bad ∧
    (portTurn s).store.sectors = s.store.sectors ∧ (portTurn s).store.jobs = s.store.jobs ∧
    (portTurn s).store.patrolPos = s.store.patrolPos ∧ (portTurn s).store.patrolTimer = s.store.patrolTimer ∧
    (portTurn s).store.patrolRead = s.store.patrolRead ∧ (portTurn s).store.linkRead = s.store.linkRead ∧
    (portTurn s).send = s.send ∧ (portTurn s).reprint = s.reprint ∧ (portTurn s).supply = s.supply ∧
    (portTurn s).link = s.link ∧ (portTurn s).mem = s.mem ∧ (portTurn s).draws = s.draws ∧
    (portTurn s).pending = s.pending := by
  simp only [portTurn]; (repeat' split) <;> simp

@[simp] theorem storeSettle_frame (s : State) :
    (storeSettle s).held = s.held ∧ (storeSettle s).params = s.params ∧ (storeSettle s).modem = s.modem ∧
    (storeSettle s).framer.sampler = s.framer.sampler ∧ (storeSettle s).framer.shift = s.framer.shift ∧
    (storeSettle s).framer.holding = s.framer.holding ∧ (storeSettle s).framer.brk = s.framer.brk ∧
    (storeSettle s).framer.linkText = s.framer.linkText ∧ (storeSettle s).disp.remotePause = s.disp.remotePause ∧
    (storeSettle s).disp.answerback = s.disp.answerback ∧ (storeSettle s).disp.progress = s.disp.progress ∧
    (storeSettle s).kbd = s.kbd ∧ (storeSettle s).comp.queue = s.comp.queue ∧
    (storeSettle s).comp.linkPrint = s.comp.linkPrint ∧ (storeSettle s).comp.output = s.comp.output ∧
    (storeSettle s).comp.cells = s.comp.cells ∧ (storeSettle s).comp.column = s.comp.column ∧
    (storeSettle s).comp.wrapPending = s.comp.wrapPending ∧ (storeSettle s).comp.lineSource = s.comp.lineSource ∧
    (storeSettle s).comp.formCount = s.comp.formCount ∧ (storeSettle s).comp.idleTimer = s.comp.idleTimer ∧
    (storeSettle s).comp.flushDue = s.comp.flushDue ∧ (storeSettle s).strobe = s.strobe ∧
    (storeSettle s).engine = s.engine ∧ (storeSettle s).head = s.head ∧ (storeSettle s).store.state = s.store.state ∧
    (storeSettle s).store.mountNext = s.store.mountNext ∧ (storeSettle s).store.formatNext = s.store.formatNext ∧
    (storeSettle s).store.free = s.store.free ∧ (storeSettle s).store.bad = s.store.bad ∧
    (storeSettle s).store.sectors = s.store.sectors ∧ (storeSettle s).store.patrolPos = s.store.patrolPos ∧
    (storeSettle s).store.patrolTimer = s.store.patrolTimer ∧ (storeSettle s).store.patrolRead = s.store.patrolRead ∧
    (storeSettle s).store.linkRead = s.store.linkRead ∧ (storeSettle s).supply = s.supply ∧
    (storeSettle s).link = s.link ∧ (storeSettle s).mem = s.mem ∧ (storeSettle s).draws = s.draws ∧
    (storeSettle s).pending = s.pending := by
  simp [storeSettle]

@[simp] theorem settleMount_frame (s : State) :
    (settleMount s).held = s.held ∧ (settleMount s).params = s.params ∧ (settleMount s).modem = s.modem ∧
    (settleMount s).framer = s.framer ∧ (settleMount s).disp = s.disp ∧ (settleMount s).kbd = s.kbd ∧
    (settleMount s).comp = s.comp ∧ (settleMount s).strobe = s.strobe ∧ (settleMount s).engine = s.engine ∧
    (settleMount s).head = s.head ∧ (settleMount s).store.mountNext = s.store.mountNext ∧
    (settleMount s).store.formatNext = s.store.formatNext ∧ (settleMount s).store.free = s.store.free ∧
    (settleMount s).store.bad = s.store.bad ∧ (settleMount s).store.sectors = s.store.sectors ∧
    (settleMount s).store.inFlight = s.store.inFlight ∧ (settleMount s).store.jobs = s.store.jobs ∧
    (settleMount s).store.patrolPos = s.store.patrolPos ∧ (settleMount s).store.patrolRead = s.store.patrolRead ∧
    (settleMount s).store.linkRead = s.store.linkRead ∧ (settleMount s).send = s.send ∧
    (settleMount s).reprint = s.reprint ∧ (settleMount s).take = s.take ∧ (settleMount s).compose = s.compose ∧
    (settleMount s).supply = s.supply ∧ (settleMount s).link = s.link ∧ (settleMount s).faults = s.faults ∧
    (settleMount s).mem = s.mem ∧ (settleMount s).draws = s.draws ∧ (settleMount s).pending = s.pending := by
  simp [settleMount]

@[simp] theorem mountOn_frame (b : Nat) (s : State) :
    (mountOn b s).held = s.held ∧ (mountOn b s).params = s.params ∧ (mountOn b s).modem = s.modem ∧
    (mountOn b s).framer = s.framer ∧ (mountOn b s).disp = s.disp ∧ (mountOn b s).kbd = s.kbd ∧
    (mountOn b s).comp = s.comp ∧ (mountOn b s).strobe = s.strobe ∧ (mountOn b s).engine = s.engine ∧
    (mountOn b s).head = s.head ∧ (mountOn b s).store.formatNext = s.store.formatNext ∧
    (mountOn b s).store.free = s.store.free ∧ (mountOn b s).store.bad = s.store.bad ∧
    (mountOn b s).store.sectors = s.store.sectors ∧ (mountOn b s).store.inFlight = s.store.inFlight ∧
    (mountOn b s).store.jobs = s.store.jobs ∧ (mountOn b s).store.patrolPos = s.store.patrolPos ∧
    (mountOn b s).store.patrolRead = s.store.patrolRead ∧ (mountOn b s).store.linkRead = s.store.linkRead ∧
    (mountOn b s).send = s.send ∧ (mountOn b s).reprint = s.reprint ∧ (mountOn b s).take = s.take ∧
    (mountOn b s).compose = s.compose ∧ (mountOn b s).supply = s.supply ∧ (mountOn b s).link = s.link ∧
    (mountOn b s).faults = s.faults ∧ (mountOn b s).mem = s.mem ∧ (mountOn b s).draws = s.draws ∧
    (mountOn b s).pending = s.pending := by
  simp only [mountOn]; (repeat' split) <;> simp

@[simp] theorem mountBlock_frame (r : ReadResult) (bytes : List Byte) (b : Nat) (s : State) :
    (mountBlock r bytes b s).held = s.held ∧ (mountBlock r bytes b s).params = s.params ∧
    (mountBlock r bytes b s).modem = s.modem ∧ (mountBlock r bytes b s).framer = s.framer ∧
    (mountBlock r bytes b s).disp = s.disp ∧ (mountBlock r bytes b s).kbd = s.kbd ∧
    (mountBlock r bytes b s).comp = s.comp ∧ (mountBlock r bytes b s).strobe = s.strobe ∧
    (mountBlock r bytes b s).engine = s.engine ∧ (mountBlock r bytes b s).head = s.head ∧
    (mountBlock r bytes b s).store.state = s.store.state ∧
    (mountBlock r bytes b s).store.mountNext = s.store.mountNext ∧
    (mountBlock r bytes b s).store.formatNext = s.store.formatNext ∧
    (mountBlock r bytes b s).store.bad = s.store.bad ∧ (mountBlock r bytes b s).store.sectors = s.store.sectors ∧
    (mountBlock r bytes b s).store.inFlight = s.store.inFlight ∧ (mountBlock r bytes b s).store.jobs = s.store.jobs ∧
    (mountBlock r bytes b s).store.patrolPos = s.store.patrolPos ∧
    (mountBlock r bytes b s).store.patrolTimer = s.store.patrolTimer ∧
    (mountBlock r bytes b s).store.patrolRead = s.store.patrolRead ∧
    (mountBlock r bytes b s).store.linkRead = s.store.linkRead ∧ (mountBlock r bytes b s).send = s.send ∧
    (mountBlock r bytes b s).reprint = s.reprint ∧ (mountBlock r bytes b s).take = s.take ∧
    (mountBlock r bytes b s).compose = s.compose ∧ (mountBlock r bytes b s).supply = s.supply ∧
    (mountBlock r bytes b s).link = s.link ∧ (mountBlock r bytes b s).reports = s.reports ∧
    (mountBlock r bytes b s).faults = s.faults ∧ (mountBlock r bytes b s).mem = s.mem ∧
    (mountBlock r bytes b s).draws = s.draws ∧ (mountBlock r bytes b s).pending = s.pending := by
  simp only [mountBlock]; (repeat' split) <;> simp

@[simp] theorem mountEnds_frame (st : StoreState) (o : StoreOutcome) (s : State) :
    (mountEnds st o s).held = s.held ∧ (mountEnds st o s).params = s.params ∧ (mountEnds st o s).modem = s.modem ∧
    (mountEnds st o s).framer = s.framer ∧ (mountEnds st o s).disp = s.disp ∧ (mountEnds st o s).kbd = s.kbd ∧
    (mountEnds st o s).comp = s.comp ∧ (mountEnds st o s).strobe = s.strobe ∧ (mountEnds st o s).engine = s.engine ∧
    (mountEnds st o s).head = s.head ∧ (mountEnds st o s).store.mountNext = s.store.mountNext ∧
    (mountEnds st o s).store.formatNext = s.store.formatNext ∧ (mountEnds st o s).store.dir = s.store.dir ∧
    (mountEnds st o s).store.free = s.store.free ∧ (mountEnds st o s).store.bad = s.store.bad ∧
    (mountEnds st o s).store.sectors = s.store.sectors ∧ (mountEnds st o s).store.inFlight = s.store.inFlight ∧
    (mountEnds st o s).store.jobs = s.store.jobs ∧ (mountEnds st o s).store.patrolPos = s.store.patrolPos ∧
    (mountEnds st o s).store.patrolTimer = s.store.patrolTimer ∧
    (mountEnds st o s).store.patrolRead = s.store.patrolRead ∧ (mountEnds st o s).store.linkRead = s.store.linkRead ∧
    (mountEnds st o s).send = s.send ∧ (mountEnds st o s).reprint = s.reprint ∧ (mountEnds st o s).take = s.take ∧
    (mountEnds st o s).compose = s.compose ∧ (mountEnds st o s).supply = s.supply ∧ (mountEnds st o s).link = s.link ∧
    (mountEnds st o s).faults = s.faults ∧ (mountEnds st o s).mem = s.mem ∧ (mountEnds st o s).draws = s.draws ∧
    (mountEnds st o s).pending = s.pending := by
  simp [mountEnds]

@[simp] theorem mountRead_frame (r : ReadResult) (bytes : List Byte) (b : Nat) (s : State) :
    (mountRead r bytes b s).held = s.held ∧ (mountRead r bytes b s).params = s.params ∧
    (mountRead r bytes b s).modem = s.modem ∧ (mountRead r bytes b s).framer = s.framer ∧
    (mountRead r bytes b s).disp = s.disp ∧ (mountRead r bytes b s).kbd = s.kbd ∧
    (mountRead r bytes b s).comp = s.comp ∧ (mountRead r bytes b s).strobe = s.strobe ∧
    (mountRead r bytes b s).engine = s.engine ∧ (mountRead r bytes b s).head = s.head ∧
    (mountRead r bytes b s).store.formatNext = s.store.formatNext ∧ (mountRead r bytes b s).store.bad = s.store.bad ∧
    (mountRead r bytes b s).store.sectors = s.store.sectors ∧
    (mountRead r bytes b s).store.inFlight = s.store.inFlight ∧ (mountRead r bytes b s).store.jobs = s.store.jobs ∧
    (mountRead r bytes b s).store.patrolPos = s.store.patrolPos ∧
    (mountRead r bytes b s).store.patrolRead = s.store.patrolRead ∧
    (mountRead r bytes b s).store.linkRead = s.store.linkRead ∧ (mountRead r bytes b s).send = s.send ∧
    (mountRead r bytes b s).reprint = s.reprint ∧ (mountRead r bytes b s).take = s.take ∧
    (mountRead r bytes b s).compose = s.compose ∧ (mountRead r bytes b s).supply = s.supply ∧
    (mountRead r bytes b s).link = s.link ∧ (mountRead r bytes b s).faults = s.faults ∧
    (mountRead r bytes b s).mem = s.mem ∧ (mountRead r bytes b s).draws = s.draws ∧
    (mountRead r bytes b s).pending = s.pending := by
  simp only [mountRead]; (repeat' split) <;> simp

@[simp] theorem sendRead_frame (r : ReadResult) (bytes : List Byte) (s : State) :
    (sendRead r bytes s).held = s.held ∧ (sendRead r bytes s).params = s.params ∧
    (sendRead r bytes s).modem = s.modem ∧ (sendRead r bytes s).framer = s.framer ∧
    (sendRead r bytes s).disp = s.disp ∧ (sendRead r bytes s).kbd = s.kbd ∧ (sendRead r bytes s).comp = s.comp ∧
    (sendRead r bytes s).strobe = s.strobe ∧ (sendRead r bytes s).engine = s.engine ∧
    (sendRead r bytes s).head = s.head ∧ (sendRead r bytes s).store.state = s.store.state ∧
    (sendRead r bytes s).store.mountNext = s.store.mountNext ∧
    (sendRead r bytes s).store.formatNext = s.store.formatNext ∧ (sendRead r bytes s).store.free = s.store.free ∧
    (sendRead r bytes s).store.bad = s.store.bad ∧ (sendRead r bytes s).store.sectors = s.store.sectors ∧
    (sendRead r bytes s).store.inFlight = s.store.inFlight ∧ (sendRead r bytes s).store.jobs = s.store.jobs ∧
    (sendRead r bytes s).store.patrolPos = s.store.patrolPos ∧
    (sendRead r bytes s).store.patrolTimer = s.store.patrolTimer ∧
    (sendRead r bytes s).store.patrolRead = s.store.patrolRead ∧
    (sendRead r bytes s).store.linkRead = s.store.linkRead ∧ (sendRead r bytes s).reprint = s.reprint ∧
    (sendRead r bytes s).take = s.take ∧ (sendRead r bytes s).compose = s.compose ∧
    (sendRead r bytes s).supply = s.supply ∧ (sendRead r bytes s).link = s.link ∧
    (sendRead r bytes s).faults = s.faults ∧ (sendRead r bytes s).mem = s.mem ∧ (sendRead r bytes s).draws = s.draws ∧
    (sendRead r bytes s).pending = s.pending := by
  simp only [sendRead]; (repeat' split) <;> simp

@[simp] theorem reprintRead_frame (r : ReadResult) (bytes : List Byte) (s : State) :
    (reprintRead r bytes s).held = s.held ∧ (reprintRead r bytes s).params = s.params ∧
    (reprintRead r bytes s).modem = s.modem ∧ (reprintRead r bytes s).framer = s.framer ∧
    (reprintRead r bytes s).disp = s.disp ∧ (reprintRead r bytes s).kbd = s.kbd ∧
    (reprintRead r bytes s).comp = s.comp ∧ (reprintRead r bytes s).strobe = s.strobe ∧
    (reprintRead r bytes s).engine = s.engine ∧ (reprintRead r bytes s).head = s.head ∧
    (reprintRead r bytes s).store.state = s.store.state ∧
    (reprintRead r bytes s).store.mountNext = s.store.mountNext ∧
    (reprintRead r bytes s).store.formatNext = s.store.formatNext ∧
    (reprintRead r bytes s).store.free = s.store.free ∧ (reprintRead r bytes s).store.bad = s.store.bad ∧
    (reprintRead r bytes s).store.sectors = s.store.sectors ∧
    (reprintRead r bytes s).store.inFlight = s.store.inFlight ∧ (reprintRead r bytes s).store.jobs = s.store.jobs ∧
    (reprintRead r bytes s).store.patrolPos = s.store.patrolPos ∧
    (reprintRead r bytes s).store.patrolTimer = s.store.patrolTimer ∧
    (reprintRead r bytes s).store.patrolRead = s.store.patrolRead ∧
    (reprintRead r bytes s).store.linkRead = s.store.linkRead ∧ (reprintRead r bytes s).send = s.send ∧
    (reprintRead r bytes s).take = s.take ∧ (reprintRead r bytes s).compose = s.compose ∧
    (reprintRead r bytes s).supply = s.supply ∧ (reprintRead r bytes s).link = s.link ∧
    (reprintRead r bytes s).faults = s.faults ∧ (reprintRead r bytes s).mem = s.mem ∧
    (reprintRead r bytes s).draws = s.draws ∧ (reprintRead r bytes s).pending = s.pending := by
  simp only [reprintRead]; (repeat' split) <;> simp

@[simp] theorem composeLoad_frame (r : ReadResult) (bytes : List Byte) (b : Nat) (s : State) :
    (composeLoad r bytes b s).held = s.held ∧ (composeLoad r bytes b s).params = s.params ∧
    (composeLoad r bytes b s).modem = s.modem ∧ (composeLoad r bytes b s).framer = s.framer ∧
    (composeLoad r bytes b s).disp = s.disp ∧ (composeLoad r bytes b s).kbd = s.kbd ∧
    (composeLoad r bytes b s).comp = s.comp ∧ (composeLoad r bytes b s).strobe = s.strobe ∧
    (composeLoad r bytes b s).engine = s.engine ∧ (composeLoad r bytes b s).head = s.head ∧
    (composeLoad r bytes b s).store.state = s.store.state ∧
    (composeLoad r bytes b s).store.mountNext = s.store.mountNext ∧
    (composeLoad r bytes b s).store.formatNext = s.store.formatNext ∧
    (composeLoad r bytes b s).store.free = s.store.free ∧ (composeLoad r bytes b s).store.bad = s.store.bad ∧
    (composeLoad r bytes b s).store.sectors = s.store.sectors ∧
    (composeLoad r bytes b s).store.inFlight = s.store.inFlight ∧
    (composeLoad r bytes b s).store.jobs = s.store.jobs ∧
    (composeLoad r bytes b s).store.patrolPos = s.store.patrolPos ∧
    (composeLoad r bytes b s).store.patrolTimer = s.store.patrolTimer ∧
    (composeLoad r bytes b s).store.patrolRead = s.store.patrolRead ∧
    (composeLoad r bytes b s).store.linkRead = s.store.linkRead ∧ (composeLoad r bytes b s).send = s.send ∧
    (composeLoad r bytes b s).reprint = s.reprint ∧ (composeLoad r bytes b s).take = s.take ∧
    (composeLoad r bytes b s).supply = s.supply ∧ (composeLoad r bytes b s).link = s.link ∧
    (composeLoad r bytes b s).faults = s.faults ∧ (composeLoad r bytes b s).mem = s.mem ∧
    (composeLoad r bytes b s).draws = s.draws ∧ (composeLoad r bytes b s).pending = s.pending := by
  simp only [composeLoad]; (repeat' split) <;> simp

@[simp] theorem patrolResult_frame (r : ReadResult) (s : State) :
    (patrolResult r s).held = s.held ∧ (patrolResult r s).params = s.params ∧ (patrolResult r s).modem = s.modem ∧
    (patrolResult r s).framer = s.framer ∧ (patrolResult r s).disp = s.disp ∧ (patrolResult r s).kbd = s.kbd ∧
    (patrolResult r s).comp = s.comp ∧ (patrolResult r s).strobe = s.strobe ∧ (patrolResult r s).engine = s.engine ∧
    (patrolResult r s).head = s.head ∧ (patrolResult r s).store.state = s.store.state ∧
    (patrolResult r s).store.mountNext = s.store.mountNext ∧
    (patrolResult r s).store.formatNext = s.store.formatNext ∧ (patrolResult r s).store.free = s.store.free ∧
    (patrolResult r s).store.bad = s.store.bad ∧ (patrolResult r s).store.sectors = s.store.sectors ∧
    (patrolResult r s).store.inFlight = s.store.inFlight ∧ (patrolResult r s).store.jobs = s.store.jobs ∧
    (patrolResult r s).store.patrolPos = s.store.patrolPos ∧
    (patrolResult r s).store.patrolTimer = s.store.patrolTimer ∧
    (patrolResult r s).store.linkRead = s.store.linkRead ∧ (patrolResult r s).send = s.send ∧
    (patrolResult r s).reprint = s.reprint ∧ (patrolResult r s).take = s.take ∧
    (patrolResult r s).compose = s.compose ∧ (patrolResult r s).supply = s.supply ∧ (patrolResult r s).link = s.link ∧
    (patrolResult r s).faults = s.faults ∧ (patrolResult r s).mem = s.mem ∧ (patrolResult r s).draws = s.draws ∧
    (patrolResult r s).pending = s.pending := by
  simp only [patrolResult]; (repeat' split) <;> simp

@[simp] theorem linkReadDone_frame (r : ReadResult) (bytes : List Byte) (s : State) :
    (linkReadDone r bytes s).held = s.held ∧ (linkReadDone r bytes s).params = s.params ∧
    (linkReadDone r bytes s).modem = s.modem ∧ (linkReadDone r bytes s).framer = s.framer ∧
    (linkReadDone r bytes s).disp = s.disp ∧ (linkReadDone r bytes s).kbd = s.kbd ∧
    (linkReadDone r bytes s).comp = s.comp ∧ (linkReadDone r bytes s).strobe = s.strobe ∧
    (linkReadDone r bytes s).engine = s.engine ∧ (linkReadDone r bytes s).head = s.head ∧
    (linkReadDone r bytes s).store.state = s.store.state ∧
    (linkReadDone r bytes s).store.mountNext = s.store.mountNext ∧
    (linkReadDone r bytes s).store.formatNext = s.store.formatNext ∧
    (linkReadDone r bytes s).store.dir = s.store.dir ∧ (linkReadDone r bytes s).store.free = s.store.free ∧
    (linkReadDone r bytes s).store.bad = s.store.bad ∧ (linkReadDone r bytes s).store.sectors = s.store.sectors ∧
    (linkReadDone r bytes s).store.inFlight = s.store.inFlight ∧ (linkReadDone r bytes s).store.jobs = s.store.jobs ∧
    (linkReadDone r bytes s).store.patrolPos = s.store.patrolPos ∧
    (linkReadDone r bytes s).store.patrolTimer = s.store.patrolTimer ∧
    (linkReadDone r bytes s).store.patrolRead = s.store.patrolRead ∧ (linkReadDone r bytes s).send = s.send ∧
    (linkReadDone r bytes s).reprint = s.reprint ∧ (linkReadDone r bytes s).take = s.take ∧
    (linkReadDone r bytes s).compose = s.compose ∧ (linkReadDone r bytes s).supply = s.supply ∧
    (linkReadDone r bytes s).link.rx = s.link.rx ∧ (linkReadDone r bytes s).link.gapTimer = s.link.gapTimer ∧
    (linkReadDone r bytes s).link.reject = s.link.reject ∧ (linkReadDone r bytes s).link.sending = s.link.sending ∧
    (linkReadDone r bytes s).reports = s.reports ∧ (linkReadDone r bytes s).faults = s.faults ∧
    (linkReadDone r bytes s).mem = s.mem ∧ (linkReadDone r bytes s).draws = s.draws ∧
    (linkReadDone r bytes s).pending = s.pending := by
  simp [linkReadDone]

@[simp] theorem handRead_frame (c : PortClaimant) (r : ReadResult) (bytes : List Byte) (b : Nat) (s : State) :
    (handRead c r bytes b s).held = s.held ∧ (handRead c r bytes b s).params = s.params ∧
    (handRead c r bytes b s).modem = s.modem ∧ (handRead c r bytes b s).framer = s.framer ∧
    (handRead c r bytes b s).disp = s.disp ∧ (handRead c r bytes b s).kbd = s.kbd ∧
    (handRead c r bytes b s).comp = s.comp ∧ (handRead c r bytes b s).strobe = s.strobe ∧
    (handRead c r bytes b s).engine = s.engine ∧ (handRead c r bytes b s).head = s.head ∧
    (handRead c r bytes b s).store.formatNext = s.store.formatNext ∧
    (handRead c r bytes b s).store.bad = s.store.bad ∧ (handRead c r bytes b s).store.sectors = s.store.sectors ∧
    (handRead c r bytes b s).store.inFlight = s.store.inFlight ∧ (handRead c r bytes b s).store.jobs = s.store.jobs ∧
    (handRead c r bytes b s).store.patrolPos = s.store.patrolPos ∧ (handRead c r bytes b s).take = s.take ∧
    (handRead c r bytes b s).supply = s.supply ∧ (handRead c r bytes b s).link.rx = s.link.rx ∧
    (handRead c r bytes b s).link.gapTimer = s.link.gapTimer ∧ (handRead c r bytes b s).link.reject = s.link.reject ∧
    (handRead c r bytes b s).link.sending = s.link.sending ∧ (handRead c r bytes b s).faults = s.faults ∧
    (handRead c r bytes b s).mem = s.mem ∧ (handRead c r bytes b s).draws = s.draws ∧
    (handRead c r bytes b s).pending = s.pending := by
  simp only [handRead]; (repeat' split) <;> simp

@[simp] theorem readDone_frame (f : InFlight) (r : ReadResult) (bytes : List Byte) (s : State) :
    (readDone f r bytes s).held = s.held ∧ (readDone f r bytes s).params = s.params ∧
    (readDone f r bytes s).modem = s.modem ∧ (readDone f r bytes s).framer = s.framer ∧
    (readDone f r bytes s).disp = s.disp ∧ (readDone f r bytes s).kbd = s.kbd ∧ (readDone f r bytes s).comp = s.comp ∧
    (readDone f r bytes s).strobe = s.strobe ∧ (readDone f r bytes s).engine = s.engine ∧
    (readDone f r bytes s).head = s.head ∧ (readDone f r bytes s).store.formatNext = s.store.formatNext ∧
    (readDone f r bytes s).store.bad = s.store.bad ∧ (readDone f r bytes s).store.jobs = s.store.jobs ∧
    (readDone f r bytes s).store.patrolPos = s.store.patrolPos ∧ (readDone f r bytes s).take = s.take ∧
    (readDone f r bytes s).supply = s.supply ∧ (readDone f r bytes s).link.rx = s.link.rx ∧
    (readDone f r bytes s).link.gapTimer = s.link.gapTimer ∧ (readDone f r bytes s).link.reject = s.link.reject ∧
    (readDone f r bytes s).link.sending = s.link.sending ∧ (readDone f r bytes s).faults = s.faults ∧
    (readDone f r bytes s).mem = s.mem ∧ (readDone f r bytes s).draws = s.draws ∧
    (readDone f r bytes s).pending = s.pending := by
  simp only [readDone]; (repeat' split) <;> simp

end Sys2Proof.Machine
end

