-- ==== Sys2Proof/Laws/FrameStep.lean ====
section
/-! SUPPORT. What each shared operation leaves as it was: the Engine and the end of a step.
Each lemma names every field, or part of a field, that the operation does not touch. -/

namespace Sys2Proof.Machine

@[simp] theorem setEngineState_frame (st : EngineState) (s : State) :
    (setEngineState st s).held = s.held ∧ (setEngineState st s).params = s.params ∧
    (setEngineState st s).modem = s.modem ∧ (setEngineState st s).framer = s.framer ∧
    (setEngineState st s).disp = s.disp ∧ (setEngineState st s).kbd = s.kbd ∧ (setEngineState st s).comp = s.comp ∧
    (setEngineState st s).engine.position = s.engine.position ∧
    (setEngineState st s).engine.inFlight = s.engine.inFlight ∧
    (setEngineState st s).engine.paperCond = s.engine.paperCond ∧
    (setEngineState st s).engine.powerCond = s.engine.powerCond ∧
    (setEngineState st s).engine.hotCond = s.engine.hotCond ∧
    (setEngineState st s).engine.haltDue = s.engine.haltDue ∧
    (setEngineState st s).engine.hotTimer = s.engine.hotTimer ∧
    (setEngineState st s).engine.paperTimer = s.engine.paperTimer ∧
    (setEngineState st s).engine.thermFault = s.engine.thermFault ∧
    (setEngineState st s).engine.paper = s.engine.paper ∧
    (setEngineState st s).engine.halfSteps = s.engine.halfSteps ∧ (setEngineState st s).store = s.store ∧
    (setEngineState st s).send = s.send ∧ (setEngineState st s).reprint = s.reprint ∧
    (setEngineState st s).take = s.take ∧ (setEngineState st s).compose = s.compose ∧
    (setEngineState st s).supply = s.supply ∧ (setEngineState st s).link = s.link ∧
    (setEngineState st s).reports = s.reports ∧ (setEngineState st s).faults = s.faults ∧
    (setEngineState st s).mem = s.mem ∧ (setEngineState st s).draws = s.draws ∧
    (setEngineState st s).pending = s.pending := by
  simp [setEngineState]

@[simp] theorem snapMeasure_frame (v : Nat) (s : State) :
    (snapMeasure v s).pending = s.pending := by
  simp only [snapMeasure]; (repeat' split) <;> simp

@[simp] theorem stepPaper_frame (s : State) :
    (stepPaper s).held = s.held ∧ (stepPaper s).params = s.params ∧ (stepPaper s).modem = s.modem ∧
    (stepPaper s).framer = s.framer ∧ (stepPaper s).disp = s.disp ∧ (stepPaper s).kbd = s.kbd ∧
    (stepPaper s).comp = s.comp ∧ (stepPaper s).strobe = s.strobe ∧ (stepPaper s).engine.state = s.engine.state ∧
    (stepPaper s).engine.position = s.engine.position ∧ (stepPaper s).engine.inFlight = s.engine.inFlight ∧
    (stepPaper s).engine.paperCond = s.engine.paperCond ∧ (stepPaper s).engine.powerCond = s.engine.powerCond ∧
    (stepPaper s).engine.hotCond = s.engine.hotCond ∧ (stepPaper s).engine.haltDue = s.engine.haltDue ∧
    (stepPaper s).engine.hotTimer = s.engine.hotTimer ∧ (stepPaper s).engine.paperTimer = s.engine.paperTimer ∧
    (stepPaper s).engine.thermFault = s.engine.thermFault ∧ (stepPaper s).engine.paper = s.engine.paper ∧
    (stepPaper s).head = s.head ∧ (stepPaper s).store = s.store ∧ (stepPaper s).send = s.send ∧
    (stepPaper s).reprint = s.reprint ∧ (stepPaper s).take = s.take ∧ (stepPaper s).compose = s.compose ∧
    (stepPaper s).supply = s.supply ∧ (stepPaper s).link = s.link ∧ (stepPaper s).reports = s.reports ∧
    (stepPaper s).faults = s.faults ∧ (stepPaper s).mem = s.mem ∧ (stepPaper s).draws = s.draws ∧
    (stepPaper s).pending = s.pending := by
  simp [stepPaper]

@[simp] theorem startDotLine_frame (v : Nat) (job : Job) (s : State) :
    (startDotLine v job s).pending = s.pending := by
  simp only [startDotLine]; (repeat' split) <;> simp

@[simp] theorem engineIdle_frame (evs : List PrintEvent) (s : State) :
    (engineIdle evs s).held = s.held ∧ (engineIdle evs s).params = s.params ∧ (engineIdle evs s).modem = s.modem ∧
    (engineIdle evs s).framer = s.framer ∧ (engineIdle evs s).disp = s.disp ∧ (engineIdle evs s).kbd = s.kbd ∧
    (engineIdle evs s).comp = s.comp ∧ (engineIdle evs s).engine.paperCond = s.engine.paperCond ∧
    (engineIdle evs s).engine.powerCond = s.engine.powerCond ∧ (engineIdle evs s).engine.hotCond = s.engine.hotCond ∧
    (engineIdle evs s).engine.haltDue = s.engine.haltDue ∧ (engineIdle evs s).engine.hotTimer = s.engine.hotTimer ∧
    (engineIdle evs s).engine.paperTimer = s.engine.paperTimer ∧
    (engineIdle evs s).engine.thermFault = s.engine.thermFault ∧ (engineIdle evs s).engine.paper = s.engine.paper ∧
    (engineIdle evs s).engine.halfSteps = s.engine.halfSteps ∧ (engineIdle evs s).store = s.store ∧
    (engineIdle evs s).send = s.send ∧ (engineIdle evs s).reprint = s.reprint ∧ (engineIdle evs s).take = s.take ∧
    (engineIdle evs s).compose = s.compose ∧ (engineIdle evs s).supply = s.supply ∧ (engineIdle evs s).link = s.link ∧
    (engineIdle evs s).faults = s.faults ∧ (engineIdle evs s).mem = s.mem ∧ (engineIdle evs s).draws = s.draws ∧
    (engineIdle evs s).pending = s.pending := by
  simp [engineIdle]

@[simp] theorem atBoundary_frame (v : Nat) (evs : List PrintEvent) (s : State) :
    (atBoundary v evs s).pending = s.pending := by
  simp only [atBoundary]; (repeat' split) <;> simp

@[simp] theorem thermFlag_frame (s : State) :
    (thermFlag s).held = s.held ∧ (thermFlag s).params = s.params ∧ (thermFlag s).modem = s.modem ∧
    (thermFlag s).framer = s.framer ∧ (thermFlag s).disp = s.disp ∧ (thermFlag s).kbd = s.kbd ∧
    (thermFlag s).comp = s.comp ∧ (thermFlag s).strobe = s.strobe ∧ (thermFlag s).engine.state = s.engine.state ∧
    (thermFlag s).engine.position = s.engine.position ∧ (thermFlag s).engine.inFlight = s.engine.inFlight ∧
    (thermFlag s).engine.paperCond = s.engine.paperCond ∧ (thermFlag s).engine.powerCond = s.engine.powerCond ∧
    (thermFlag s).engine.hotCond = s.engine.hotCond ∧ (thermFlag s).engine.haltDue = s.engine.haltDue ∧
    (thermFlag s).engine.hotTimer = s.engine.hotTimer ∧ (thermFlag s).engine.paperTimer = s.engine.paperTimer ∧
    (thermFlag s).engine.paper = s.engine.paper ∧ (thermFlag s).engine.halfSteps = s.engine.halfSteps ∧
    (thermFlag s).head = s.head ∧ (thermFlag s).store = s.store ∧ (thermFlag s).send = s.send ∧
    (thermFlag s).reprint = s.reprint ∧ (thermFlag s).take = s.take ∧ (thermFlag s).compose = s.compose ∧
    (thermFlag s).supply = s.supply ∧ (thermFlag s).link = s.link ∧ (thermFlag s).mem = s.mem ∧
    (thermFlag s).draws = s.draws ∧ (thermFlag s).pending = s.pending := by
  simp only [thermFlag]; (repeat' split) <;> simp

@[simp] theorem supplyReading_frame (volts : Nat) (therm : Therm) (s : State) :
    (supplyReading volts therm s).pending = s.pending := by
  simp only [supplyReading]; (repeat' split) <;> simp

@[simp] theorem paperSeen_frame (reading : Option Bool) (s : State) :
    (paperSeen reading s).held = s.held ∧ (paperSeen reading s).params = s.params ∧
    (paperSeen reading s).modem = s.modem ∧ (paperSeen reading s).framer = s.framer ∧
    (paperSeen reading s).disp = s.disp ∧ (paperSeen reading s).kbd = s.kbd ∧ (paperSeen reading s).comp = s.comp ∧
    (paperSeen reading s).strobe = s.strobe ∧ (paperSeen reading s).engine.state = s.engine.state ∧
    (paperSeen reading s).engine.position = s.engine.position ∧
    (paperSeen reading s).engine.inFlight = s.engine.inFlight ∧
    (paperSeen reading s).engine.paperCond = s.engine.paperCond ∧
    (paperSeen reading s).engine.powerCond = s.engine.powerCond ∧
    (paperSeen reading s).engine.hotCond = s.engine.hotCond ∧
    (paperSeen reading s).engine.haltDue = s.engine.haltDue ∧
    (paperSeen reading s).engine.hotTimer = s.engine.hotTimer ∧
    (paperSeen reading s).engine.paperTimer = s.engine.paperTimer ∧
    (paperSeen reading s).engine.thermFault = s.engine.thermFault ∧
    (paperSeen reading s).engine.halfSteps = s.engine.halfSteps ∧ (paperSeen reading s).head = s.head ∧
    (paperSeen reading s).store = s.store ∧ (paperSeen reading s).send = s.send ∧
    (paperSeen reading s).reprint = s.reprint ∧ (paperSeen reading s).take = s.take ∧
    (paperSeen reading s).compose = s.compose ∧ (paperSeen reading s).supply = s.supply ∧
    (paperSeen reading s).link = s.link ∧ (paperSeen reading s).reports = s.reports ∧
    (paperSeen reading s).faults = s.faults ∧ (paperSeen reading s).mem = s.mem ∧
    (paperSeen reading s).draws = s.draws ∧ (paperSeen reading s).pending = s.pending := by
  simp only [paperSeen]; (repeat' split) <;> simp

@[simp] theorem coincide_frame (r : Coincident) (s : State) :
    (coincide r s).pending = s.pending := by
  simp only [coincide]; (repeat' split) <;> simp

@[simp] theorem engineChanged_frame (v : Nat) (evs : List PrintEvent) (s : State) :
    (engineChanged v evs s).pending = s.pending := by
  simp only [engineChanged]; (repeat' split) <;> simp

@[simp] theorem engineSettle_frame (v : Nat) (s : State) :
    (engineSettle v s).pending = s.pending := by
  simp only [engineSettle]; (repeat' split) <;> simp

@[simp] theorem transmitNext_frame (s : State) :
    (transmitNext s).held = s.held ∧ (transmitNext s).params = s.params ∧ (transmitNext s).modem = s.modem ∧
    (transmitNext s).framer = s.framer ∧ (transmitNext s).disp = s.disp ∧ (transmitNext s).kbd = s.kbd ∧
    (transmitNext s).comp = s.comp ∧ (transmitNext s).strobe = s.strobe ∧ (transmitNext s).engine = s.engine ∧
    (transmitNext s).head = s.head ∧ (transmitNext s).store = s.store ∧ (transmitNext s).send = s.send ∧
    (transmitNext s).reprint = s.reprint ∧ (transmitNext s).take = s.take ∧ (transmitNext s).compose = s.compose ∧
    (transmitNext s).supply = s.supply ∧ (transmitNext s).link.rx = s.link.rx ∧
    (transmitNext s).link.gapTimer = s.link.gapTimer ∧ (transmitNext s).link.queue = s.link.queue ∧
    (transmitNext s).link.reply = s.link.reply ∧ (transmitNext s).faults = s.faults ∧ (transmitNext s).mem = s.mem ∧
    (transmitNext s).draws = s.draws ∧ (transmitNext s).pending = s.pending := by
  simp only [transmitNext]; (repeat' split) <;> simp

@[simp] theorem makeReject_frame (reason kind : Byte) (s : State) :
    (makeReject reason kind s).held = s.held ∧ (makeReject reason kind s).params = s.params ∧
    (makeReject reason kind s).modem = s.modem ∧ (makeReject reason kind s).framer = s.framer ∧
    (makeReject reason kind s).disp = s.disp ∧ (makeReject reason kind s).kbd = s.kbd ∧
    (makeReject reason kind s).comp = s.comp ∧ (makeReject reason kind s).strobe = s.strobe ∧
    (makeReject reason kind s).engine = s.engine ∧ (makeReject reason kind s).head = s.head ∧
    (makeReject reason kind s).store = s.store ∧ (makeReject reason kind s).send = s.send ∧
    (makeReject reason kind s).reprint = s.reprint ∧ (makeReject reason kind s).take = s.take ∧
    (makeReject reason kind s).compose = s.compose ∧ (makeReject reason kind s).supply = s.supply ∧
    (makeReject reason kind s).link.rx = s.link.rx ∧ (makeReject reason kind s).link.gapTimer = s.link.gapTimer ∧
    (makeReject reason kind s).link.queue = s.link.queue ∧ (makeReject reason kind s).link.reply = s.link.reply ∧
    (makeReject reason kind s).link.sending = s.link.sending ∧ (makeReject reason kind s).reports = s.reports ∧
    (makeReject reason kind s).faults = s.faults ∧ (makeReject reason kind s).mem = s.mem ∧
    (makeReject reason kind s).draws = s.draws ∧ (makeReject reason kind s).pending = s.pending := by
  simp only [makeReject]; (repeat' split) <;> simp

@[simp] theorem frameArrives_frame (r : Request) (s : State) :
    (frameArrives r s).held = s.held ∧ (frameArrives r s).params = s.params ∧ (frameArrives r s).modem = s.modem ∧
    (frameArrives r s).framer = s.framer ∧ (frameArrives r s).disp = s.disp ∧ (frameArrives r s).kbd = s.kbd ∧
    (frameArrives r s).comp = s.comp ∧ (frameArrives r s).strobe = s.strobe ∧ (frameArrives r s).engine = s.engine ∧
    (frameArrives r s).head = s.head ∧ (frameArrives r s).store = s.store ∧ (frameArrives r s).send = s.send ∧
    (frameArrives r s).reprint = s.reprint ∧ (frameArrives r s).take = s.take ∧
    (frameArrives r s).compose = s.compose ∧ (frameArrives r s).supply = s.supply ∧
    (frameArrives r s).link.rx = s.link.rx ∧ (frameArrives r s).link.gapTimer = s.link.gapTimer ∧
    (frameArrives r s).link.reply = s.link.reply ∧ (frameArrives r s).link.sending = s.link.sending ∧
    (frameArrives r s).reports = s.reports ∧ (frameArrives r s).faults = s.faults ∧ (frameArrives r s).mem = s.mem ∧
    (frameArrives r s).draws = s.draws ∧ (frameArrives r s).pending = s.pending := by
  simp only [frameArrives]; (repeat' split) <;> simp

@[simp] theorem standAtHead_frame (r : Request) (s : State) :
    (standAtHead r s).held = s.held ∧ (standAtHead r s).params = s.params ∧ (standAtHead r s).modem = s.modem ∧
    (standAtHead r s).framer = s.framer ∧ (standAtHead r s).disp = s.disp ∧ (standAtHead r s).kbd = s.kbd ∧
    (standAtHead r s).comp = s.comp ∧ (standAtHead r s).strobe = s.strobe ∧ (standAtHead r s).engine = s.engine ∧
    (standAtHead r s).head = s.head ∧ (standAtHead r s).store = s.store ∧ (standAtHead r s).send = s.send ∧
    (standAtHead r s).reprint = s.reprint ∧ (standAtHead r s).take = s.take ∧ (standAtHead r s).compose = s.compose ∧
    (standAtHead r s).supply = s.supply ∧ (standAtHead r s).link.rx = s.link.rx ∧
    (standAtHead r s).link.gapTimer = s.link.gapTimer ∧ (standAtHead r s).link.reply = s.link.reply ∧
    (standAtHead r s).link.reject = s.link.reject ∧ (standAtHead r s).link.sending = s.link.sending ∧
    (standAtHead r s).reports = s.reports ∧ (standAtHead r s).faults = s.faults ∧ (standAtHead r s).mem = s.mem ∧
    (standAtHead r s).draws = s.draws ∧ (standAtHead r s).pending = s.pending := by
  simp only [standAtHead]; (repeat' split) <;> simp

@[simp] theorem formReply_frame (r : Request) (payload : List Byte) (s : State) :
    (formReply r payload s).held = s.held ∧ (formReply r payload s).params = s.params ∧
    (formReply r payload s).modem = s.modem ∧ (formReply r payload s).framer = s.framer ∧
    (formReply r payload s).disp = s.disp ∧ (formReply r payload s).kbd = s.kbd ∧
    (formReply r payload s).comp = s.comp ∧ (formReply r payload s).strobe = s.strobe ∧
    (formReply r payload s).engine = s.engine ∧ (formReply r payload s).head = s.head ∧
    (formReply r payload s).store = s.store ∧ (formReply r payload s).send = s.send ∧
    (formReply r payload s).reprint = s.reprint ∧ (formReply r payload s).take = s.take ∧
    (formReply r payload s).compose = s.compose ∧ (formReply r payload s).supply = s.supply ∧
    (formReply r payload s).link.rx = s.link.rx ∧ (formReply r payload s).link.gapTimer = s.link.gapTimer ∧
    (formReply r payload s).link.reject = s.link.reject ∧ (formReply r payload s).link.sending = s.link.sending ∧
    (formReply r payload s).reports = s.reports ∧ (formReply r payload s).faults = s.faults ∧
    (formReply r payload s).mem = s.mem ∧ (formReply r payload s).draws = s.draws ∧
    (formReply r payload s).pending = s.pending := by
  simp only [formReply]; (repeat' split) <;> simp

end Sys2Proof.Machine
end

