-- ==== Sys2Proof/Laws/FrameKey.lean ====
section
/-! SUPPORT. What each shared operation leaves as it was: the Keyboard, the Modem, the Framer and the Composer.
Each lemma names every field, or part of a field, that the operation does not touch. -/

namespace Sys2Proof.Machine

@[simp] theorem pushEvent_frame (p : Nat) (k : KeyKind) (s : State) :
    (pushEvent p k s).held = s.held ∧ (pushEvent p k s).params = s.params ∧ (pushEvent p k s).modem = s.modem ∧
    (pushEvent p k s).framer = s.framer ∧ (pushEvent p k s).disp = s.disp ∧ (pushEvent p k s).kbd.keys = s.kbd.keys ∧
    (pushEvent p k s).kbd.owed = s.kbd.owed ∧ (pushEvent p k s).kbd.headJudged = s.kbd.headJudged ∧
    (pushEvent p k s).kbd.plain = s.kbd.plain ∧ (pushEvent p k s).kbd.shift = s.kbd.shift ∧
    (pushEvent p k s).kbd.control = s.kbd.control ∧ (pushEvent p k s).kbd.downs = s.kbd.downs ∧
    (pushEvent p k s).kbd.caps = s.kbd.caps ∧ (pushEvent p k s).kbd.autoRepeat = s.kbd.autoRepeat ∧
    (pushEvent p k s).kbd.feedRepeats = s.kbd.feedRepeats ∧ (pushEvent p k s).kbd.mode = s.kbd.mode ∧
    (pushEvent p k s).kbd.lock = s.kbd.lock ∧ (pushEvent p k s).kbd.txFifo = s.kbd.txFifo ∧
    (pushEvent p k s).kbd.relay = s.kbd.relay ∧ (pushEvent p k s).kbd.tones = s.kbd.tones ∧
    (pushEvent p k s).comp = s.comp ∧ (pushEvent p k s).strobe = s.strobe ∧ (pushEvent p k s).engine = s.engine ∧
    (pushEvent p k s).head = s.head ∧ (pushEvent p k s).store = s.store ∧ (pushEvent p k s).send = s.send ∧
    (pushEvent p k s).reprint = s.reprint ∧ (pushEvent p k s).take = s.take ∧ (pushEvent p k s).compose = s.compose ∧
    (pushEvent p k s).supply = s.supply ∧ (pushEvent p k s).link = s.link ∧ (pushEvent p k s).reports = s.reports ∧
    (pushEvent p k s).faults = s.faults ∧ (pushEvent p k s).mem = s.mem ∧ (pushEvent p k s).draws = s.draws ∧
    (pushEvent p k s).pending = s.pending := by
  simp [pushEvent]

@[simp] theorem setKey_frame (p : Nat) (r : KeyRecord) (s : State) :
    (setKey p r s).held = s.held ∧ (setKey p r s).params = s.params ∧ (setKey p r s).modem = s.modem ∧
    (setKey p r s).framer = s.framer ∧ (setKey p r s).disp = s.disp ∧ (setKey p r s).kbd.owed = s.kbd.owed ∧
    (setKey p r s).kbd.events = s.kbd.events ∧ (setKey p r s).kbd.headJudged = s.kbd.headJudged ∧
    (setKey p r s).kbd.plain = s.kbd.plain ∧ (setKey p r s).kbd.shift = s.kbd.shift ∧
    (setKey p r s).kbd.control = s.kbd.control ∧ (setKey p r s).kbd.downs = s.kbd.downs ∧
    (setKey p r s).kbd.caps = s.kbd.caps ∧ (setKey p r s).kbd.autoRepeat = s.kbd.autoRepeat ∧
    (setKey p r s).kbd.feedRepeats = s.kbd.feedRepeats ∧ (setKey p r s).kbd.mode = s.kbd.mode ∧
    (setKey p r s).kbd.lock = s.kbd.lock ∧ (setKey p r s).kbd.txFifo = s.kbd.txFifo ∧
    (setKey p r s).kbd.relay = s.kbd.relay ∧ (setKey p r s).kbd.tones = s.kbd.tones ∧ (setKey p r s).comp = s.comp ∧
    (setKey p r s).strobe = s.strobe ∧ (setKey p r s).engine = s.engine ∧ (setKey p r s).head = s.head ∧
    (setKey p r s).store = s.store ∧ (setKey p r s).send = s.send ∧ (setKey p r s).reprint = s.reprint ∧
    (setKey p r s).take = s.take ∧ (setKey p r s).compose = s.compose ∧ (setKey p r s).supply = s.supply ∧
    (setKey p r s).link = s.link ∧ (setKey p r s).reports = s.reports ∧ (setKey p r s).faults = s.faults ∧
    (setKey p r s).mem = s.mem ∧ (setKey p r s).draws = s.draws ∧ (setKey p r s).pending = s.pending := by
  simp [setKey]

@[simp] theorem placeOwed_frame (s : State) :
    (placeOwed s).held = s.held ∧ (placeOwed s).params = s.params ∧ (placeOwed s).modem = s.modem ∧
    (placeOwed s).framer = s.framer ∧ (placeOwed s).disp = s.disp ∧ (placeOwed s).kbd.headJudged = s.kbd.headJudged ∧
    (placeOwed s).kbd.plain = s.kbd.plain ∧ (placeOwed s).kbd.shift = s.kbd.shift ∧
    (placeOwed s).kbd.control = s.kbd.control ∧ (placeOwed s).kbd.downs = s.kbd.downs ∧
    (placeOwed s).kbd.caps = s.kbd.caps ∧ (placeOwed s).kbd.autoRepeat = s.kbd.autoRepeat ∧
    (placeOwed s).kbd.feedRepeats = s.kbd.feedRepeats ∧ (placeOwed s).kbd.mode = s.kbd.mode ∧
    (placeOwed s).kbd.lock = s.kbd.lock ∧ (placeOwed s).kbd.txFifo = s.kbd.txFifo ∧
    (placeOwed s).kbd.relay = s.kbd.relay ∧ (placeOwed s).kbd.tones = s.kbd.tones ∧ (placeOwed s).comp = s.comp ∧
    (placeOwed s).strobe = s.strobe ∧ (placeOwed s).engine = s.engine ∧ (placeOwed s).head = s.head ∧
    (placeOwed s).store = s.store ∧ (placeOwed s).send = s.send ∧ (placeOwed s).reprint = s.reprint ∧
    (placeOwed s).take = s.take ∧ (placeOwed s).compose = s.compose ∧ (placeOwed s).supply = s.supply ∧
    (placeOwed s).link = s.link ∧ (placeOwed s).reports = s.reports ∧ (placeOwed s).faults = s.faults ∧
    (placeOwed s).mem = s.mem ∧ (placeOwed s).draws = s.draws ∧ (placeOwed s).pending = s.pending := by
  simp only [placeOwed]; (repeat' split) <;> simp

@[simp] theorem removeEvent_frame (s : State) :
    (removeEvent s).held = s.held ∧ (removeEvent s).params = s.params ∧ (removeEvent s).modem = s.modem ∧
    (removeEvent s).framer = s.framer ∧ (removeEvent s).disp = s.disp ∧ (removeEvent s).kbd.plain = s.kbd.plain ∧
    (removeEvent s).kbd.shift = s.kbd.shift ∧ (removeEvent s).kbd.control = s.kbd.control ∧
    (removeEvent s).kbd.downs = s.kbd.downs ∧ (removeEvent s).kbd.caps = s.kbd.caps ∧
    (removeEvent s).kbd.autoRepeat = s.kbd.autoRepeat ∧ (removeEvent s).kbd.feedRepeats = s.kbd.feedRepeats ∧
    (removeEvent s).kbd.mode = s.kbd.mode ∧ (removeEvent s).kbd.lock = s.kbd.lock ∧
    (removeEvent s).kbd.txFifo = s.kbd.txFifo ∧ (removeEvent s).kbd.relay = s.kbd.relay ∧
    (removeEvent s).kbd.tones = s.kbd.tones ∧ (removeEvent s).comp = s.comp ∧ (removeEvent s).strobe = s.strobe ∧
    (removeEvent s).engine = s.engine ∧ (removeEvent s).head = s.head ∧ (removeEvent s).store = s.store ∧
    (removeEvent s).send = s.send ∧ (removeEvent s).reprint = s.reprint ∧ (removeEvent s).take = s.take ∧
    (removeEvent s).compose = s.compose ∧ (removeEvent s).supply = s.supply ∧ (removeEvent s).link = s.link ∧
    (removeEvent s).reports = s.reports ∧ (removeEvent s).faults = s.faults ∧ (removeEvent s).mem = s.mem ∧
    (removeEvent s).draws = s.draws ∧ (removeEvent s).pending = s.pending := by
  simp [removeEvent]

@[simp] theorem setDown_frame (p : Nat) (d : Option DownRecord) (s : State) :
    (setDown p d s).held = s.held ∧ (setDown p d s).params = s.params ∧ (setDown p d s).modem = s.modem ∧
    (setDown p d s).framer = s.framer ∧ (setDown p d s).disp = s.disp ∧ (setDown p d s).kbd.keys = s.kbd.keys ∧
    (setDown p d s).kbd.owed = s.kbd.owed ∧ (setDown p d s).kbd.events = s.kbd.events ∧
    (setDown p d s).kbd.headJudged = s.kbd.headJudged ∧ (setDown p d s).kbd.plain = s.kbd.plain ∧
    (setDown p d s).kbd.shift = s.kbd.shift ∧ (setDown p d s).kbd.control = s.kbd.control ∧
    (setDown p d s).kbd.caps = s.kbd.caps ∧ (setDown p d s).kbd.autoRepeat = s.kbd.autoRepeat ∧
    (setDown p d s).kbd.feedRepeats = s.kbd.feedRepeats ∧ (setDown p d s).kbd.mode = s.kbd.mode ∧
    (setDown p d s).kbd.lock = s.kbd.lock ∧ (setDown p d s).kbd.txFifo = s.kbd.txFifo ∧
    (setDown p d s).kbd.relay = s.kbd.relay ∧ (setDown p d s).kbd.tones = s.kbd.tones ∧
    (setDown p d s).comp = s.comp ∧ (setDown p d s).strobe = s.strobe ∧ (setDown p d s).engine = s.engine ∧
    (setDown p d s).head = s.head ∧ (setDown p d s).store = s.store ∧ (setDown p d s).send = s.send ∧
    (setDown p d s).reprint = s.reprint ∧ (setDown p d s).take = s.take ∧ (setDown p d s).compose = s.compose ∧
    (setDown p d s).supply = s.supply ∧ (setDown p d s).link = s.link ∧ (setDown p d s).reports = s.reports ∧
    (setDown p d s).faults = s.faults ∧ (setDown p d s).mem = s.mem ∧ (setDown p d s).draws = s.draws ∧
    (setDown p d s).pending = s.pending := by
  simp [setDown]

@[simp] theorem endRepeatOf_frame (p : Nat) (s : State) :
    (endRepeatOf p s).held = s.held ∧ (endRepeatOf p s).params = s.params ∧ (endRepeatOf p s).modem = s.modem ∧
    (endRepeatOf p s).framer = s.framer ∧ (endRepeatOf p s).disp = s.disp ∧ (endRepeatOf p s).kbd.keys = s.kbd.keys ∧
    (endRepeatOf p s).kbd.owed = s.kbd.owed ∧ (endRepeatOf p s).kbd.events = s.kbd.events ∧
    (endRepeatOf p s).kbd.headJudged = s.kbd.headJudged ∧ (endRepeatOf p s).kbd.plain = s.kbd.plain ∧
    (endRepeatOf p s).kbd.shift = s.kbd.shift ∧ (endRepeatOf p s).kbd.control = s.kbd.control ∧
    (endRepeatOf p s).kbd.downs = s.kbd.downs ∧ (endRepeatOf p s).kbd.caps = s.kbd.caps ∧
    (endRepeatOf p s).kbd.feedRepeats = s.kbd.feedRepeats ∧ (endRepeatOf p s).kbd.mode = s.kbd.mode ∧
    (endRepeatOf p s).kbd.lock = s.kbd.lock ∧ (endRepeatOf p s).kbd.txFifo = s.kbd.txFifo ∧
    (endRepeatOf p s).kbd.relay = s.kbd.relay ∧ (endRepeatOf p s).kbd.tones = s.kbd.tones ∧
    (endRepeatOf p s).comp = s.comp ∧ (endRepeatOf p s).strobe = s.strobe ∧ (endRepeatOf p s).engine = s.engine ∧
    (endRepeatOf p s).head = s.head ∧ (endRepeatOf p s).store = s.store ∧ (endRepeatOf p s).send = s.send ∧
    (endRepeatOf p s).reprint = s.reprint ∧ (endRepeatOf p s).take = s.take ∧ (endRepeatOf p s).compose = s.compose ∧
    (endRepeatOf p s).supply = s.supply ∧ (endRepeatOf p s).link = s.link ∧ (endRepeatOf p s).reports = s.reports ∧
    (endRepeatOf p s).faults = s.faults ∧ (endRepeatOf p s).mem = s.mem ∧ (endRepeatOf p s).draws = s.draws ∧
    (endRepeatOf p s).pending = s.pending := by
  simp only [endRepeatOf]; (repeat' split) <;> simp

@[simp] theorem keyUp_frame (p : Nat) (s : State) :
    (keyUp p s).held = s.held ∧ (keyUp p s).params = s.params ∧ (keyUp p s).modem = s.modem ∧
    (keyUp p s).framer = s.framer ∧ (keyUp p s).disp = s.disp ∧ (keyUp p s).kbd.headJudged = s.kbd.headJudged ∧
    (keyUp p s).kbd.plain = s.kbd.plain ∧ (keyUp p s).kbd.shift = s.kbd.shift ∧
    (keyUp p s).kbd.control = s.kbd.control ∧ (keyUp p s).kbd.downs = s.kbd.downs ∧
    (keyUp p s).kbd.caps = s.kbd.caps ∧ (keyUp p s).kbd.feedRepeats = s.kbd.feedRepeats ∧
    (keyUp p s).kbd.mode = s.kbd.mode ∧ (keyUp p s).kbd.lock = s.kbd.lock ∧ (keyUp p s).kbd.txFifo = s.kbd.txFifo ∧
    (keyUp p s).kbd.relay = s.kbd.relay ∧ (keyUp p s).kbd.tones = s.kbd.tones ∧ (keyUp p s).comp = s.comp ∧
    (keyUp p s).strobe = s.strobe ∧ (keyUp p s).engine = s.engine ∧ (keyUp p s).head = s.head ∧
    (keyUp p s).store = s.store ∧ (keyUp p s).send = s.send ∧ (keyUp p s).reprint = s.reprint ∧
    (keyUp p s).take = s.take ∧ (keyUp p s).compose = s.compose ∧ (keyUp p s).supply = s.supply ∧
    (keyUp p s).link = s.link ∧ (keyUp p s).reports = s.reports ∧ (keyUp p s).faults = s.faults ∧
    (keyUp p s).mem = s.mem ∧ (keyUp p s).draws = s.draws ∧ (keyUp p s).pending = s.pending := by
  simp only [keyUp]; (repeat' split) <;> simp

@[simp] theorem keyDown_frame (p : Nat) (s : State) :
    (keyDown p s).held = s.held ∧ (keyDown p s).params = s.params ∧ (keyDown p s).modem = s.modem ∧
    (keyDown p s).framer = s.framer ∧ (keyDown p s).disp = s.disp ∧ (keyDown p s).kbd.owed = s.kbd.owed ∧
    (keyDown p s).kbd.headJudged = s.kbd.headJudged ∧ (keyDown p s).kbd.plain = s.kbd.plain ∧
    (keyDown p s).kbd.shift = s.kbd.shift ∧ (keyDown p s).kbd.control = s.kbd.control ∧
    (keyDown p s).kbd.downs = s.kbd.downs ∧ (keyDown p s).kbd.caps = s.kbd.caps ∧
    (keyDown p s).kbd.autoRepeat = s.kbd.autoRepeat ∧ (keyDown p s).kbd.feedRepeats = s.kbd.feedRepeats ∧
    (keyDown p s).kbd.mode = s.kbd.mode ∧ (keyDown p s).kbd.lock = s.kbd.lock ∧
    (keyDown p s).kbd.txFifo = s.kbd.txFifo ∧ (keyDown p s).kbd.relay = s.kbd.relay ∧
    (keyDown p s).kbd.tones = s.kbd.tones ∧ (keyDown p s).comp = s.comp ∧ (keyDown p s).strobe = s.strobe ∧
    (keyDown p s).engine = s.engine ∧ (keyDown p s).head = s.head ∧ (keyDown p s).store = s.store ∧
    (keyDown p s).send = s.send ∧ (keyDown p s).reprint = s.reprint ∧ (keyDown p s).take = s.take ∧
    (keyDown p s).compose = s.compose ∧ (keyDown p s).supply = s.supply ∧ (keyDown p s).link = s.link ∧
    (keyDown p s).reports = s.reports ∧ (keyDown p s).faults = s.faults ∧ (keyDown p s).mem = s.mem ∧
    (keyDown p s).draws = s.draws ∧ (keyDown p s).pending = s.pending := by
  simp only [keyDown]; (repeat' split) <;> simp

@[simp] theorem upPass_frame (p : Nat) (s : State) :
    (upPass p s).held = s.held ∧ (upPass p s).params = s.params ∧ (upPass p s).modem = s.modem ∧
    (upPass p s).framer = s.framer ∧ (upPass p s).disp = s.disp ∧ (upPass p s).kbd.headJudged = s.kbd.headJudged ∧
    (upPass p s).kbd.plain = s.kbd.plain ∧ (upPass p s).kbd.shift = s.kbd.shift ∧
    (upPass p s).kbd.control = s.kbd.control ∧ (upPass p s).kbd.downs = s.kbd.downs ∧
    (upPass p s).kbd.caps = s.kbd.caps ∧ (upPass p s).kbd.feedRepeats = s.kbd.feedRepeats ∧
    (upPass p s).kbd.mode = s.kbd.mode ∧ (upPass p s).kbd.lock = s.kbd.lock ∧ (upPass p s).kbd.txFifo = s.kbd.txFifo ∧
    (upPass p s).kbd.relay = s.kbd.relay ∧ (upPass p s).kbd.tones = s.kbd.tones ∧ (upPass p s).comp = s.comp ∧
    (upPass p s).strobe = s.strobe ∧ (upPass p s).engine = s.engine ∧ (upPass p s).head = s.head ∧
    (upPass p s).store = s.store ∧ (upPass p s).send = s.send ∧ (upPass p s).reprint = s.reprint ∧
    (upPass p s).take = s.take ∧ (upPass p s).compose = s.compose ∧ (upPass p s).supply = s.supply ∧
    (upPass p s).link = s.link ∧ (upPass p s).reports = s.reports ∧ (upPass p s).faults = s.faults ∧
    (upPass p s).mem = s.mem ∧ (upPass p s).draws = s.draws ∧ (upPass p s).pending = s.pending := by
  simp only [upPass]; (repeat' split) <;> simp

@[simp] theorem downPass_frame (p : Nat) (s : State) :
    (downPass p s).held = s.held ∧ (downPass p s).params = s.params ∧ (downPass p s).modem = s.modem ∧
    (downPass p s).framer = s.framer ∧ (downPass p s).disp = s.disp ∧ (downPass p s).kbd.owed = s.kbd.owed ∧
    (downPass p s).kbd.headJudged = s.kbd.headJudged ∧ (downPass p s).kbd.plain = s.kbd.plain ∧
    (downPass p s).kbd.shift = s.kbd.shift ∧ (downPass p s).kbd.control = s.kbd.control ∧
    (downPass p s).kbd.downs = s.kbd.downs ∧ (downPass p s).kbd.caps = s.kbd.caps ∧
    (downPass p s).kbd.autoRepeat = s.kbd.autoRepeat ∧ (downPass p s).kbd.feedRepeats = s.kbd.feedRepeats ∧
    (downPass p s).kbd.mode = s.kbd.mode ∧ (downPass p s).kbd.lock = s.kbd.lock ∧
    (downPass p s).kbd.txFifo = s.kbd.txFifo ∧ (downPass p s).kbd.relay = s.kbd.relay ∧
    (downPass p s).kbd.tones = s.kbd.tones ∧ (downPass p s).comp = s.comp ∧ (downPass p s).strobe = s.strobe ∧
    (downPass p s).engine = s.engine ∧ (downPass p s).head = s.head ∧ (downPass p s).store = s.store ∧
    (downPass p s).send = s.send ∧ (downPass p s).reprint = s.reprint ∧ (downPass p s).take = s.take ∧
    (downPass p s).compose = s.compose ∧ (downPass p s).supply = s.supply ∧ (downPass p s).link = s.link ∧
    (downPass p s).reports = s.reports ∧ (downPass p s).faults = s.faults ∧ (downPass p s).mem = s.mem ∧
    (downPass p s).draws = s.draws ∧ (downPass p s).pending = s.pending := by
  simp only [downPass]; (repeat' split) <;> simp

@[simp] theorem upPass_foldl_frame (l : List Nat) (s : State) :
    (l.foldl (fun s p => upPass p s) s).held = s.held ∧ (l.foldl (fun s p => upPass p s) s).params = s.params ∧
    (l.foldl (fun s p => upPass p s) s).modem = s.modem ∧ (l.foldl (fun s p => upPass p s) s).framer = s.framer ∧
    (l.foldl (fun s p => upPass p s) s).disp = s.disp ∧
    (l.foldl (fun s p => upPass p s) s).kbd.headJudged = s.kbd.headJudged ∧
    (l.foldl (fun s p => upPass p s) s).kbd.plain = s.kbd.plain ∧
    (l.foldl (fun s p => upPass p s) s).kbd.shift = s.kbd.shift ∧
    (l.foldl (fun s p => upPass p s) s).kbd.control = s.kbd.control ∧
    (l.foldl (fun s p => upPass p s) s).kbd.downs = s.kbd.downs ∧
    (l.foldl (fun s p => upPass p s) s).kbd.caps = s.kbd.caps ∧
    (l.foldl (fun s p => upPass p s) s).kbd.feedRepeats = s.kbd.feedRepeats ∧
    (l.foldl (fun s p => upPass p s) s).kbd.mode = s.kbd.mode ∧
    (l.foldl (fun s p => upPass p s) s).kbd.lock = s.kbd.lock ∧
    (l.foldl (fun s p => upPass p s) s).kbd.txFifo = s.kbd.txFifo ∧
    (l.foldl (fun s p => upPass p s) s).kbd.relay = s.kbd.relay ∧
    (l.foldl (fun s p => upPass p s) s).kbd.tones = s.kbd.tones ∧ (l.foldl (fun s p => upPass p s) s).comp = s.comp ∧
    (l.foldl (fun s p => upPass p s) s).strobe = s.strobe ∧ (l.foldl (fun s p => upPass p s) s).engine = s.engine ∧
    (l.foldl (fun s p => upPass p s) s).head = s.head ∧ (l.foldl (fun s p => upPass p s) s).store = s.store ∧
    (l.foldl (fun s p => upPass p s) s).send = s.send ∧ (l.foldl (fun s p => upPass p s) s).reprint = s.reprint ∧
    (l.foldl (fun s p => upPass p s) s).take = s.take ∧ (l.foldl (fun s p => upPass p s) s).compose = s.compose ∧
    (l.foldl (fun s p => upPass p s) s).supply = s.supply ∧ (l.foldl (fun s p => upPass p s) s).link = s.link ∧
    (l.foldl (fun s p => upPass p s) s).reports = s.reports ∧ (l.foldl (fun s p => upPass p s) s).faults = s.faults ∧
    (l.foldl (fun s p => upPass p s) s).mem = s.mem ∧ (l.foldl (fun s p => upPass p s) s).draws = s.draws ∧
    (l.foldl (fun s p => upPass p s) s).pending = s.pending := by
  induction l generalizing s with
  | nil => simp
  | cons p l ih => simp [ih]

@[simp] theorem downPass_foldl_frame (l : List Nat) (s : State) :
    (l.foldl (fun s p => downPass p s) s).held = s.held ∧ (l.foldl (fun s p => downPass p s) s).params = s.params ∧
    (l.foldl (fun s p => downPass p s) s).modem = s.modem ∧ (l.foldl (fun s p => downPass p s) s).framer = s.framer ∧
    (l.foldl (fun s p => downPass p s) s).disp = s.disp ∧
    (l.foldl (fun s p => downPass p s) s).kbd.owed = s.kbd.owed ∧
    (l.foldl (fun s p => downPass p s) s).kbd.headJudged = s.kbd.headJudged ∧
    (l.foldl (fun s p => downPass p s) s).kbd.plain = s.kbd.plain ∧
    (l.foldl (fun s p => downPass p s) s).kbd.shift = s.kbd.shift ∧
    (l.foldl (fun s p => downPass p s) s).kbd.control = s.kbd.control ∧
    (l.foldl (fun s p => downPass p s) s).kbd.downs = s.kbd.downs ∧
    (l.foldl (fun s p => downPass p s) s).kbd.caps = s.kbd.caps ∧
    (l.foldl (fun s p => downPass p s) s).kbd.autoRepeat = s.kbd.autoRepeat ∧
    (l.foldl (fun s p => downPass p s) s).kbd.feedRepeats = s.kbd.feedRepeats ∧
    (l.foldl (fun s p => downPass p s) s).kbd.mode = s.kbd.mode ∧
    (l.foldl (fun s p => downPass p s) s).kbd.lock = s.kbd.lock ∧
    (l.foldl (fun s p => downPass p s) s).kbd.txFifo = s.kbd.txFifo ∧
    (l.foldl (fun s p => downPass p s) s).kbd.relay = s.kbd.relay ∧
    (l.foldl (fun s p => downPass p s) s).kbd.tones = s.kbd.tones ∧
    (l.foldl (fun s p => downPass p s) s).comp = s.comp ∧ (l.foldl (fun s p => downPass p s) s).strobe = s.strobe ∧
    (l.foldl (fun s p => downPass p s) s).engine = s.engine ∧ (l.foldl (fun s p => downPass p s) s).head = s.head ∧
    (l.foldl (fun s p => downPass p s) s).store = s.store ∧ (l.foldl (fun s p => downPass p s) s).send = s.send ∧
    (l.foldl (fun s p => downPass p s) s).reprint = s.reprint ∧ (l.foldl (fun s p => downPass p s) s).take = s.take ∧
    (l.foldl (fun s p => downPass p s) s).compose = s.compose ∧
    (l.foldl (fun s p => downPass p s) s).supply = s.supply ∧ (l.foldl (fun s p => downPass p s) s).link = s.link ∧
    (l.foldl (fun s p => downPass p s) s).reports = s.reports ∧
    (l.foldl (fun s p => downPass p s) s).faults = s.faults ∧ (l.foldl (fun s p => downPass p s) s).mem = s.mem ∧
    (l.foldl (fun s p => downPass p s) s).draws = s.draws ∧
    (l.foldl (fun s p => downPass p s) s).pending = s.pending := by
  induction l generalizing s with
  | nil => simp
  | cons p l ih => simp [ih]

@[simp] theorem scan_frame (snapshot : KeyMatrix) (s : State) :
    (scan snapshot s).held = s.held ∧ (scan snapshot s).params = s.params ∧ (scan snapshot s).modem = s.modem ∧
    (scan snapshot s).framer = s.framer ∧ (scan snapshot s).disp = s.disp ∧
    (scan snapshot s).kbd.headJudged = s.kbd.headJudged ∧ (scan snapshot s).kbd.plain = s.kbd.plain ∧
    (scan snapshot s).kbd.shift = s.kbd.shift ∧ (scan snapshot s).kbd.control = s.kbd.control ∧
    (scan snapshot s).kbd.downs = s.kbd.downs ∧ (scan snapshot s).kbd.caps = s.kbd.caps ∧
    (scan snapshot s).kbd.feedRepeats = s.kbd.feedRepeats ∧ (scan snapshot s).kbd.mode = s.kbd.mode ∧
    (scan snapshot s).kbd.lock = s.kbd.lock ∧ (scan snapshot s).kbd.txFifo = s.kbd.txFifo ∧
    (scan snapshot s).kbd.relay = s.kbd.relay ∧ (scan snapshot s).kbd.tones = s.kbd.tones ∧
    (scan snapshot s).comp = s.comp ∧ (scan snapshot s).strobe = s.strobe ∧ (scan snapshot s).engine = s.engine ∧
    (scan snapshot s).head = s.head ∧ (scan snapshot s).store = s.store ∧ (scan snapshot s).send = s.send ∧
    (scan snapshot s).reprint = s.reprint ∧ (scan snapshot s).take = s.take ∧ (scan snapshot s).compose = s.compose ∧
    (scan snapshot s).supply = s.supply ∧ (scan snapshot s).link = s.link ∧ (scan snapshot s).reports = s.reports ∧
    (scan snapshot s).faults = s.faults ∧ (scan snapshot s).mem = s.mem ∧ (scan snapshot s).draws = s.draws ∧
    (scan snapshot s).pending = s.pending := by
  simp [scan]

@[simp] theorem startTone_frame (t : Tone) (s : State) :
    (startTone t s).held = s.held ∧ (startTone t s).params = s.params ∧ (startTone t s).modem = s.modem ∧
    (startTone t s).framer = s.framer ∧ (startTone t s).disp = s.disp ∧ (startTone t s).kbd.keys = s.kbd.keys ∧
    (startTone t s).kbd.owed = s.kbd.owed ∧ (startTone t s).kbd.events = s.kbd.events ∧
    (startTone t s).kbd.headJudged = s.kbd.headJudged ∧ (startTone t s).kbd.plain = s.kbd.plain ∧
    (startTone t s).kbd.shift = s.kbd.shift ∧ (startTone t s).kbd.control = s.kbd.control ∧
    (startTone t s).kbd.downs = s.kbd.downs ∧ (startTone t s).kbd.caps = s.kbd.caps ∧
    (startTone t s).kbd.autoRepeat = s.kbd.autoRepeat ∧ (startTone t s).kbd.feedRepeats = s.kbd.feedRepeats ∧
    (startTone t s).kbd.mode = s.kbd.mode ∧ (startTone t s).kbd.lock = s.kbd.lock ∧
    (startTone t s).kbd.txFifo = s.kbd.txFifo ∧ (startTone t s).kbd.relay = s.kbd.relay ∧
    (startTone t s).comp = s.comp ∧ (startTone t s).strobe = s.strobe ∧ (startTone t s).engine = s.engine ∧
    (startTone t s).head = s.head ∧ (startTone t s).store = s.store ∧ (startTone t s).send = s.send ∧
    (startTone t s).reprint = s.reprint ∧ (startTone t s).take = s.take ∧ (startTone t s).compose = s.compose ∧
    (startTone t s).supply = s.supply ∧ (startTone t s).link = s.link ∧ (startTone t s).reports = s.reports ∧
    (startTone t s).faults = s.faults ∧ (startTone t s).mem = s.mem ∧ (startTone t s).draws = s.draws ∧
    (startTone t s).pending = s.pending := by
  simp [startTone]

@[simp] theorem signalRefusal_frame (s : State) :
    (signalRefusal s).held = s.held ∧ (signalRefusal s).params = s.params ∧ (signalRefusal s).modem = s.modem ∧
    (signalRefusal s).framer = s.framer ∧ (signalRefusal s).disp = s.disp ∧ (signalRefusal s).kbd.keys = s.kbd.keys ∧
    (signalRefusal s).kbd.owed = s.kbd.owed ∧ (signalRefusal s).kbd.events = s.kbd.events ∧
    (signalRefusal s).kbd.headJudged = s.kbd.headJudged ∧ (signalRefusal s).kbd.plain = s.kbd.plain ∧
    (signalRefusal s).kbd.shift = s.kbd.shift ∧ (signalRefusal s).kbd.control = s.kbd.control ∧
    (signalRefusal s).kbd.downs = s.kbd.downs ∧ (signalRefusal s).kbd.caps = s.kbd.caps ∧
    (signalRefusal s).kbd.autoRepeat = s.kbd.autoRepeat ∧ (signalRefusal s).kbd.feedRepeats = s.kbd.feedRepeats ∧
    (signalRefusal s).kbd.mode = s.kbd.mode ∧ (signalRefusal s).kbd.lock = s.kbd.lock ∧
    (signalRefusal s).kbd.txFifo = s.kbd.txFifo ∧ (signalRefusal s).kbd.relay = s.kbd.relay ∧
    (signalRefusal s).comp = s.comp ∧ (signalRefusal s).strobe = s.strobe ∧ (signalRefusal s).engine = s.engine ∧
    (signalRefusal s).head = s.head ∧ (signalRefusal s).store = s.store ∧ (signalRefusal s).send = s.send ∧
    (signalRefusal s).reprint = s.reprint ∧ (signalRefusal s).take = s.take ∧ (signalRefusal s).compose = s.compose ∧
    (signalRefusal s).supply = s.supply ∧ (signalRefusal s).link = s.link ∧ (signalRefusal s).faults = s.faults ∧
    (signalRefusal s).mem = s.mem ∧ (signalRefusal s).draws = s.draws ∧ (signalRefusal s).pending = s.pending := by
  simp [signalRefusal]

@[simp] theorem relayEvent_frame (p : Nat) (k : KeyKind) (s : State) :
    (relayEvent p k s).held = s.held ∧ (relayEvent p k s).params = s.params ∧ (relayEvent p k s).modem = s.modem ∧
    (relayEvent p k s).framer = s.framer ∧ (relayEvent p k s).disp = s.disp ∧
    (relayEvent p k s).kbd.keys = s.kbd.keys ∧ (relayEvent p k s).kbd.owed = s.kbd.owed ∧
    (relayEvent p k s).kbd.events = s.kbd.events ∧ (relayEvent p k s).kbd.headJudged = s.kbd.headJudged ∧
    (relayEvent p k s).kbd.plain = s.kbd.plain ∧ (relayEvent p k s).kbd.shift = s.kbd.shift ∧
    (relayEvent p k s).kbd.control = s.kbd.control ∧ (relayEvent p k s).kbd.downs = s.kbd.downs ∧
    (relayEvent p k s).kbd.caps = s.kbd.caps ∧ (relayEvent p k s).kbd.autoRepeat = s.kbd.autoRepeat ∧
    (relayEvent p k s).kbd.feedRepeats = s.kbd.feedRepeats ∧ (relayEvent p k s).kbd.mode = s.kbd.mode ∧
    (relayEvent p k s).kbd.lock = s.kbd.lock ∧ (relayEvent p k s).kbd.txFifo = s.kbd.txFifo ∧
    (relayEvent p k s).comp = s.comp ∧ (relayEvent p k s).strobe = s.strobe ∧ (relayEvent p k s).engine = s.engine ∧
    (relayEvent p k s).head = s.head ∧ (relayEvent p k s).store = s.store ∧ (relayEvent p k s).send = s.send ∧
    (relayEvent p k s).reprint = s.reprint ∧ (relayEvent p k s).take = s.take ∧
    (relayEvent p k s).compose = s.compose ∧ (relayEvent p k s).supply = s.supply ∧ (relayEvent p k s).link = s.link ∧
    (relayEvent p k s).faults = s.faults ∧ (relayEvent p k s).mem = s.mem ∧ (relayEvent p k s).draws = s.draws ∧
    (relayEvent p k s).pending = s.pending := by
  simp only [relayEvent]; (repeat' split) <;> simp

@[simp] theorem relayMake_frame (p : Nat) (s : State) :
    (relayMake p s).held = s.held ∧ (relayMake p s).params = s.params ∧ (relayMake p s).modem = s.modem ∧
    (relayMake p s).framer = s.framer ∧ (relayMake p s).disp = s.disp ∧ (relayMake p s).kbd.plain = s.kbd.plain ∧
    (relayMake p s).kbd.shift = s.kbd.shift ∧ (relayMake p s).kbd.control = s.kbd.control ∧
    (relayMake p s).kbd.caps = s.kbd.caps ∧ (relayMake p s).kbd.autoRepeat = s.kbd.autoRepeat ∧
    (relayMake p s).kbd.feedRepeats = s.kbd.feedRepeats ∧ (relayMake p s).kbd.mode = s.kbd.mode ∧
    (relayMake p s).kbd.lock = s.kbd.lock ∧ (relayMake p s).kbd.txFifo = s.kbd.txFifo ∧
    (relayMake p s).comp = s.comp ∧ (relayMake p s).strobe = s.strobe ∧ (relayMake p s).engine = s.engine ∧
    (relayMake p s).head = s.head ∧ (relayMake p s).store = s.store ∧ (relayMake p s).send = s.send ∧
    (relayMake p s).reprint = s.reprint ∧ (relayMake p s).take = s.take ∧ (relayMake p s).compose = s.compose ∧
    (relayMake p s).supply = s.supply ∧ (relayMake p s).link = s.link ∧ (relayMake p s).faults = s.faults ∧
    (relayMake p s).mem = s.mem ∧ (relayMake p s).draws = s.draws ∧ (relayMake p s).pending = s.pending := by
  simp [relayMake]

@[simp] theorem takeBreak_frame (p : Nat) (s : State) :
    (takeBreak p s).held = s.held ∧ (takeBreak p s).params = s.params ∧ (takeBreak p s).modem = s.modem ∧
    (takeBreak p s).framer = s.framer ∧ (takeBreak p s).disp = s.disp ∧ (takeBreak p s).kbd.plain = s.kbd.plain ∧
    (takeBreak p s).kbd.shift = s.kbd.shift ∧ (takeBreak p s).kbd.control = s.kbd.control ∧
    (takeBreak p s).kbd.caps = s.kbd.caps ∧ (takeBreak p s).kbd.autoRepeat = s.kbd.autoRepeat ∧
    (takeBreak p s).kbd.mode = s.kbd.mode ∧ (takeBreak p s).kbd.lock = s.kbd.lock ∧
    (takeBreak p s).kbd.txFifo = s.kbd.txFifo ∧ (takeBreak p s).comp = s.comp ∧ (takeBreak p s).strobe = s.strobe ∧
    (takeBreak p s).engine = s.engine ∧ (takeBreak p s).head = s.head ∧ (takeBreak p s).store = s.store ∧
    (takeBreak p s).send = s.send ∧ (takeBreak p s).reprint = s.reprint ∧ (takeBreak p s).take = s.take ∧
    (takeBreak p s).compose = s.compose ∧ (takeBreak p s).supply = s.supply ∧ (takeBreak p s).link = s.link ∧
    (takeBreak p s).faults = s.faults ∧ (takeBreak p s).mem = s.mem ∧ (takeBreak p s).draws = s.draws ∧
    (takeBreak p s).pending = s.pending := by
  simp only [takeBreak]; (repeat' split) <;> simp

@[simp] theorem deliverChar_frame (c : Code) (s : State) :
    (deliverChar c s).held = s.held ∧ (deliverChar c s).params = s.params ∧ (deliverChar c s).modem = s.modem ∧
    (deliverChar c s).framer = s.framer ∧ (deliverChar c s).disp.route = s.disp.route ∧
    (deliverChar c s).disp.headExamined = s.disp.headExamined ∧ (deliverChar c s).disp.record = s.disp.record ∧
    (deliverChar c s).disp.remotePause = s.disp.remotePause ∧ (deliverChar c s).disp.answerback = s.disp.answerback ∧
    (deliverChar c s).disp.progress = s.disp.progress ∧ (deliverChar c s).kbd.keys = s.kbd.keys ∧
    (deliverChar c s).kbd.owed = s.kbd.owed ∧ (deliverChar c s).kbd.events = s.kbd.events ∧
    (deliverChar c s).kbd.headJudged = s.kbd.headJudged ∧ (deliverChar c s).kbd.plain = s.kbd.plain ∧
    (deliverChar c s).kbd.shift = s.kbd.shift ∧ (deliverChar c s).kbd.control = s.kbd.control ∧
    (deliverChar c s).kbd.downs = s.kbd.downs ∧ (deliverChar c s).kbd.caps = s.kbd.caps ∧
    (deliverChar c s).kbd.autoRepeat = s.kbd.autoRepeat ∧ (deliverChar c s).kbd.feedRepeats = s.kbd.feedRepeats ∧
    (deliverChar c s).kbd.mode = s.kbd.mode ∧ (deliverChar c s).kbd.lock = s.kbd.lock ∧
    (deliverChar c s).kbd.relay = s.kbd.relay ∧ (deliverChar c s).kbd.tones = s.kbd.tones ∧
    (deliverChar c s).comp.linkPrint = s.comp.linkPrint ∧ (deliverChar c s).comp.output = s.comp.output ∧
    (deliverChar c s).comp.cells = s.comp.cells ∧ (deliverChar c s).comp.column = s.comp.column ∧
    (deliverChar c s).comp.wrapPending = s.comp.wrapPending ∧ (deliverChar c s).comp.lineSource = s.comp.lineSource ∧
    (deliverChar c s).comp.formCount = s.comp.formCount ∧ (deliverChar c s).comp.idleTimer = s.comp.idleTimer ∧
    (deliverChar c s).comp.flushDue = s.comp.flushDue ∧ (deliverChar c s).strobe = s.strobe ∧
    (deliverChar c s).engine = s.engine ∧ (deliverChar c s).head = s.head ∧ (deliverChar c s).store = s.store ∧
    (deliverChar c s).send = s.send ∧ (deliverChar c s).reprint = s.reprint ∧ (deliverChar c s).take = s.take ∧
    (deliverChar c s).supply = s.supply ∧ (deliverChar c s).link = s.link ∧ (deliverChar c s).reports = s.reports ∧
    (deliverChar c s).faults = s.faults ∧ (deliverChar c s).mem = s.mem ∧ (deliverChar c s).draws = s.draws ∧
    (deliverChar c s).pending = s.pending := by
  simp only [deliverChar]; (repeat' split) <;> simp

@[simp] theorem beginRepeat_frame (p : Nat) (s : State) :
    (beginRepeat p s).held = s.held ∧ (beginRepeat p s).params = s.params ∧ (beginRepeat p s).modem = s.modem ∧
    (beginRepeat p s).framer = s.framer ∧ (beginRepeat p s).disp = s.disp ∧ (beginRepeat p s).kbd.keys = s.kbd.keys ∧
    (beginRepeat p s).kbd.owed = s.kbd.owed ∧ (beginRepeat p s).kbd.events = s.kbd.events ∧
    (beginRepeat p s).kbd.headJudged = s.kbd.headJudged ∧ (beginRepeat p s).kbd.plain = s.kbd.plain ∧
    (beginRepeat p s).kbd.shift = s.kbd.shift ∧ (beginRepeat p s).kbd.control = s.kbd.control ∧
    (beginRepeat p s).kbd.downs = s.kbd.downs ∧ (beginRepeat p s).kbd.caps = s.kbd.caps ∧
    (beginRepeat p s).kbd.feedRepeats = s.kbd.feedRepeats ∧ (beginRepeat p s).kbd.mode = s.kbd.mode ∧
    (beginRepeat p s).kbd.lock = s.kbd.lock ∧ (beginRepeat p s).kbd.txFifo = s.kbd.txFifo ∧
    (beginRepeat p s).kbd.relay = s.kbd.relay ∧ (beginRepeat p s).kbd.tones = s.kbd.tones ∧
    (beginRepeat p s).comp = s.comp ∧ (beginRepeat p s).strobe = s.strobe ∧ (beginRepeat p s).engine = s.engine ∧
    (beginRepeat p s).head = s.head ∧ (beginRepeat p s).store = s.store ∧ (beginRepeat p s).send = s.send ∧
    (beginRepeat p s).reprint = s.reprint ∧ (beginRepeat p s).take = s.take ∧ (beginRepeat p s).compose = s.compose ∧
    (beginRepeat p s).supply = s.supply ∧ (beginRepeat p s).link = s.link ∧ (beginRepeat p s).reports = s.reports ∧
    (beginRepeat p s).faults = s.faults ∧ (beginRepeat p s).mem = s.mem ∧ (beginRepeat p s).draws = s.draws ∧
    (beginRepeat p s).pending = s.pending := by
  simp only [beginRepeat]; (repeat' split) <;> simp

@[simp] theorem headWaits_frame (s : State) :
    (headWaits s).held = s.held ∧ (headWaits s).params = s.params ∧ (headWaits s).modem = s.modem ∧
    (headWaits s).framer = s.framer ∧ (headWaits s).disp = s.disp ∧ (headWaits s).kbd.keys = s.kbd.keys ∧
    (headWaits s).kbd.owed = s.kbd.owed ∧ (headWaits s).kbd.events = s.kbd.events ∧
    (headWaits s).kbd.plain = s.kbd.plain ∧ (headWaits s).kbd.shift = s.kbd.shift ∧
    (headWaits s).kbd.control = s.kbd.control ∧ (headWaits s).kbd.downs = s.kbd.downs ∧
    (headWaits s).kbd.caps = s.kbd.caps ∧ (headWaits s).kbd.autoRepeat = s.kbd.autoRepeat ∧
    (headWaits s).kbd.feedRepeats = s.kbd.feedRepeats ∧ (headWaits s).kbd.mode = s.kbd.mode ∧
    (headWaits s).kbd.lock = s.kbd.lock ∧ (headWaits s).kbd.txFifo = s.kbd.txFifo ∧
    (headWaits s).kbd.relay = s.kbd.relay ∧ (headWaits s).kbd.tones = s.kbd.tones ∧
    (headWaits s).comp.queue = s.comp.queue ∧ (headWaits s).comp.owner = s.comp.owner ∧
    (headWaits s).comp.ownerTimer = s.comp.ownerTimer ∧ (headWaits s).comp.linkPrint = s.comp.linkPrint ∧
    (headWaits s).comp.output = s.comp.output ∧ (headWaits s).comp.cells = s.comp.cells ∧
    (headWaits s).comp.column = s.comp.column ∧ (headWaits s).comp.wrapPending = s.comp.wrapPending ∧
    (headWaits s).comp.lineSource = s.comp.lineSource ∧ (headWaits s).comp.formCount = s.comp.formCount ∧
    (headWaits s).comp.idleTimer = s.comp.idleTimer ∧ (headWaits s).comp.flushDue = s.comp.flushDue ∧
    (headWaits s).strobe = s.strobe ∧ (headWaits s).engine = s.engine ∧ (headWaits s).head = s.head ∧
    (headWaits s).store = s.store ∧ (headWaits s).send = s.send ∧ (headWaits s).reprint = s.reprint ∧
    (headWaits s).take = s.take ∧ (headWaits s).compose = s.compose ∧ (headWaits s).supply = s.supply ∧
    (headWaits s).link = s.link ∧ (headWaits s).reports = s.reports ∧ (headWaits s).faults = s.faults ∧
    (headWaits s).mem = s.mem ∧ (headWaits s).draws = s.draws ∧ (headWaits s).pending = s.pending := by
  simp [headWaits]

@[simp] theorem judgeMake_frame (p : Nat) (c : Code) (s : State) :
    (judgeMake p c s).held = s.held ∧ (judgeMake p c s).params = s.params ∧ (judgeMake p c s).modem = s.modem ∧
    (judgeMake p c s).framer = s.framer ∧ (judgeMake p c s).disp.route = s.disp.route ∧
    (judgeMake p c s).disp.headExamined = s.disp.headExamined ∧ (judgeMake p c s).disp.record = s.disp.record ∧
    (judgeMake p c s).disp.remotePause = s.disp.remotePause ∧ (judgeMake p c s).disp.answerback = s.disp.answerback ∧
    (judgeMake p c s).disp.progress = s.disp.progress ∧ (judgeMake p c s).kbd.plain = s.kbd.plain ∧
    (judgeMake p c s).kbd.shift = s.kbd.shift ∧ (judgeMake p c s).kbd.control = s.kbd.control ∧
    (judgeMake p c s).kbd.caps = s.kbd.caps ∧ (judgeMake p c s).kbd.feedRepeats = s.kbd.feedRepeats ∧
    (judgeMake p c s).kbd.mode = s.kbd.mode ∧ (judgeMake p c s).kbd.lock = s.kbd.lock ∧
    (judgeMake p c s).kbd.relay = s.kbd.relay ∧ (judgeMake p c s).comp.linkPrint = s.comp.linkPrint ∧
    (judgeMake p c s).comp.output = s.comp.output ∧ (judgeMake p c s).comp.cells = s.comp.cells ∧
    (judgeMake p c s).comp.column = s.comp.column ∧ (judgeMake p c s).comp.wrapPending = s.comp.wrapPending ∧
    (judgeMake p c s).comp.lineSource = s.comp.lineSource ∧ (judgeMake p c s).comp.formCount = s.comp.formCount ∧
    (judgeMake p c s).comp.idleTimer = s.comp.idleTimer ∧ (judgeMake p c s).comp.flushDue = s.comp.flushDue ∧
    (judgeMake p c s).strobe = s.strobe ∧ (judgeMake p c s).engine = s.engine ∧ (judgeMake p c s).head = s.head ∧
    (judgeMake p c s).store = s.store ∧ (judgeMake p c s).send = s.send ∧ (judgeMake p c s).reprint = s.reprint ∧
    (judgeMake p c s).take = s.take ∧ (judgeMake p c s).supply = s.supply ∧ (judgeMake p c s).link = s.link ∧
    (judgeMake p c s).faults = s.faults ∧ (judgeMake p c s).mem = s.mem ∧ (judgeMake p c s).draws = s.draws ∧
    (judgeMake p c s).pending = s.pending := by
  simp only [judgeMake]; (repeat' split) <;> simp

@[simp] theorem judgeRepeat_frame (c : Code) (s : State) :
    (judgeRepeat c s).held = s.held ∧ (judgeRepeat c s).params = s.params ∧ (judgeRepeat c s).modem = s.modem ∧
    (judgeRepeat c s).framer = s.framer ∧ (judgeRepeat c s).disp.route = s.disp.route ∧
    (judgeRepeat c s).disp.headExamined = s.disp.headExamined ∧ (judgeRepeat c s).disp.record = s.disp.record ∧
    (judgeRepeat c s).disp.remotePause = s.disp.remotePause ∧ (judgeRepeat c s).disp.answerback = s.disp.answerback ∧
    (judgeRepeat c s).disp.progress = s.disp.progress ∧ (judgeRepeat c s).kbd.plain = s.kbd.plain ∧
    (judgeRepeat c s).kbd.shift = s.kbd.shift ∧ (judgeRepeat c s).kbd.control = s.kbd.control ∧
    (judgeRepeat c s).kbd.downs = s.kbd.downs ∧ (judgeRepeat c s).kbd.caps = s.kbd.caps ∧
    (judgeRepeat c s).kbd.feedRepeats = s.kbd.feedRepeats ∧ (judgeRepeat c s).kbd.mode = s.kbd.mode ∧
    (judgeRepeat c s).kbd.lock = s.kbd.lock ∧ (judgeRepeat c s).kbd.relay = s.kbd.relay ∧
    (judgeRepeat c s).kbd.tones = s.kbd.tones ∧ (judgeRepeat c s).comp.linkPrint = s.comp.linkPrint ∧
    (judgeRepeat c s).comp.output = s.comp.output ∧ (judgeRepeat c s).comp.cells = s.comp.cells ∧
    (judgeRepeat c s).comp.column = s.comp.column ∧ (judgeRepeat c s).comp.wrapPending = s.comp.wrapPending ∧
    (judgeRepeat c s).comp.lineSource = s.comp.lineSource ∧ (judgeRepeat c s).comp.formCount = s.comp.formCount ∧
    (judgeRepeat c s).comp.idleTimer = s.comp.idleTimer ∧ (judgeRepeat c s).comp.flushDue = s.comp.flushDue ∧
    (judgeRepeat c s).strobe = s.strobe ∧ (judgeRepeat c s).engine = s.engine ∧ (judgeRepeat c s).head = s.head ∧
    (judgeRepeat c s).store = s.store ∧ (judgeRepeat c s).send = s.send ∧ (judgeRepeat c s).reprint = s.reprint ∧
    (judgeRepeat c s).take = s.take ∧ (judgeRepeat c s).supply = s.supply ∧ (judgeRepeat c s).link = s.link ∧
    (judgeRepeat c s).reports = s.reports ∧ (judgeRepeat c s).faults = s.faults ∧ (judgeRepeat c s).mem = s.mem ∧
    (judgeRepeat c s).draws = s.draws ∧ (judgeRepeat c s).pending = s.pending := by
  simp only [judgeRepeat]; (repeat' split) <;> simp

@[simp] theorem functionKey_frame (p : Nat) (entry : Byte) (s : State) :
    (functionKey p entry s).held = s.held ∧ (functionKey p entry s).params = s.params ∧
    (functionKey p entry s).modem = s.modem ∧ (functionKey p entry s).framer.sampler = s.framer.sampler ∧
    (functionKey p entry s).framer.rxFifo = s.framer.rxFifo ∧
    (functionKey p entry s).framer.overrun = s.framer.overrun ∧
    (functionKey p entry s).framer.shift = s.framer.shift ∧
    (functionKey p entry s).framer.holding = s.framer.holding ∧
    (functionKey p entry s).framer.linkText = s.framer.linkText ∧ (functionKey p entry s).disp = s.disp ∧
    (functionKey p entry s).kbd.plain = s.kbd.plain ∧ (functionKey p entry s).kbd.shift = s.kbd.shift ∧
    (functionKey p entry s).kbd.control = s.kbd.control ∧ (functionKey p entry s).kbd.autoRepeat = s.kbd.autoRepeat ∧
    (functionKey p entry s).kbd.mode = s.kbd.mode ∧ (functionKey p entry s).kbd.lock = s.kbd.lock ∧
    (functionKey p entry s).kbd.txFifo = s.kbd.txFifo ∧ (functionKey p entry s).comp.queue = s.comp.queue ∧
    (functionKey p entry s).comp.owner = s.comp.owner ∧ (functionKey p entry s).comp.ownerTimer = s.comp.ownerTimer ∧
    (functionKey p entry s).comp.linkPrint = s.comp.linkPrint ∧ (functionKey p entry s).comp.column = s.comp.column ∧
    (functionKey p entry s).comp.wrapPending = s.comp.wrapPending ∧
    (functionKey p entry s).comp.idleTimer = s.comp.idleTimer ∧
    (functionKey p entry s).comp.flushDue = s.comp.flushDue ∧
    (functionKey p entry s).comp.keysEcho = s.comp.keysEcho ∧ (functionKey p entry s).strobe = s.strobe ∧
    (functionKey p entry s).engine = s.engine ∧ (functionKey p entry s).head = s.head ∧
    (functionKey p entry s).store = s.store ∧ (functionKey p entry s).send = s.send ∧
    (functionKey p entry s).reprint = s.reprint ∧ (functionKey p entry s).take = s.take ∧
    (functionKey p entry s).supply = s.supply ∧ (functionKey p entry s).link = s.link ∧
    (functionKey p entry s).faults = s.faults ∧ (functionKey p entry s).mem = s.mem ∧
    (functionKey p entry s).draws = s.draws ∧ (functionKey p entry s).pending = s.pending := by
  simp only [functionKey]; (repeat' split) <;> simp

@[simp] theorem judgeHead_frame (s : State) :
    (judgeHead s).held = s.held ∧ (judgeHead s).params = s.params ∧ (judgeHead s).modem = s.modem ∧
    (judgeHead s).framer.sampler = s.framer.sampler ∧ (judgeHead s).framer.rxFifo = s.framer.rxFifo ∧
    (judgeHead s).framer.overrun = s.framer.overrun ∧ (judgeHead s).framer.shift = s.framer.shift ∧
    (judgeHead s).framer.holding = s.framer.holding ∧ (judgeHead s).framer.linkText = s.framer.linkText ∧
    (judgeHead s).disp.route = s.disp.route ∧ (judgeHead s).disp.headExamined = s.disp.headExamined ∧
    (judgeHead s).disp.record = s.disp.record ∧ (judgeHead s).disp.remotePause = s.disp.remotePause ∧
    (judgeHead s).disp.answerback = s.disp.answerback ∧ (judgeHead s).disp.progress = s.disp.progress ∧
    (judgeHead s).kbd.plain = s.kbd.plain ∧ (judgeHead s).kbd.shift = s.kbd.shift ∧
    (judgeHead s).kbd.control = s.kbd.control ∧ (judgeHead s).kbd.mode = s.kbd.mode ∧
    (judgeHead s).kbd.lock = s.kbd.lock ∧ (judgeHead s).comp.linkPrint = s.comp.linkPrint ∧
    (judgeHead s).comp.column = s.comp.column ∧ (judgeHead s).comp.wrapPending = s.comp.wrapPending ∧
    (judgeHead s).comp.idleTimer = s.comp.idleTimer ∧ (judgeHead s).comp.flushDue = s.comp.flushDue ∧
    (judgeHead s).strobe = s.strobe ∧ (judgeHead s).engine = s.engine ∧ (judgeHead s).head = s.head ∧
    (judgeHead s).store = s.store ∧ (judgeHead s).send = s.send ∧ (judgeHead s).reprint = s.reprint ∧
    (judgeHead s).take = s.take ∧ (judgeHead s).supply = s.supply ∧ (judgeHead s).link = s.link ∧
    (judgeHead s).faults = s.faults ∧ (judgeHead s).mem = s.mem ∧ (judgeHead s).draws = s.draws ∧
    (judgeHead s).pending = s.pending := by
  simp only [judgeHead]; (repeat' split) <;> simp

@[simp] theorem setSampler_frame (x : Sampler) (s : State) :
    (setSampler x s).held = s.held ∧ (setSampler x s).params = s.params ∧ (setSampler x s).modem = s.modem ∧
    (setSampler x s).framer.rxFifo = s.framer.rxFifo ∧ (setSampler x s).framer.overrun = s.framer.overrun ∧
    (setSampler x s).framer.shift = s.framer.shift ∧ (setSampler x s).framer.holding = s.framer.holding ∧
    (setSampler x s).framer.brk = s.framer.brk ∧ (setSampler x s).framer.linkText = s.framer.linkText ∧
    (setSampler x s).disp = s.disp ∧ (setSampler x s).kbd = s.kbd ∧ (setSampler x s).comp = s.comp ∧
    (setSampler x s).strobe = s.strobe ∧ (setSampler x s).engine = s.engine ∧ (setSampler x s).head = s.head ∧
    (setSampler x s).store = s.store ∧ (setSampler x s).send = s.send ∧ (setSampler x s).reprint = s.reprint ∧
    (setSampler x s).take = s.take ∧ (setSampler x s).compose = s.compose ∧ (setSampler x s).supply = s.supply ∧
    (setSampler x s).link = s.link ∧ (setSampler x s).reports = s.reports ∧ (setSampler x s).faults = s.faults ∧
    (setSampler x s).mem = s.mem ∧ (setSampler x s).draws = s.draws ∧ (setSampler x s).pending = s.pending := by
  simp [setSampler]

@[simp] theorem characterEnds_frame (f : LineFormat) (samples : List Decision) (s : State) :
    (characterEnds f samples s).held = s.held ∧ (characterEnds f samples s).params = s.params ∧
    (characterEnds f samples s).modem = s.modem ∧ (characterEnds f samples s).framer.shift = s.framer.shift ∧
    (characterEnds f samples s).framer.holding = s.framer.holding ∧
    (characterEnds f samples s).framer.brk = s.framer.brk ∧
    (characterEnds f samples s).framer.linkText = s.framer.linkText ∧
    (characterEnds f samples s).disp.route = s.disp.route ∧
    (characterEnds f samples s).disp.headExamined = s.disp.headExamined ∧
    (characterEnds f samples s).disp.record = s.disp.record ∧
    (characterEnds f samples s).disp.remotePause = s.disp.remotePause ∧
    (characterEnds f samples s).disp.answerback = s.disp.answerback ∧
    (characterEnds f samples s).disp.progress = s.disp.progress ∧ (characterEnds f samples s).kbd = s.kbd ∧
    (characterEnds f samples s).comp = s.comp ∧ (characterEnds f samples s).strobe = s.strobe ∧
    (characterEnds f samples s).engine = s.engine ∧ (characterEnds f samples s).head = s.head ∧
    (characterEnds f samples s).store = s.store ∧ (characterEnds f samples s).send = s.send ∧
    (characterEnds f samples s).reprint = s.reprint ∧ (characterEnds f samples s).take = s.take ∧
    (characterEnds f samples s).compose = s.compose ∧ (characterEnds f samples s).supply = s.supply ∧
    (characterEnds f samples s).link = s.link ∧ (characterEnds f samples s).reports = s.reports ∧
    (characterEnds f samples s).faults = s.faults ∧ (characterEnds f samples s).mem = s.mem ∧
    (characterEnds f samples s).draws = s.draws ∧ (characterEnds f samples s).pending = s.pending := by
  simp only [characterEnds]; (repeat' split) <;> simp

@[simp] theorem completeCharacter_frame (sounds : List (List Sound)) (s : State) :
    (completeCharacter sounds s).held = s.held ∧ (completeCharacter sounds s).params = s.params ∧
    (completeCharacter sounds s).modem = s.modem ∧ (completeCharacter sounds s).framer.shift = s.framer.shift ∧
    (completeCharacter sounds s).framer.holding = s.framer.holding ∧
    (completeCharacter sounds s).framer.brk = s.framer.brk ∧
    (completeCharacter sounds s).framer.linkText = s.framer.linkText ∧
    (completeCharacter sounds s).disp.route = s.disp.route ∧
    (completeCharacter sounds s).disp.headExamined = s.disp.headExamined ∧
    (completeCharacter sounds s).disp.record = s.disp.record ∧
    (completeCharacter sounds s).disp.remotePause = s.disp.remotePause ∧
    (completeCharacter sounds s).disp.answerback = s.disp.answerback ∧
    (completeCharacter sounds s).disp.progress = s.disp.progress ∧ (completeCharacter sounds s).kbd = s.kbd ∧
    (completeCharacter sounds s).comp = s.comp ∧ (completeCharacter sounds s).strobe = s.strobe ∧
    (completeCharacter sounds s).engine = s.engine ∧ (completeCharacter sounds s).head = s.head ∧
    (completeCharacter sounds s).store = s.store ∧ (completeCharacter sounds s).send = s.send ∧
    (completeCharacter sounds s).reprint = s.reprint ∧ (completeCharacter sounds s).take = s.take ∧
    (completeCharacter sounds s).compose = s.compose ∧ (completeCharacter sounds s).supply = s.supply ∧
    (completeCharacter sounds s).link = s.link ∧ (completeCharacter sounds s).reports = s.reports ∧
    (completeCharacter sounds s).faults = s.faults ∧ (completeCharacter sounds s).mem = s.mem ∧
    (completeCharacter sounds s).draws = s.draws ∧ (completeCharacter sounds s).pending = s.pending := by
  simp only [completeCharacter]; (repeat' split) <;> simp

@[simp] theorem takeFrom_frame (t : TxChoice) (s : State) :
    (takeFrom t s).held = s.held ∧ (takeFrom t s).params = s.params ∧ (takeFrom t s).modem = s.modem ∧
    (takeFrom t s).framer.sampler = s.framer.sampler ∧ (takeFrom t s).framer.rxFifo = s.framer.rxFifo ∧
    (takeFrom t s).framer.overrun = s.framer.overrun ∧ (takeFrom t s).framer.shift = s.framer.shift ∧
    (takeFrom t s).framer.holding = s.framer.holding ∧ (takeFrom t s).framer.brk = s.framer.brk ∧
    (takeFrom t s).disp.route = s.disp.route ∧ (takeFrom t s).disp.headExamined = s.disp.headExamined ∧
    (takeFrom t s).disp.record = s.disp.record ∧ (takeFrom t s).disp.flow = s.disp.flow ∧
    (takeFrom t s).disp.remotePause = s.disp.remotePause ∧ (takeFrom t s).disp.answerback = s.disp.answerback ∧
    (takeFrom t s).kbd.keys = s.kbd.keys ∧ (takeFrom t s).kbd.owed = s.kbd.owed ∧
    (takeFrom t s).kbd.events = s.kbd.events ∧ (takeFrom t s).kbd.headJudged = s.kbd.headJudged ∧
    (takeFrom t s).kbd.plain = s.kbd.plain ∧ (takeFrom t s).kbd.shift = s.kbd.shift ∧
    (takeFrom t s).kbd.control = s.kbd.control ∧ (takeFrom t s).kbd.downs = s.kbd.downs ∧
    (takeFrom t s).kbd.caps = s.kbd.caps ∧ (takeFrom t s).kbd.autoRepeat = s.kbd.autoRepeat ∧
    (takeFrom t s).kbd.feedRepeats = s.kbd.feedRepeats ∧ (takeFrom t s).kbd.mode = s.kbd.mode ∧
    (takeFrom t s).kbd.lock = s.kbd.lock ∧ (takeFrom t s).kbd.relay = s.kbd.relay ∧
    (takeFrom t s).kbd.tones = s.kbd.tones ∧ (takeFrom t s).comp = s.comp ∧ (takeFrom t s).strobe = s.strobe ∧
    (takeFrom t s).engine = s.engine ∧ (takeFrom t s).head = s.head ∧ (takeFrom t s).store.state = s.store.state ∧
    (takeFrom t s).store.mountNext = s.store.mountNext ∧ (takeFrom t s).store.formatNext = s.store.formatNext ∧
    (takeFrom t s).store.free = s.store.free ∧ (takeFrom t s).store.bad = s.store.bad ∧
    (takeFrom t s).store.sectors = s.store.sectors ∧ (takeFrom t s).store.inFlight = s.store.inFlight ∧
    (takeFrom t s).store.jobs = s.store.jobs ∧ (takeFrom t s).store.patrolPos = s.store.patrolPos ∧
    (takeFrom t s).store.patrolTimer = s.store.patrolTimer ∧ (takeFrom t s).store.patrolRead = s.store.patrolRead ∧
    (takeFrom t s).store.linkRead = s.store.linkRead ∧ (takeFrom t s).reprint = s.reprint ∧
    (takeFrom t s).take = s.take ∧ (takeFrom t s).compose = s.compose ∧ (takeFrom t s).supply = s.supply ∧
    (takeFrom t s).link = s.link ∧ (takeFrom t s).faults = s.faults ∧ (takeFrom t s).mem = s.mem ∧
    (takeFrom t s).draws = s.draws ∧ (takeFrom t s).pending = s.pending := by
  simp only [takeFrom]; (repeat' split) <;> simp

@[simp] theorem enterHolding_frame (c : Code) (s : State) :
    (enterHolding c s).held = s.held ∧ (enterHolding c s).params = s.params ∧ (enterHolding c s).modem = s.modem ∧
    (enterHolding c s).framer.sampler = s.framer.sampler ∧ (enterHolding c s).framer.rxFifo = s.framer.rxFifo ∧
    (enterHolding c s).framer.overrun = s.framer.overrun ∧ (enterHolding c s).framer.brk = s.framer.brk ∧
    (enterHolding c s).framer.linkText = s.framer.linkText ∧ (enterHolding c s).disp = s.disp ∧
    (enterHolding c s).kbd = s.kbd ∧ (enterHolding c s).comp = s.comp ∧ (enterHolding c s).strobe = s.strobe ∧
    (enterHolding c s).engine = s.engine ∧ (enterHolding c s).head = s.head ∧ (enterHolding c s).store = s.store ∧
    (enterHolding c s).send = s.send ∧ (enterHolding c s).reprint = s.reprint ∧ (enterHolding c s).take = s.take ∧
    (enterHolding c s).compose = s.compose ∧ (enterHolding c s).supply = s.supply ∧ (enterHolding c s).link = s.link ∧
    (enterHolding c s).reports = s.reports ∧ (enterHolding c s).faults = s.faults ∧ (enterHolding c s).mem = s.mem ∧
    (enterHolding c s).draws = s.draws ∧ (enterHolding c s).pending = s.pending := by
  simp only [enterHolding]; (repeat' split) <;> simp

@[simp] theorem refill_frame (s : State) :
    (refill s).held = s.held ∧ (refill s).params = s.params ∧ (refill s).modem = s.modem ∧
    (refill s).framer.sampler = s.framer.sampler ∧ (refill s).framer.rxFifo = s.framer.rxFifo ∧
    (refill s).framer.overrun = s.framer.overrun ∧ (refill s).framer.brk = s.framer.brk ∧
    (refill s).disp.route = s.disp.route ∧ (refill s).disp.headExamined = s.disp.headExamined ∧
    (refill s).disp.record = s.disp.record ∧ (refill s).disp.flow = s.disp.flow ∧
    (refill s).disp.remotePause = s.disp.remotePause ∧ (refill s).disp.answerback = s.disp.answerback ∧
    (refill s).kbd.keys = s.kbd.keys ∧ (refill s).kbd.owed = s.kbd.owed ∧ (refill s).kbd.events = s.kbd.events ∧
    (refill s).kbd.headJudged = s.kbd.headJudged ∧ (refill s).kbd.plain = s.kbd.plain ∧
    (refill s).kbd.shift = s.kbd.shift ∧ (refill s).kbd.control = s.kbd.control ∧ (refill s).kbd.downs = s.kbd.downs ∧
    (refill s).kbd.caps = s.kbd.caps ∧ (refill s).kbd.autoRepeat = s.kbd.autoRepeat ∧
    (refill s).kbd.feedRepeats = s.kbd.feedRepeats ∧ (refill s).kbd.mode = s.kbd.mode ∧
    (refill s).kbd.lock = s.kbd.lock ∧ (refill s).kbd.relay = s.kbd.relay ∧ (refill s).kbd.tones = s.kbd.tones ∧
    (refill s).comp = s.comp ∧ (refill s).strobe = s.strobe ∧ (refill s).engine = s.engine ∧
    (refill s).head = s.head ∧ (refill s).store.state = s.store.state ∧
    (refill s).store.mountNext = s.store.mountNext ∧ (refill s).store.formatNext = s.store.formatNext ∧
    (refill s).store.free = s.store.free ∧ (refill s).store.bad = s.store.bad ∧
    (refill s).store.sectors = s.store.sectors ∧ (refill s).store.inFlight = s.store.inFlight ∧
    (refill s).store.jobs = s.store.jobs ∧ (refill s).store.patrolPos = s.store.patrolPos ∧
    (refill s).store.patrolTimer = s.store.patrolTimer ∧ (refill s).store.patrolRead = s.store.patrolRead ∧
    (refill s).store.linkRead = s.store.linkRead ∧ (refill s).reprint = s.reprint ∧ (refill s).take = s.take ∧
    (refill s).compose = s.compose ∧ (refill s).supply = s.supply ∧ (refill s).link = s.link ∧
    (refill s).faults = s.faults ∧ (refill s).mem = s.mem ∧ (refill s).draws = s.draws ∧
    (refill s).pending = s.pending := by
  simp only [refill]; (repeat' split) <;> simp

@[simp] theorem qualifyMeasure_frame (s : State) :
    (qualifyMeasure s).held = s.held ∧ (qualifyMeasure s).params = s.params ∧ (qualifyMeasure s).framer = s.framer ∧
    (qualifyMeasure s).disp = s.disp ∧ (qualifyMeasure s).kbd = s.kbd ∧ (qualifyMeasure s).comp = s.comp ∧
    (qualifyMeasure s).strobe = s.strobe ∧ (qualifyMeasure s).engine = s.engine ∧ (qualifyMeasure s).head = s.head ∧
    (qualifyMeasure s).store = s.store ∧ (qualifyMeasure s).send = s.send ∧ (qualifyMeasure s).reprint = s.reprint ∧
    (qualifyMeasure s).take = s.take ∧ (qualifyMeasure s).compose = s.compose ∧ (qualifyMeasure s).supply = s.supply ∧
    (qualifyMeasure s).link = s.link ∧ (qualifyMeasure s).reports = s.reports ∧ (qualifyMeasure s).faults = s.faults ∧
    (qualifyMeasure s).mem = s.mem ∧ (qualifyMeasure s).draws = s.draws ∧ (qualifyMeasure s).pending = s.pending := by
  simp only [qualifyMeasure]; (repeat' split) <;> simp

@[simp] theorem dropoutMeasure_frame (s : State) :
    (dropoutMeasure s).held = s.held ∧ (dropoutMeasure s).params = s.params ∧
    (dropoutMeasure s).framer.rxFifo = s.framer.rxFifo ∧ (dropoutMeasure s).framer.overrun = s.framer.overrun ∧
    (dropoutMeasure s).framer.shift = s.framer.shift ∧ (dropoutMeasure s).framer.holding = s.framer.holding ∧
    (dropoutMeasure s).framer.brk = s.framer.brk ∧ (dropoutMeasure s).framer.linkText = s.framer.linkText ∧
    (dropoutMeasure s).disp = s.disp ∧ (dropoutMeasure s).kbd = s.kbd ∧ (dropoutMeasure s).comp = s.comp ∧
    (dropoutMeasure s).strobe = s.strobe ∧ (dropoutMeasure s).engine = s.engine ∧ (dropoutMeasure s).head = s.head ∧
    (dropoutMeasure s).store = s.store ∧ (dropoutMeasure s).send = s.send ∧ (dropoutMeasure s).reprint = s.reprint ∧
    (dropoutMeasure s).take = s.take ∧ (dropoutMeasure s).compose = s.compose ∧ (dropoutMeasure s).supply = s.supply ∧
    (dropoutMeasure s).link = s.link ∧ (dropoutMeasure s).faults = s.faults ∧ (dropoutMeasure s).mem = s.mem ∧
    (dropoutMeasure s).draws = s.draws ∧ (dropoutMeasure s).pending = s.pending := by
  simp only [dropoutMeasure]; (repeat' split) <;> simp

@[simp] theorem recoverMeasure_frame (s : State) :
    (recoverMeasure s).held = s.held ∧ (recoverMeasure s).params = s.params ∧
    (recoverMeasure s).framer.rxFifo = s.framer.rxFifo ∧ (recoverMeasure s).framer.overrun = s.framer.overrun ∧
    (recoverMeasure s).framer.shift = s.framer.shift ∧ (recoverMeasure s).framer.holding = s.framer.holding ∧
    (recoverMeasure s).framer.brk = s.framer.brk ∧ (recoverMeasure s).framer.linkText = s.framer.linkText ∧
    (recoverMeasure s).disp = s.disp ∧ (recoverMeasure s).kbd = s.kbd ∧ (recoverMeasure s).comp = s.comp ∧
    (recoverMeasure s).strobe = s.strobe ∧ (recoverMeasure s).engine = s.engine ∧ (recoverMeasure s).head = s.head ∧
    (recoverMeasure s).store = s.store ∧ (recoverMeasure s).send = s.send ∧ (recoverMeasure s).reprint = s.reprint ∧
    (recoverMeasure s).take = s.take ∧ (recoverMeasure s).compose = s.compose ∧ (recoverMeasure s).supply = s.supply ∧
    (recoverMeasure s).link = s.link ∧ (recoverMeasure s).faults = s.faults ∧ (recoverMeasure s).mem = s.mem ∧
    (recoverMeasure s).draws = s.draws ∧ (recoverMeasure s).pending = s.pending := by
  simp only [recoverMeasure]; (repeat' split) <;> simp

@[simp] theorem measureCarrier_frame (level : Nat) (s : State) :
    (measureCarrier level s).held = s.held ∧ (measureCarrier level s).params = s.params ∧
    (measureCarrier level s).framer.rxFifo = s.framer.rxFifo ∧
    (measureCarrier level s).framer.overrun = s.framer.overrun ∧
    (measureCarrier level s).framer.shift = s.framer.shift ∧
    (measureCarrier level s).framer.holding = s.framer.holding ∧ (measureCarrier level s).framer.brk = s.framer.brk ∧
    (measureCarrier level s).framer.linkText = s.framer.linkText ∧ (measureCarrier level s).disp = s.disp ∧
    (measureCarrier level s).kbd = s.kbd ∧ (measureCarrier level s).comp = s.comp ∧
    (measureCarrier level s).strobe = s.strobe ∧ (measureCarrier level s).engine = s.engine ∧
    (measureCarrier level s).head = s.head ∧ (measureCarrier level s).store = s.store ∧
    (measureCarrier level s).send = s.send ∧ (measureCarrier level s).reprint = s.reprint ∧
    (measureCarrier level s).take = s.take ∧ (measureCarrier level s).compose = s.compose ∧
    (measureCarrier level s).supply = s.supply ∧ (measureCarrier level s).link = s.link ∧
    (measureCarrier level s).faults = s.faults ∧ (measureCarrier level s).mem = s.mem ∧
    (measureCarrier level s).draws = s.draws ∧ (measureCarrier level s).pending = s.pending := by
  simp only [measureCarrier]; (repeat' split) <;> simp

@[simp] theorem takeFirst_frame (s : State) :
    (takeFirst s).held = s.held ∧ (takeFirst s).params = s.params ∧ (takeFirst s).modem = s.modem ∧
    (takeFirst s).framer.sampler = s.framer.sampler ∧ (takeFirst s).framer.rxFifo = s.framer.rxFifo ∧
    (takeFirst s).framer.overrun = s.framer.overrun ∧ (takeFirst s).framer.brk = s.framer.brk ∧
    (takeFirst s).disp.route = s.disp.route ∧ (takeFirst s).disp.headExamined = s.disp.headExamined ∧
    (takeFirst s).disp.record = s.disp.record ∧ (takeFirst s).disp.flow = s.disp.flow ∧
    (takeFirst s).disp.remotePause = s.disp.remotePause ∧ (takeFirst s).disp.answerback = s.disp.answerback ∧
    (takeFirst s).kbd.keys = s.kbd.keys ∧ (takeFirst s).kbd.owed = s.kbd.owed ∧
    (takeFirst s).kbd.events = s.kbd.events ∧ (takeFirst s).kbd.headJudged = s.kbd.headJudged ∧
    (takeFirst s).kbd.plain = s.kbd.plain ∧ (takeFirst s).kbd.shift = s.kbd.shift ∧
    (takeFirst s).kbd.control = s.kbd.control ∧ (takeFirst s).kbd.downs = s.kbd.downs ∧
    (takeFirst s).kbd.caps = s.kbd.caps ∧ (takeFirst s).kbd.autoRepeat = s.kbd.autoRepeat ∧
    (takeFirst s).kbd.feedRepeats = s.kbd.feedRepeats ∧ (takeFirst s).kbd.mode = s.kbd.mode ∧
    (takeFirst s).kbd.lock = s.kbd.lock ∧ (takeFirst s).kbd.relay = s.kbd.relay ∧
    (takeFirst s).kbd.tones = s.kbd.tones ∧ (takeFirst s).comp = s.comp ∧ (takeFirst s).strobe = s.strobe ∧
    (takeFirst s).engine = s.engine ∧ (takeFirst s).head = s.head ∧ (takeFirst s).store.state = s.store.state ∧
    (takeFirst s).store.mountNext = s.store.mountNext ∧ (takeFirst s).store.formatNext = s.store.formatNext ∧
    (takeFirst s).store.free = s.store.free ∧ (takeFirst s).store.bad = s.store.bad ∧
    (takeFirst s).store.sectors = s.store.sectors ∧ (takeFirst s).store.inFlight = s.store.inFlight ∧
    (takeFirst s).store.jobs = s.store.jobs ∧ (takeFirst s).store.patrolPos = s.store.patrolPos ∧
    (takeFirst s).store.patrolTimer = s.store.patrolTimer ∧ (takeFirst s).store.patrolRead = s.store.patrolRead ∧
    (takeFirst s).store.linkRead = s.store.linkRead ∧ (takeFirst s).reprint = s.reprint ∧
    (takeFirst s).take = s.take ∧ (takeFirst s).compose = s.compose ∧ (takeFirst s).supply = s.supply ∧
    (takeFirst s).link = s.link ∧ (takeFirst s).faults = s.faults ∧ (takeFirst s).mem = s.mem ∧
    (takeFirst s).draws = s.draws ∧ (takeFirst s).pending = s.pending := by
  simp only [takeFirst]; (repeat' split) <;> simp

@[simp] theorem startTransmitter_frame (first : Nat) (s : State) :
    (startTransmitter first s).held = s.held ∧ (startTransmitter first s).params = s.params ∧
    (startTransmitter first s).modem = s.modem ∧ (startTransmitter first s).framer.sampler = s.framer.sampler ∧
    (startTransmitter first s).framer.rxFifo = s.framer.rxFifo ∧
    (startTransmitter first s).framer.overrun = s.framer.overrun ∧
    (startTransmitter first s).framer.brk = s.framer.brk ∧ (startTransmitter first s).disp.route = s.disp.route ∧
    (startTransmitter first s).disp.headExamined = s.disp.headExamined ∧
    (startTransmitter first s).disp.record = s.disp.record ∧ (startTransmitter first s).disp.flow = s.disp.flow ∧
    (startTransmitter first s).disp.remotePause = s.disp.remotePause ∧
    (startTransmitter first s).disp.answerback = s.disp.answerback ∧
    (startTransmitter first s).kbd.keys = s.kbd.keys ∧ (startTransmitter first s).kbd.owed = s.kbd.owed ∧
    (startTransmitter first s).kbd.events = s.kbd.events ∧
    (startTransmitter first s).kbd.headJudged = s.kbd.headJudged ∧
    (startTransmitter first s).kbd.plain = s.kbd.plain ∧ (startTransmitter first s).kbd.shift = s.kbd.shift ∧
    (startTransmitter first s).kbd.control = s.kbd.control ∧ (startTransmitter first s).kbd.downs = s.kbd.downs ∧
    (startTransmitter first s).kbd.caps = s.kbd.caps ∧ (startTransmitter first s).kbd.autoRepeat = s.kbd.autoRepeat ∧
    (startTransmitter first s).kbd.feedRepeats = s.kbd.feedRepeats ∧
    (startTransmitter first s).kbd.mode = s.kbd.mode ∧ (startTransmitter first s).kbd.lock = s.kbd.lock ∧
    (startTransmitter first s).kbd.relay = s.kbd.relay ∧ (startTransmitter first s).kbd.tones = s.kbd.tones ∧
    (startTransmitter first s).comp = s.comp ∧ (startTransmitter first s).strobe = s.strobe ∧
    (startTransmitter first s).engine = s.engine ∧ (startTransmitter first s).head = s.head ∧
    (startTransmitter first s).store.state = s.store.state ∧
    (startTransmitter first s).store.mountNext = s.store.mountNext ∧
    (startTransmitter first s).store.formatNext = s.store.formatNext ∧
    (startTransmitter first s).store.free = s.store.free ∧ (startTransmitter first s).store.bad = s.store.bad ∧
    (startTransmitter first s).store.sectors = s.store.sectors ∧
    (startTransmitter first s).store.inFlight = s.store.inFlight ∧
    (startTransmitter first s).store.jobs = s.store.jobs ∧
    (startTransmitter first s).store.patrolPos = s.store.patrolPos ∧
    (startTransmitter first s).store.patrolTimer = s.store.patrolTimer ∧
    (startTransmitter first s).store.patrolRead = s.store.patrolRead ∧
    (startTransmitter first s).store.linkRead = s.store.linkRead ∧ (startTransmitter first s).reprint = s.reprint ∧
    (startTransmitter first s).take = s.take ∧ (startTransmitter first s).compose = s.compose ∧
    (startTransmitter first s).supply = s.supply ∧ (startTransmitter first s).link = s.link ∧
    (startTransmitter first s).faults = s.faults ∧ (startTransmitter first s).mem = s.mem ∧
    (startTransmitter first s).draws = s.draws ∧ (startTransmitter first s).pending = s.pending := by
  simp only [startTransmitter]; (repeat' split) <;> simp

@[simp] theorem enterConnected_frame (s : State) :
    (enterConnected s).held = s.held ∧ (enterConnected s).params = s.params ∧
    (enterConnected s).disp.answerback = s.disp.answerback ∧ (enterConnected s).kbd.keys = s.kbd.keys ∧
    (enterConnected s).kbd.owed = s.kbd.owed ∧ (enterConnected s).kbd.events = s.kbd.events ∧
    (enterConnected s).kbd.headJudged = s.kbd.headJudged ∧ (enterConnected s).kbd.plain = s.kbd.plain ∧
    (enterConnected s).kbd.shift = s.kbd.shift ∧ (enterConnected s).kbd.control = s.kbd.control ∧
    (enterConnected s).kbd.downs = s.kbd.downs ∧ (enterConnected s).kbd.caps = s.kbd.caps ∧
    (enterConnected s).kbd.autoRepeat = s.kbd.autoRepeat ∧
    (enterConnected s).kbd.feedRepeats = s.kbd.feedRepeats ∧ (enterConnected s).kbd.mode = s.kbd.mode ∧
    (enterConnected s).kbd.lock = s.kbd.lock ∧ (enterConnected s).kbd.relay = s.kbd.relay ∧
    (enterConnected s).kbd.tones = s.kbd.tones ∧ (enterConnected s).comp = s.comp ∧
    (enterConnected s).strobe = s.strobe ∧ (enterConnected s).engine = s.engine ∧
    (enterConnected s).head = s.head ∧ (enterConnected s).store.state = s.store.state ∧
    (enterConnected s).store.mountNext = s.store.mountNext ∧
    (enterConnected s).store.formatNext = s.store.formatNext ∧
    (enterConnected s).store.free = s.store.free ∧ (enterConnected s).store.bad = s.store.bad ∧
    (enterConnected s).store.sectors = s.store.sectors ∧
    (enterConnected s).store.inFlight = s.store.inFlight ∧
    (enterConnected s).store.patrolPos = s.store.patrolPos ∧
    (enterConnected s).store.patrolTimer = s.store.patrolTimer ∧
    (enterConnected s).store.patrolRead = s.store.patrolRead ∧
    (enterConnected s).store.linkRead = s.store.linkRead ∧ (enterConnected s).reprint = s.reprint ∧
    (enterConnected s).compose = s.compose ∧ (enterConnected s).supply = s.supply ∧
    (enterConnected s).link = s.link ∧ (enterConnected s).faults = s.faults ∧
    (enterConnected s).mem = s.mem ∧ (enterConnected s).pending = s.pending := by
  simp [enterConnected]

@[simp] theorem repeatDue_frame (a : AutoRepeat) (s : State) :
    (repeatDue a s).held = s.held ∧ (repeatDue a s).params = s.params ∧ (repeatDue a s).modem = s.modem ∧
    (repeatDue a s).framer = s.framer ∧ (repeatDue a s).disp = s.disp ∧ (repeatDue a s).kbd.keys = s.kbd.keys ∧
    (repeatDue a s).kbd.owed = s.kbd.owed ∧ (repeatDue a s).kbd.headJudged = s.kbd.headJudged ∧
    (repeatDue a s).kbd.plain = s.kbd.plain ∧ (repeatDue a s).kbd.shift = s.kbd.shift ∧
    (repeatDue a s).kbd.control = s.kbd.control ∧ (repeatDue a s).kbd.downs = s.kbd.downs ∧
    (repeatDue a s).kbd.caps = s.kbd.caps ∧ (repeatDue a s).kbd.feedRepeats = s.kbd.feedRepeats ∧
    (repeatDue a s).kbd.mode = s.kbd.mode ∧ (repeatDue a s).kbd.lock = s.kbd.lock ∧
    (repeatDue a s).kbd.txFifo = s.kbd.txFifo ∧ (repeatDue a s).kbd.relay = s.kbd.relay ∧
    (repeatDue a s).kbd.tones = s.kbd.tones ∧ (repeatDue a s).comp = s.comp ∧ (repeatDue a s).strobe = s.strobe ∧
    (repeatDue a s).engine = s.engine ∧ (repeatDue a s).head = s.head ∧ (repeatDue a s).store = s.store ∧
    (repeatDue a s).send = s.send ∧ (repeatDue a s).reprint = s.reprint ∧ (repeatDue a s).take = s.take ∧
    (repeatDue a s).compose = s.compose ∧ (repeatDue a s).supply = s.supply ∧ (repeatDue a s).link = s.link ∧
    (repeatDue a s).reports = s.reports ∧ (repeatDue a s).faults = s.faults ∧ (repeatDue a s).mem = s.mem ∧
    (repeatDue a s).draws = s.draws ∧ (repeatDue a s).pending = s.pending := by
  simp only [repeatDue]; (repeat' split) <;> simp

@[simp] theorem feedDue_frame (p : Nat) (s : State) :
    (feedDue p s).held = s.held ∧ (feedDue p s).params = s.params ∧ (feedDue p s).modem = s.modem ∧
    (feedDue p s).framer = s.framer ∧ (feedDue p s).disp = s.disp ∧ (feedDue p s).kbd.keys = s.kbd.keys ∧
    (feedDue p s).kbd.owed = s.kbd.owed ∧ (feedDue p s).kbd.events = s.kbd.events ∧
    (feedDue p s).kbd.headJudged = s.kbd.headJudged ∧ (feedDue p s).kbd.plain = s.kbd.plain ∧
    (feedDue p s).kbd.shift = s.kbd.shift ∧ (feedDue p s).kbd.control = s.kbd.control ∧
    (feedDue p s).kbd.downs = s.kbd.downs ∧ (feedDue p s).kbd.caps = s.kbd.caps ∧
    (feedDue p s).kbd.autoRepeat = s.kbd.autoRepeat ∧ (feedDue p s).kbd.mode = s.kbd.mode ∧
    (feedDue p s).kbd.lock = s.kbd.lock ∧ (feedDue p s).kbd.txFifo = s.kbd.txFifo ∧
    (feedDue p s).kbd.relay = s.kbd.relay ∧ (feedDue p s).kbd.tones = s.kbd.tones ∧
    (feedDue p s).comp.queue = s.comp.queue ∧ (feedDue p s).comp.owner = s.comp.owner ∧
    (feedDue p s).comp.ownerTimer = s.comp.ownerTimer ∧ (feedDue p s).comp.linkPrint = s.comp.linkPrint ∧
    (feedDue p s).comp.column = s.comp.column ∧ (feedDue p s).comp.wrapPending = s.comp.wrapPending ∧
    (feedDue p s).comp.idleTimer = s.comp.idleTimer ∧ (feedDue p s).comp.flushDue = s.comp.flushDue ∧
    (feedDue p s).comp.keysEcho = s.comp.keysEcho ∧ (feedDue p s).strobe = s.strobe ∧
    (feedDue p s).engine = s.engine ∧ (feedDue p s).head = s.head ∧ (feedDue p s).store = s.store ∧
    (feedDue p s).send = s.send ∧ (feedDue p s).reprint = s.reprint ∧ (feedDue p s).take = s.take ∧
    (feedDue p s).compose = s.compose ∧ (feedDue p s).supply = s.supply ∧ (feedDue p s).link = s.link ∧
    (feedDue p s).reports = s.reports ∧ (feedDue p s).faults = s.faults ∧ (feedDue p s).mem = s.mem ∧
    (feedDue p s).draws = s.draws ∧ (feedDue p s).pending = s.pending := by
  simp only [feedDue]; (repeat' split) <;> simp

@[simp] theorem lineDeposit_frame (s : State) :
    (lineDeposit s).held = s.held ∧ (lineDeposit s).params = s.params ∧ (lineDeposit s).modem = s.modem ∧
    (lineDeposit s).framer.sampler = s.framer.sampler ∧ (lineDeposit s).framer.shift = s.framer.shift ∧
    (lineDeposit s).framer.holding = s.framer.holding ∧ (lineDeposit s).framer.brk = s.framer.brk ∧
    (lineDeposit s).framer.linkText = s.framer.linkText ∧ (lineDeposit s).disp.route = s.disp.route ∧
    (lineDeposit s).disp.remotePause = s.disp.remotePause ∧ (lineDeposit s).disp.answerback = s.disp.answerback ∧
    (lineDeposit s).disp.progress = s.disp.progress ∧ (lineDeposit s).kbd = s.kbd ∧
    (lineDeposit s).comp.linkPrint = s.comp.linkPrint ∧ (lineDeposit s).comp.output = s.comp.output ∧
    (lineDeposit s).comp.cells = s.comp.cells ∧ (lineDeposit s).comp.column = s.comp.column ∧
    (lineDeposit s).comp.wrapPending = s.comp.wrapPending ∧ (lineDeposit s).comp.lineSource = s.comp.lineSource ∧
    (lineDeposit s).comp.formCount = s.comp.formCount ∧ (lineDeposit s).comp.idleTimer = s.comp.idleTimer ∧
    (lineDeposit s).comp.flushDue = s.comp.flushDue ∧ (lineDeposit s).strobe = s.strobe ∧
    (lineDeposit s).engine = s.engine ∧ (lineDeposit s).head = s.head ∧ (lineDeposit s).store = s.store ∧
    (lineDeposit s).send = s.send ∧ (lineDeposit s).reprint = s.reprint ∧ (lineDeposit s).take = s.take ∧
    (lineDeposit s).compose = s.compose ∧ (lineDeposit s).supply = s.supply ∧ (lineDeposit s).link = s.link ∧
    (lineDeposit s).faults = s.faults ∧ (lineDeposit s).mem = s.mem ∧ (lineDeposit s).draws = s.draws ∧
    (lineDeposit s).pending = s.pending := by
  simp only [lineDeposit]; (repeat' split) <;> simp

@[simp] theorem linkDeposit_frame (s : State) :
    (linkDeposit s).held = s.held ∧ (linkDeposit s).params = s.params ∧ (linkDeposit s).modem = s.modem ∧
    (linkDeposit s).framer = s.framer ∧ (linkDeposit s).disp.route = s.disp.route ∧
    (linkDeposit s).disp.headExamined = s.disp.headExamined ∧ (linkDeposit s).disp.record = s.disp.record ∧
    (linkDeposit s).disp.remotePause = s.disp.remotePause ∧ (linkDeposit s).disp.answerback = s.disp.answerback ∧
    (linkDeposit s).disp.progress = s.disp.progress ∧ (linkDeposit s).kbd = s.kbd ∧
    (linkDeposit s).comp.output = s.comp.output ∧ (linkDeposit s).comp.cells = s.comp.cells ∧
    (linkDeposit s).comp.column = s.comp.column ∧ (linkDeposit s).comp.wrapPending = s.comp.wrapPending ∧
    (linkDeposit s).comp.lineSource = s.comp.lineSource ∧ (linkDeposit s).comp.formCount = s.comp.formCount ∧
    (linkDeposit s).comp.idleTimer = s.comp.idleTimer ∧ (linkDeposit s).comp.flushDue = s.comp.flushDue ∧
    (linkDeposit s).strobe = s.strobe ∧ (linkDeposit s).engine = s.engine ∧ (linkDeposit s).head = s.head ∧
    (linkDeposit s).store = s.store ∧ (linkDeposit s).send = s.send ∧ (linkDeposit s).reprint = s.reprint ∧
    (linkDeposit s).take = s.take ∧ (linkDeposit s).compose = s.compose ∧ (linkDeposit s).supply = s.supply ∧
    (linkDeposit s).link = s.link ∧ (linkDeposit s).reports = s.reports ∧ (linkDeposit s).faults = s.faults ∧
    (linkDeposit s).mem = s.mem ∧ (linkDeposit s).draws = s.draws ∧ (linkDeposit s).pending = s.pending := by
  simp only [linkDeposit]; (repeat' split) <;> simp

@[simp] theorem reprintDeposit_frame (s : State) :
    (reprintDeposit s).held = s.held ∧ (reprintDeposit s).params = s.params ∧ (reprintDeposit s).modem = s.modem ∧
    (reprintDeposit s).framer = s.framer ∧ (reprintDeposit s).disp.route = s.disp.route ∧
    (reprintDeposit s).disp.headExamined = s.disp.headExamined ∧ (reprintDeposit s).disp.record = s.disp.record ∧
    (reprintDeposit s).disp.remotePause = s.disp.remotePause ∧
    (reprintDeposit s).disp.answerback = s.disp.answerback ∧ (reprintDeposit s).disp.progress = s.disp.progress ∧
    (reprintDeposit s).kbd = s.kbd ∧ (reprintDeposit s).comp.linkPrint = s.comp.linkPrint ∧
    (reprintDeposit s).comp.output = s.comp.output ∧ (reprintDeposit s).comp.cells = s.comp.cells ∧
    (reprintDeposit s).comp.column = s.comp.column ∧ (reprintDeposit s).comp.wrapPending = s.comp.wrapPending ∧
    (reprintDeposit s).comp.lineSource = s.comp.lineSource ∧ (reprintDeposit s).comp.formCount = s.comp.formCount ∧
    (reprintDeposit s).comp.idleTimer = s.comp.idleTimer ∧ (reprintDeposit s).comp.flushDue = s.comp.flushDue ∧
    (reprintDeposit s).strobe = s.strobe ∧ (reprintDeposit s).engine = s.engine ∧ (reprintDeposit s).head = s.head ∧
    (reprintDeposit s).store = s.store ∧ (reprintDeposit s).send = s.send ∧ (reprintDeposit s).take = s.take ∧
    (reprintDeposit s).compose = s.compose ∧ (reprintDeposit s).supply = s.supply ∧ (reprintDeposit s).link = s.link ∧
    (reprintDeposit s).reports = s.reports ∧ (reprintDeposit s).faults = s.faults ∧ (reprintDeposit s).mem = s.mem ∧
    (reprintDeposit s).draws = s.draws ∧ (reprintDeposit s).pending = s.pending := by
  simp only [reprintDeposit]; (repeat' split) <;> simp

@[simp] theorem depositOf_frame (c : Claimant) (s : State) :
    (depositOf c s).held = s.held ∧ (depositOf c s).params = s.params ∧ (depositOf c s).modem = s.modem ∧
    (depositOf c s).framer.sampler = s.framer.sampler ∧ (depositOf c s).framer.shift = s.framer.shift ∧
    (depositOf c s).framer.holding = s.framer.holding ∧ (depositOf c s).framer.linkText = s.framer.linkText ∧
    (depositOf c s).disp.route = s.disp.route ∧ (depositOf c s).disp.remotePause = s.disp.remotePause ∧
    (depositOf c s).disp.answerback = s.disp.answerback ∧ (depositOf c s).disp.progress = s.disp.progress ∧
    (depositOf c s).kbd.plain = s.kbd.plain ∧ (depositOf c s).kbd.shift = s.kbd.shift ∧
    (depositOf c s).kbd.control = s.kbd.control ∧ (depositOf c s).kbd.mode = s.kbd.mode ∧
    (depositOf c s).kbd.lock = s.kbd.lock ∧ (depositOf c s).comp.column = s.comp.column ∧
    (depositOf c s).comp.wrapPending = s.comp.wrapPending ∧ (depositOf c s).comp.idleTimer = s.comp.idleTimer ∧
    (depositOf c s).comp.flushDue = s.comp.flushDue ∧ (depositOf c s).strobe = s.strobe ∧
    (depositOf c s).engine = s.engine ∧ (depositOf c s).head = s.head ∧ (depositOf c s).store = s.store ∧
    (depositOf c s).send = s.send ∧ (depositOf c s).take = s.take ∧ (depositOf c s).supply = s.supply ∧
    (depositOf c s).link = s.link ∧ (depositOf c s).faults = s.faults ∧ (depositOf c s).mem = s.mem ∧
    (depositOf c s).draws = s.draws ∧ (depositOf c s).pending = s.pending := by
  simp only [depositOf]; (repeat' split) <;> simp

@[simp] theorem offerNext_frame (c : Claimant) (s : State) :
    (offerNext c s).held = s.held ∧ (offerNext c s).params = s.params ∧ (offerNext c s).modem = s.modem ∧
    (offerNext c s).framer.sampler = s.framer.sampler ∧ (offerNext c s).framer.shift = s.framer.shift ∧
    (offerNext c s).framer.holding = s.framer.holding ∧ (offerNext c s).framer.brk = s.framer.brk ∧
    (offerNext c s).framer.linkText = s.framer.linkText ∧ (offerNext c s).disp.answerback = s.disp.answerback ∧
    (offerNext c s).kbd.keys = s.kbd.keys ∧ (offerNext c s).kbd.owed = s.kbd.owed ∧
    (offerNext c s).kbd.events = s.kbd.events ∧ (offerNext c s).kbd.plain = s.kbd.plain ∧
    (offerNext c s).kbd.shift = s.kbd.shift ∧ (offerNext c s).kbd.control = s.kbd.control ∧
    (offerNext c s).kbd.downs = s.kbd.downs ∧ (offerNext c s).kbd.caps = s.kbd.caps ∧
    (offerNext c s).kbd.autoRepeat = s.kbd.autoRepeat ∧ (offerNext c s).kbd.feedRepeats = s.kbd.feedRepeats ∧
    (offerNext c s).kbd.mode = s.kbd.mode ∧ (offerNext c s).kbd.lock = s.kbd.lock ∧
    (offerNext c s).kbd.txFifo = s.kbd.txFifo ∧ (offerNext c s).kbd.relay = s.kbd.relay ∧
    (offerNext c s).kbd.tones = s.kbd.tones ∧ (offerNext c s).comp.queue = s.comp.queue ∧
    (offerNext c s).comp.owner = s.comp.owner ∧ (offerNext c s).comp.ownerTimer = s.comp.ownerTimer ∧
    (offerNext c s).comp.linkPrint = s.comp.linkPrint ∧ (offerNext c s).comp.output = s.comp.output ∧
    (offerNext c s).comp.cells = s.comp.cells ∧ (offerNext c s).comp.column = s.comp.column ∧
    (offerNext c s).comp.wrapPending = s.comp.wrapPending ∧ (offerNext c s).comp.lineSource = s.comp.lineSource ∧
    (offerNext c s).comp.formCount = s.comp.formCount ∧ (offerNext c s).comp.idleTimer = s.comp.idleTimer ∧
    (offerNext c s).comp.flushDue = s.comp.flushDue ∧ (offerNext c s).strobe = s.strobe ∧
    (offerNext c s).engine = s.engine ∧ (offerNext c s).head = s.head ∧ (offerNext c s).store.state = s.store.state ∧
    (offerNext c s).store.mountNext = s.store.mountNext ∧ (offerNext c s).store.formatNext = s.store.formatNext ∧
    (offerNext c s).store.free = s.store.free ∧ (offerNext c s).store.bad = s.store.bad ∧
    (offerNext c s).store.sectors = s.store.sectors ∧ (offerNext c s).store.inFlight = s.store.inFlight ∧
    (offerNext c s).store.patrolPos = s.store.patrolPos ∧ (offerNext c s).store.patrolTimer = s.store.patrolTimer ∧
    (offerNext c s).store.patrolRead = s.store.patrolRead ∧ (offerNext c s).store.linkRead = s.store.linkRead ∧
    (offerNext c s).send = s.send ∧ (offerNext c s).reprint = s.reprint ∧ (offerNext c s).compose = s.compose ∧
    (offerNext c s).supply = s.supply ∧ (offerNext c s).link = s.link ∧ (offerNext c s).faults = s.faults ∧
    (offerNext c s).mem = s.mem ∧ (offerNext c s).draws = s.draws ∧ (offerNext c s).pending = s.pending := by
  simp only [offerNext]; (repeat' split) <;> simp

@[simp] theorem afterDeposit_frame (nextFirst : Bool) (c : Claimant) (s : State) :
    (afterDeposit nextFirst c s).held = s.held ∧ (afterDeposit nextFirst c s).params = s.params ∧
    (afterDeposit nextFirst c s).modem = s.modem ∧ (afterDeposit nextFirst c s).framer.sampler = s.framer.sampler ∧
    (afterDeposit nextFirst c s).framer.shift = s.framer.shift ∧
    (afterDeposit nextFirst c s).framer.holding = s.framer.holding ∧
    (afterDeposit nextFirst c s).framer.brk = s.framer.brk ∧
    (afterDeposit nextFirst c s).framer.linkText = s.framer.linkText ∧
    (afterDeposit nextFirst c s).disp.answerback = s.disp.answerback ∧
    (afterDeposit nextFirst c s).kbd.keys = s.kbd.keys ∧ (afterDeposit nextFirst c s).kbd.owed = s.kbd.owed ∧
    (afterDeposit nextFirst c s).kbd.events = s.kbd.events ∧ (afterDeposit nextFirst c s).kbd.plain = s.kbd.plain ∧
    (afterDeposit nextFirst c s).kbd.shift = s.kbd.shift ∧ (afterDeposit nextFirst c s).kbd.control = s.kbd.control ∧
    (afterDeposit nextFirst c s).kbd.downs = s.kbd.downs ∧ (afterDeposit nextFirst c s).kbd.caps = s.kbd.caps ∧
    (afterDeposit nextFirst c s).kbd.autoRepeat = s.kbd.autoRepeat ∧
    (afterDeposit nextFirst c s).kbd.feedRepeats = s.kbd.feedRepeats ∧
    (afterDeposit nextFirst c s).kbd.mode = s.kbd.mode ∧ (afterDeposit nextFirst c s).kbd.lock = s.kbd.lock ∧
    (afterDeposit nextFirst c s).kbd.txFifo = s.kbd.txFifo ∧ (afterDeposit nextFirst c s).kbd.relay = s.kbd.relay ∧
    (afterDeposit nextFirst c s).kbd.tones = s.kbd.tones ∧ (afterDeposit nextFirst c s).comp.queue = s.comp.queue ∧
    (afterDeposit nextFirst c s).comp.linkPrint = s.comp.linkPrint ∧
    (afterDeposit nextFirst c s).comp.output = s.comp.output ∧
    (afterDeposit nextFirst c s).comp.cells = s.comp.cells ∧
    (afterDeposit nextFirst c s).comp.column = s.comp.column ∧
    (afterDeposit nextFirst c s).comp.wrapPending = s.comp.wrapPending ∧
    (afterDeposit nextFirst c s).comp.lineSource = s.comp.lineSource ∧
    (afterDeposit nextFirst c s).comp.formCount = s.comp.formCount ∧
    (afterDeposit nextFirst c s).comp.idleTimer = s.comp.idleTimer ∧
    (afterDeposit nextFirst c s).comp.flushDue = s.comp.flushDue ∧ (afterDeposit nextFirst c s).strobe = s.strobe ∧
    (afterDeposit nextFirst c s).engine = s.engine ∧ (afterDeposit nextFirst c s).head = s.head ∧
    (afterDeposit nextFirst c s).store.state = s.store.state ∧
    (afterDeposit nextFirst c s).store.mountNext = s.store.mountNext ∧
    (afterDeposit nextFirst c s).store.formatNext = s.store.formatNext ∧
    (afterDeposit nextFirst c s).store.free = s.store.free ∧ (afterDeposit nextFirst c s).store.bad = s.store.bad ∧
    (afterDeposit nextFirst c s).store.sectors = s.store.sectors ∧
    (afterDeposit nextFirst c s).store.inFlight = s.store.inFlight ∧
    (afterDeposit nextFirst c s).store.patrolPos = s.store.patrolPos ∧
    (afterDeposit nextFirst c s).store.patrolTimer = s.store.patrolTimer ∧
    (afterDeposit nextFirst c s).store.patrolRead = s.store.patrolRead ∧
    (afterDeposit nextFirst c s).store.linkRead = s.store.linkRead ∧ (afterDeposit nextFirst c s).send = s.send ∧
    (afterDeposit nextFirst c s).reprint = s.reprint ∧ (afterDeposit nextFirst c s).compose = s.compose ∧
    (afterDeposit nextFirst c s).supply = s.supply ∧ (afterDeposit nextFirst c s).link = s.link ∧
    (afterDeposit nextFirst c s).faults = s.faults ∧ (afterDeposit nextFirst c s).mem = s.mem ∧
    (afterDeposit nextFirst c s).draws = s.draws ∧ (afterDeposit nextFirst c s).pending = s.pending := by
  simp only [afterDeposit]; (repeat' split) <;> simp

@[simp] theorem breakLine_frame (e : PrintEntry) (s : State) :
    (breakLine e s).held = s.held ∧ (breakLine e s).params = s.params ∧ (breakLine e s).modem = s.modem ∧
    (breakLine e s).framer = s.framer ∧ (breakLine e s).disp = s.disp ∧ (breakLine e s).kbd = s.kbd ∧
    (breakLine e s).comp.queue = s.comp.queue ∧ (breakLine e s).comp.owner = s.comp.owner ∧
    (breakLine e s).comp.ownerTimer = s.comp.ownerTimer ∧ (breakLine e s).comp.linkPrint = s.comp.linkPrint ∧
    (breakLine e s).comp.idleTimer = s.comp.idleTimer ∧ (breakLine e s).comp.flushDue = s.comp.flushDue ∧
    (breakLine e s).comp.keysEcho = s.comp.keysEcho ∧ (breakLine e s).strobe = s.strobe ∧
    (breakLine e s).engine = s.engine ∧ (breakLine e s).head = s.head ∧ (breakLine e s).store = s.store ∧
    (breakLine e s).send = s.send ∧ (breakLine e s).reprint = s.reprint ∧ (breakLine e s).take = s.take ∧
    (breakLine e s).compose = s.compose ∧ (breakLine e s).supply = s.supply ∧ (breakLine e s).link = s.link ∧
    (breakLine e s).reports = s.reports ∧ (breakLine e s).faults = s.faults ∧ (breakLine e s).mem = s.mem ∧
    (breakLine e s).draws = s.draws ∧ (breakLine e s).pending = s.pending := by
  simp only [breakLine]; (repeat' split) <;> simp

@[simp] theorem printEntry_frame (e : PrintEntry) (s : State) :
    (printEntry e s).held = s.held ∧ (printEntry e s).params = s.params ∧ (printEntry e s).modem = s.modem ∧
    (printEntry e s).framer = s.framer ∧ (printEntry e s).disp = s.disp ∧ (printEntry e s).kbd = s.kbd ∧
    (printEntry e s).comp.queue = s.comp.queue ∧ (printEntry e s).comp.owner = s.comp.owner ∧
    (printEntry e s).comp.ownerTimer = s.comp.ownerTimer ∧ (printEntry e s).comp.linkPrint = s.comp.linkPrint ∧
    (printEntry e s).comp.idleTimer = s.comp.idleTimer ∧ (printEntry e s).comp.flushDue = s.comp.flushDue ∧
    (printEntry e s).comp.keysEcho = s.comp.keysEcho ∧ (printEntry e s).strobe = s.strobe ∧
    (printEntry e s).engine = s.engine ∧ (printEntry e s).head = s.head ∧ (printEntry e s).store = s.store ∧
    (printEntry e s).send = s.send ∧ (printEntry e s).reprint = s.reprint ∧ (printEntry e s).take = s.take ∧
    (printEntry e s).compose = s.compose ∧ (printEntry e s).supply = s.supply ∧ (printEntry e s).link = s.link ∧
    (printEntry e s).reports = s.reports ∧ (printEntry e s).faults = s.faults ∧ (printEntry e s).mem = s.mem ∧
    (printEntry e s).draws = s.draws ∧ (printEntry e s).pending = s.pending := by
  simp only [printEntry]; (repeat' split) <;> simp

@[simp] theorem lineFeed_frame (s : State) :
    (lineFeed s).held = s.held ∧ (lineFeed s).params = s.params ∧ (lineFeed s).modem = s.modem ∧
    (lineFeed s).framer = s.framer ∧ (lineFeed s).disp = s.disp ∧ (lineFeed s).kbd = s.kbd ∧
    (lineFeed s).comp.queue = s.comp.queue ∧ (lineFeed s).comp.owner = s.comp.owner ∧
    (lineFeed s).comp.ownerTimer = s.comp.ownerTimer ∧ (lineFeed s).comp.linkPrint = s.comp.linkPrint ∧
    (lineFeed s).comp.column = s.comp.column ∧ (lineFeed s).comp.idleTimer = s.comp.idleTimer ∧
    (lineFeed s).comp.flushDue = s.comp.flushDue ∧ (lineFeed s).comp.keysEcho = s.comp.keysEcho ∧
    (lineFeed s).strobe = s.strobe ∧ (lineFeed s).engine = s.engine ∧ (lineFeed s).head = s.head ∧
    (lineFeed s).store = s.store ∧ (lineFeed s).send = s.send ∧ (lineFeed s).reprint = s.reprint ∧
    (lineFeed s).take = s.take ∧ (lineFeed s).compose = s.compose ∧ (lineFeed s).supply = s.supply ∧
    (lineFeed s).link = s.link ∧ (lineFeed s).reports = s.reports ∧ (lineFeed s).faults = s.faults ∧
    (lineFeed s).mem = s.mem ∧ (lineFeed s).draws = s.draws ∧ (lineFeed s).pending = s.pending := by
  simp [lineFeed]

@[simp] theorem formFeed_frame (s : State) :
    (formFeed s).held = s.held ∧ (formFeed s).params = s.params ∧ (formFeed s).modem = s.modem ∧
    (formFeed s).framer = s.framer ∧ (formFeed s).disp = s.disp ∧ (formFeed s).kbd = s.kbd ∧
    (formFeed s).comp.queue = s.comp.queue ∧ (formFeed s).comp.owner = s.comp.owner ∧
    (formFeed s).comp.ownerTimer = s.comp.ownerTimer ∧ (formFeed s).comp.linkPrint = s.comp.linkPrint ∧
    (formFeed s).comp.column = s.comp.column ∧ (formFeed s).comp.idleTimer = s.comp.idleTimer ∧
    (formFeed s).comp.flushDue = s.comp.flushDue ∧ (formFeed s).comp.keysEcho = s.comp.keysEcho ∧
    (formFeed s).strobe = s.strobe ∧ (formFeed s).engine = s.engine ∧ (formFeed s).head = s.head ∧
    (formFeed s).store = s.store ∧ (formFeed s).send = s.send ∧ (formFeed s).reprint = s.reprint ∧
    (formFeed s).take = s.take ∧ (formFeed s).compose = s.compose ∧ (formFeed s).supply = s.supply ∧
    (formFeed s).link = s.link ∧ (formFeed s).reports = s.reports ∧ (formFeed s).faults = s.faults ∧
    (formFeed s).mem = s.mem ∧ (formFeed s).draws = s.draws ∧ (formFeed s).pending = s.pending := by
  simp only [formFeed]; (repeat' split) <;> simp

@[simp] theorem carriageReturn_frame (s : State) :
    (carriageReturn s).held = s.held ∧ (carriageReturn s).params = s.params ∧ (carriageReturn s).modem = s.modem ∧
    (carriageReturn s).framer = s.framer ∧ (carriageReturn s).disp = s.disp ∧ (carriageReturn s).kbd = s.kbd ∧
    (carriageReturn s).comp.queue = s.comp.queue ∧ (carriageReturn s).comp.owner = s.comp.owner ∧
    (carriageReturn s).comp.ownerTimer = s.comp.ownerTimer ∧ (carriageReturn s).comp.linkPrint = s.comp.linkPrint ∧
    (carriageReturn s).comp.idleTimer = s.comp.idleTimer ∧ (carriageReturn s).comp.flushDue = s.comp.flushDue ∧
    (carriageReturn s).comp.keysEcho = s.comp.keysEcho ∧ (carriageReturn s).strobe = s.strobe ∧
    (carriageReturn s).engine = s.engine ∧ (carriageReturn s).head = s.head ∧ (carriageReturn s).store = s.store ∧
    (carriageReturn s).send = s.send ∧ (carriageReturn s).reprint = s.reprint ∧ (carriageReturn s).take = s.take ∧
    (carriageReturn s).compose = s.compose ∧ (carriageReturn s).supply = s.supply ∧ (carriageReturn s).link = s.link ∧
    (carriageReturn s).reports = s.reports ∧ (carriageReturn s).faults = s.faults ∧ (carriageReturn s).mem = s.mem ∧
    (carriageReturn s).draws = s.draws ∧ (carriageReturn s).pending = s.pending := by
  simp only [carriageReturn]; (repeat' split) <;> simp

@[simp] theorem backspace_frame (s : State) :
    (backspace s).held = s.held ∧ (backspace s).params = s.params ∧ (backspace s).modem = s.modem ∧
    (backspace s).framer = s.framer ∧ (backspace s).disp = s.disp ∧ (backspace s).kbd = s.kbd ∧
    (backspace s).comp.queue = s.comp.queue ∧ (backspace s).comp.owner = s.comp.owner ∧
    (backspace s).comp.ownerTimer = s.comp.ownerTimer ∧ (backspace s).comp.linkPrint = s.comp.linkPrint ∧
    (backspace s).comp.output = s.comp.output ∧ (backspace s).comp.cells = s.comp.cells ∧
    (backspace s).comp.lineSource = s.comp.lineSource ∧ (backspace s).comp.formCount = s.comp.formCount ∧
    (backspace s).comp.idleTimer = s.comp.idleTimer ∧ (backspace s).comp.flushDue = s.comp.flushDue ∧
    (backspace s).comp.keysEcho = s.comp.keysEcho ∧ (backspace s).strobe = s.strobe ∧
    (backspace s).engine = s.engine ∧ (backspace s).head = s.head ∧ (backspace s).store = s.store ∧
    (backspace s).send = s.send ∧ (backspace s).reprint = s.reprint ∧ (backspace s).take = s.take ∧
    (backspace s).compose = s.compose ∧ (backspace s).supply = s.supply ∧ (backspace s).link = s.link ∧
    (backspace s).reports = s.reports ∧ (backspace s).faults = s.faults ∧ (backspace s).mem = s.mem ∧
    (backspace s).draws = s.draws ∧ (backspace s).pending = s.pending := by
  simp only [backspace]; (repeat' split) <;> simp

@[simp] theorem tabulate_frame (s : State) :
    (tabulate s).held = s.held ∧ (tabulate s).params = s.params ∧ (tabulate s).modem = s.modem ∧
    (tabulate s).framer = s.framer ∧ (tabulate s).disp = s.disp ∧ (tabulate s).kbd = s.kbd ∧
    (tabulate s).comp.queue = s.comp.queue ∧ (tabulate s).comp.owner = s.comp.owner ∧
    (tabulate s).comp.ownerTimer = s.comp.ownerTimer ∧ (tabulate s).comp.linkPrint = s.comp.linkPrint ∧
    (tabulate s).comp.output = s.comp.output ∧ (tabulate s).comp.cells = s.comp.cells ∧
    (tabulate s).comp.wrapPending = s.comp.wrapPending ∧ (tabulate s).comp.lineSource = s.comp.lineSource ∧
    (tabulate s).comp.formCount = s.comp.formCount ∧ (tabulate s).comp.idleTimer = s.comp.idleTimer ∧
    (tabulate s).comp.flushDue = s.comp.flushDue ∧ (tabulate s).comp.keysEcho = s.comp.keysEcho ∧
    (tabulate s).strobe = s.strobe ∧ (tabulate s).engine = s.engine ∧ (tabulate s).head = s.head ∧
    (tabulate s).store = s.store ∧ (tabulate s).send = s.send ∧ (tabulate s).reprint = s.reprint ∧
    (tabulate s).take = s.take ∧ (tabulate s).compose = s.compose ∧ (tabulate s).supply = s.supply ∧
    (tabulate s).link = s.link ∧ (tabulate s).reports = s.reports ∧ (tabulate s).faults = s.faults ∧
    (tabulate s).mem = s.mem ∧ (tabulate s).draws = s.draws ∧ (tabulate s).pending = s.pending := by
  simp only [tabulate]; (repeat' split) <;> simp

@[simp] theorem handleEntry_frame (e : PrintEntry) (s : State) :
    (handleEntry e s).held = s.held ∧ (handleEntry e s).params = s.params ∧ (handleEntry e s).modem = s.modem ∧
    (handleEntry e s).framer = s.framer ∧ (handleEntry e s).disp = s.disp ∧ (handleEntry e s).kbd.keys = s.kbd.keys ∧
    (handleEntry e s).kbd.owed = s.kbd.owed ∧ (handleEntry e s).kbd.events = s.kbd.events ∧
    (handleEntry e s).kbd.headJudged = s.kbd.headJudged ∧ (handleEntry e s).kbd.plain = s.kbd.plain ∧
    (handleEntry e s).kbd.shift = s.kbd.shift ∧ (handleEntry e s).kbd.control = s.kbd.control ∧
    (handleEntry e s).kbd.downs = s.kbd.downs ∧ (handleEntry e s).kbd.caps = s.kbd.caps ∧
    (handleEntry e s).kbd.autoRepeat = s.kbd.autoRepeat ∧ (handleEntry e s).kbd.feedRepeats = s.kbd.feedRepeats ∧
    (handleEntry e s).kbd.mode = s.kbd.mode ∧ (handleEntry e s).kbd.lock = s.kbd.lock ∧
    (handleEntry e s).kbd.txFifo = s.kbd.txFifo ∧ (handleEntry e s).kbd.relay = s.kbd.relay ∧
    (handleEntry e s).comp.queue = s.comp.queue ∧ (handleEntry e s).comp.owner = s.comp.owner ∧
    (handleEntry e s).comp.ownerTimer = s.comp.ownerTimer ∧ (handleEntry e s).comp.linkPrint = s.comp.linkPrint ∧
    (handleEntry e s).comp.idleTimer = s.comp.idleTimer ∧ (handleEntry e s).comp.flushDue = s.comp.flushDue ∧
    (handleEntry e s).comp.keysEcho = s.comp.keysEcho ∧ (handleEntry e s).strobe = s.strobe ∧
    (handleEntry e s).engine = s.engine ∧ (handleEntry e s).head = s.head ∧ (handleEntry e s).store = s.store ∧
    (handleEntry e s).send = s.send ∧ (handleEntry e s).reprint = s.reprint ∧ (handleEntry e s).take = s.take ∧
    (handleEntry e s).compose = s.compose ∧ (handleEntry e s).supply = s.supply ∧ (handleEntry e s).link = s.link ∧
    (handleEntry e s).reports = s.reports ∧ (handleEntry e s).faults = s.faults ∧ (handleEntry e s).mem = s.mem ∧
    (handleEntry e s).draws = s.draws ∧ (handleEntry e s).pending = s.pending := by
  simp only [handleEntry]; (repeat' split) <;> simp

@[simp] theorem takeEntry_frame (e : PrintEntry) (s : State) :
    (takeEntry e s).held = s.held ∧ (takeEntry e s).params = s.params ∧ (takeEntry e s).modem = s.modem ∧
    (takeEntry e s).framer = s.framer ∧ (takeEntry e s).disp.route = s.disp.route ∧
    (takeEntry e s).disp.headExamined = s.disp.headExamined ∧ (takeEntry e s).disp.record = s.disp.record ∧
    (takeEntry e s).disp.remotePause = s.disp.remotePause ∧ (takeEntry e s).disp.answerback = s.disp.answerback ∧
    (takeEntry e s).disp.progress = s.disp.progress ∧ (takeEntry e s).kbd.keys = s.kbd.keys ∧
    (takeEntry e s).kbd.owed = s.kbd.owed ∧ (takeEntry e s).kbd.events = s.kbd.events ∧
    (takeEntry e s).kbd.headJudged = s.kbd.headJudged ∧ (takeEntry e s).kbd.plain = s.kbd.plain ∧
    (takeEntry e s).kbd.shift = s.kbd.shift ∧ (takeEntry e s).kbd.control = s.kbd.control ∧
    (takeEntry e s).kbd.downs = s.kbd.downs ∧ (takeEntry e s).kbd.caps = s.kbd.caps ∧
    (takeEntry e s).kbd.autoRepeat = s.kbd.autoRepeat ∧ (takeEntry e s).kbd.feedRepeats = s.kbd.feedRepeats ∧
    (takeEntry e s).kbd.mode = s.kbd.mode ∧ (takeEntry e s).kbd.lock = s.kbd.lock ∧
    (takeEntry e s).kbd.txFifo = s.kbd.txFifo ∧ (takeEntry e s).kbd.relay = s.kbd.relay ∧
    (takeEntry e s).comp.owner = s.comp.owner ∧ (takeEntry e s).comp.ownerTimer = s.comp.ownerTimer ∧
    (takeEntry e s).comp.linkPrint = s.comp.linkPrint ∧ (takeEntry e s).comp.idleTimer = s.comp.idleTimer ∧
    (takeEntry e s).comp.flushDue = s.comp.flushDue ∧ (takeEntry e s).comp.keysEcho = s.comp.keysEcho ∧
    (takeEntry e s).strobe = s.strobe ∧ (takeEntry e s).engine = s.engine ∧ (takeEntry e s).head = s.head ∧
    (takeEntry e s).store = s.store ∧ (takeEntry e s).send = s.send ∧ (takeEntry e s).reprint = s.reprint ∧
    (takeEntry e s).take = s.take ∧ (takeEntry e s).compose = s.compose ∧ (takeEntry e s).supply = s.supply ∧
    (takeEntry e s).link = s.link ∧ (takeEntry e s).reports = s.reports ∧ (takeEntry e s).faults = s.faults ∧
    (takeEntry e s).mem = s.mem ∧ (takeEntry e s).draws = s.draws ∧ (takeEntry e s).pending = s.pending := by
  simp [takeEntry]

@[simp] theorem flush_frame (s : State) :
    (flush s).held = s.held ∧ (flush s).params = s.params ∧ (flush s).modem = s.modem ∧ (flush s).framer = s.framer ∧
    (flush s).disp = s.disp ∧ (flush s).kbd = s.kbd ∧ (flush s).comp.queue = s.comp.queue ∧
    (flush s).comp.owner = s.comp.owner ∧ (flush s).comp.ownerTimer = s.comp.ownerTimer ∧
    (flush s).comp.linkPrint = s.comp.linkPrint ∧ (flush s).comp.column = s.comp.column ∧
    (flush s).comp.wrapPending = s.comp.wrapPending ∧ (flush s).comp.keysEcho = s.comp.keysEcho ∧
    (flush s).strobe = s.strobe ∧ (flush s).engine = s.engine ∧ (flush s).head = s.head ∧ (flush s).store = s.store ∧
    (flush s).send = s.send ∧ (flush s).reprint = s.reprint ∧ (flush s).take = s.take ∧
    (flush s).compose = s.compose ∧ (flush s).supply = s.supply ∧ (flush s).link = s.link ∧
    (flush s).reports = s.reports ∧ (flush s).faults = s.faults ∧ (flush s).mem = s.mem ∧ (flush s).draws = s.draws ∧
    (flush s).pending = s.pending := by
  simp only [flush]; (repeat' split) <;> simp

end Sys2Proof.Machine
end

