-- ==== Sys2Proof/Laws/FrameRest.lean ====
section
/-! SUPPORT. What each shared operation leaves as it was: the Engine, the Head check, the Store controller, the parameters, the link and the Supply monitor.
Each lemma names every field, or part of a field, that the operation does not touch. -/

namespace Sys2Proof.Machine

@[simp] theorem dueFlush_frame (s : State) :
    (dueFlush s).held = s.held ∧ (dueFlush s).params = s.params ∧ (dueFlush s).modem = s.modem ∧
    (dueFlush s).framer = s.framer ∧ (dueFlush s).disp = s.disp ∧ (dueFlush s).kbd = s.kbd ∧
    (dueFlush s).comp.queue = s.comp.queue ∧ (dueFlush s).comp.owner = s.comp.owner ∧
    (dueFlush s).comp.ownerTimer = s.comp.ownerTimer ∧ (dueFlush s).comp.linkPrint = s.comp.linkPrint ∧
    (dueFlush s).comp.column = s.comp.column ∧ (dueFlush s).comp.wrapPending = s.comp.wrapPending ∧
    (dueFlush s).comp.idleTimer = s.comp.idleTimer ∧ (dueFlush s).comp.keysEcho = s.comp.keysEcho ∧
    (dueFlush s).strobe = s.strobe ∧ (dueFlush s).engine = s.engine ∧ (dueFlush s).head = s.head ∧
    (dueFlush s).store = s.store ∧ (dueFlush s).send = s.send ∧ (dueFlush s).reprint = s.reprint ∧
    (dueFlush s).take = s.take ∧ (dueFlush s).compose = s.compose ∧ (dueFlush s).supply = s.supply ∧
    (dueFlush s).link = s.link ∧ (dueFlush s).reports = s.reports ∧ (dueFlush s).faults = s.faults ∧
    (dueFlush s).mem = s.mem ∧ (dueFlush s).draws = s.draws ∧ (dueFlush s).pending = s.pending := by
  simp only [dueFlush]; (repeat' split) <;> simp

@[simp] theorem advancePosition_frame (s : State) :
    (advancePosition s).held = s.held ∧ (advancePosition s).params = s.params ∧ (advancePosition s).modem = s.modem ∧
    (advancePosition s).framer = s.framer ∧ (advancePosition s).disp = s.disp ∧ (advancePosition s).kbd = s.kbd ∧
    (advancePosition s).comp.queue = s.comp.queue ∧ (advancePosition s).comp.owner = s.comp.owner ∧
    (advancePosition s).comp.ownerTimer = s.comp.ownerTimer ∧ (advancePosition s).comp.linkPrint = s.comp.linkPrint ∧
    (advancePosition s).comp.column = s.comp.column ∧ (advancePosition s).comp.wrapPending = s.comp.wrapPending ∧
    (advancePosition s).comp.idleTimer = s.comp.idleTimer ∧ (advancePosition s).comp.keysEcho = s.comp.keysEcho ∧
    (advancePosition s).strobe = s.strobe ∧ (advancePosition s).engine.state = s.engine.state ∧
    (advancePosition s).engine.inFlight = s.engine.inFlight ∧
    (advancePosition s).engine.paperCond = s.engine.paperCond ∧
    (advancePosition s).engine.powerCond = s.engine.powerCond ∧
    (advancePosition s).engine.hotCond = s.engine.hotCond ∧ (advancePosition s).engine.haltDue = s.engine.haltDue ∧
    (advancePosition s).engine.hotTimer = s.engine.hotTimer ∧
    (advancePosition s).engine.paperTimer = s.engine.paperTimer ∧
    (advancePosition s).engine.thermFault = s.engine.thermFault ∧ (advancePosition s).engine.paper = s.engine.paper ∧
    (advancePosition s).engine.halfSteps = s.engine.halfSteps ∧ (advancePosition s).head = s.head ∧
    (advancePosition s).store = s.store ∧ (advancePosition s).send = s.send ∧
    (advancePosition s).reprint = s.reprint ∧ (advancePosition s).take = s.take ∧
    (advancePosition s).compose = s.compose ∧ (advancePosition s).supply = s.supply ∧
    (advancePosition s).link = s.link ∧ (advancePosition s).reports = s.reports ∧
    (advancePosition s).faults = s.faults ∧ (advancePosition s).mem = s.mem ∧ (advancePosition s).draws = s.draws ∧
    (advancePosition s).pending = s.pending := by
  simp only [advancePosition]; (repeat' split) <;> simp

@[simp] theorem completeLine_frame (v : Nat) (s : State) :
    (completeLine v s).pending = s.pending := by
  simp only [completeLine]; (repeat' split) <;> simp

@[simp] theorem engineHolds_frame (evs : List PrintEvent) (s : State) :
    (engineHolds evs s).held = s.held ∧ (engineHolds evs s).params = s.params ∧ (engineHolds evs s).modem = s.modem ∧
    (engineHolds evs s).framer = s.framer ∧ (engineHolds evs s).disp = s.disp ∧ (engineHolds evs s).kbd = s.kbd ∧
    (engineHolds evs s).comp = s.comp ∧ (engineHolds evs s).engine.position = s.engine.position ∧
    (engineHolds evs s).engine.inFlight = s.engine.inFlight ∧
    (engineHolds evs s).engine.paperCond = s.engine.paperCond ∧
    (engineHolds evs s).engine.powerCond = s.engine.powerCond ∧
    (engineHolds evs s).engine.hotCond = s.engine.hotCond ∧ (engineHolds evs s).engine.haltDue = s.engine.haltDue ∧
    (engineHolds evs s).engine.hotTimer = s.engine.hotTimer ∧
    (engineHolds evs s).engine.paperTimer = s.engine.paperTimer ∧
    (engineHolds evs s).engine.thermFault = s.engine.thermFault ∧ (engineHolds evs s).engine.paper = s.engine.paper ∧
    (engineHolds evs s).engine.halfSteps = s.engine.halfSteps ∧ (engineHolds evs s).store = s.store ∧
    (engineHolds evs s).send = s.send ∧ (engineHolds evs s).reprint = s.reprint ∧ (engineHolds evs s).take = s.take ∧
    (engineHolds evs s).compose = s.compose ∧ (engineHolds evs s).supply = s.supply ∧
    (engineHolds evs s).link = s.link ∧ (engineHolds evs s).faults = s.faults ∧ (engineHolds evs s).mem = s.mem ∧
    (engineHolds evs s).draws = s.draws ∧ (engineHolds evs s).pending = s.pending := by
  simp only [engineHolds]; (repeat' split) <;> simp

@[simp] theorem paperReading_frame (present : Bool) (s : State) :
    (paperReading present s).held = s.held ∧ (paperReading present s).params = s.params ∧
    (paperReading present s).modem = s.modem ∧ (paperReading present s).framer = s.framer ∧
    (paperReading present s).disp = s.disp ∧ (paperReading present s).kbd = s.kbd ∧
    (paperReading present s).comp = s.comp ∧ (paperReading present s).store = s.store ∧
    (paperReading present s).send = s.send ∧ (paperReading present s).reprint = s.reprint ∧
    (paperReading present s).take = s.take ∧ (paperReading present s).compose = s.compose ∧
    (paperReading present s).supply = s.supply ∧ (paperReading present s).link = s.link ∧
    (paperReading present s).faults = s.faults ∧ (paperReading present s).mem = s.mem ∧
    (paperReading present s).draws = s.draws ∧ (paperReading present s).pending = s.pending := by
  simp only [paperReading]; (repeat' split) <;> simp

@[simp] theorem paperRestored_frame (v : Nat) (readings : Coincident) (s : State) :
    (paperRestored v readings s).pending = s.pending := by
  simp [paperRestored]

@[simp] theorem hotHalt_frame (s : State) :
    (hotHalt s).held = s.held ∧ (hotHalt s).params = s.params ∧ (hotHalt s).modem = s.modem ∧
    (hotHalt s).framer = s.framer ∧ (hotHalt s).disp = s.disp ∧ (hotHalt s).kbd = s.kbd ∧ (hotHalt s).comp = s.comp ∧
    (hotHalt s).engine.position = s.engine.position ∧ (hotHalt s).engine.inFlight = s.engine.inFlight ∧
    (hotHalt s).engine.paperCond = s.engine.paperCond ∧ (hotHalt s).engine.powerCond = s.engine.powerCond ∧
    (hotHalt s).engine.hotCond = s.engine.hotCond ∧ (hotHalt s).engine.paperTimer = s.engine.paperTimer ∧
    (hotHalt s).engine.thermFault = s.engine.thermFault ∧ (hotHalt s).engine.paper = s.engine.paper ∧
    (hotHalt s).engine.halfSteps = s.engine.halfSteps ∧ (hotHalt s).store = s.store ∧ (hotHalt s).send = s.send ∧
    (hotHalt s).reprint = s.reprint ∧ (hotHalt s).take = s.take ∧ (hotHalt s).compose = s.compose ∧
    (hotHalt s).supply = s.supply ∧ (hotHalt s).link = s.link ∧ (hotHalt s).mem = s.mem ∧
    (hotHalt s).draws = s.draws ∧ (hotHalt s).pending = s.pending := by
  simp [hotHalt]

@[simp] theorem beginMeasurement_frame (s : State) :
    (beginMeasurement s).held = s.held ∧ (beginMeasurement s).params = s.params ∧
    (beginMeasurement s).modem = s.modem ∧ (beginMeasurement s).framer = s.framer ∧
    (beginMeasurement s).disp = s.disp ∧ (beginMeasurement s).kbd = s.kbd ∧ (beginMeasurement s).comp = s.comp ∧
    (beginMeasurement s).strobe = s.strobe ∧ (beginMeasurement s).engine = s.engine ∧
    (beginMeasurement s).head.index = s.head.index ∧ (beginMeasurement s).head.passes = s.head.passes ∧
    (beginMeasurement s).head.records = s.head.records ∧ (beginMeasurement s).head.last = s.head.last ∧
    (beginMeasurement s).store = s.store ∧ (beginMeasurement s).send = s.send ∧
    (beginMeasurement s).reprint = s.reprint ∧ (beginMeasurement s).take = s.take ∧
    (beginMeasurement s).compose = s.compose ∧ (beginMeasurement s).supply = s.supply ∧
    (beginMeasurement s).link = s.link ∧ (beginMeasurement s).reports = s.reports ∧
    (beginMeasurement s).faults = s.faults ∧ (beginMeasurement s).mem = s.mem ∧ (beginMeasurement s).draws = s.draws ∧
    (beginMeasurement s).pending = s.pending := by
  simp [beginMeasurement]

@[simp] theorem setRecord_frame (b : Nat) (r : HeadRecord) (s : State) :
    (setRecord b r s).held = s.held ∧ (setRecord b r s).params = s.params ∧ (setRecord b r s).modem = s.modem ∧
    (setRecord b r s).framer = s.framer ∧ (setRecord b r s).disp = s.disp ∧ (setRecord b r s).kbd = s.kbd ∧
    (setRecord b r s).comp = s.comp ∧ (setRecord b r s).strobe = s.strobe ∧ (setRecord b r s).engine = s.engine ∧
    (setRecord b r s).head.index = s.head.index ∧ (setRecord b r s).head.timer = s.head.timer ∧
    (setRecord b r s).head.measuring = s.head.measuring ∧ (setRecord b r s).head.passes = s.head.passes ∧
    (setRecord b r s).head.last = s.head.last ∧ (setRecord b r s).store = s.store ∧ (setRecord b r s).send = s.send ∧
    (setRecord b r s).reprint = s.reprint ∧ (setRecord b r s).take = s.take ∧ (setRecord b r s).compose = s.compose ∧
    (setRecord b r s).supply = s.supply ∧ (setRecord b r s).link = s.link ∧ (setRecord b r s).reports = s.reports ∧
    (setRecord b r s).faults = s.faults ∧ (setRecord b r s).mem = s.mem ∧ (setRecord b r s).draws = s.draws ∧
    (setRecord b r s).pending = s.pending := by
  simp [setRecord]

@[simp] theorem atThreshold_frame (e b : Nat) (r : HeadRecord) (s : State) :
    (atThreshold e b r s).held = s.held ∧ (atThreshold e b r s).params = s.params ∧
    (atThreshold e b r s).modem = s.modem ∧ (atThreshold e b r s).framer = s.framer ∧
    (atThreshold e b r s).disp = s.disp ∧ (atThreshold e b r s).kbd = s.kbd ∧ (atThreshold e b r s).comp = s.comp ∧
    (atThreshold e b r s).strobe = s.strobe ∧ (atThreshold e b r s).engine = s.engine ∧
    (atThreshold e b r s).head.index = s.head.index ∧ (atThreshold e b r s).head.timer = s.head.timer ∧
    (atThreshold e b r s).head.measuring = s.head.measuring ∧ (atThreshold e b r s).head.passes = s.head.passes ∧
    (atThreshold e b r s).head.last = s.head.last ∧ (atThreshold e b r s).store = s.store ∧
    (atThreshold e b r s).send = s.send ∧ (atThreshold e b r s).reprint = s.reprint ∧
    (atThreshold e b r s).take = s.take ∧ (atThreshold e b r s).compose = s.compose ∧
    (atThreshold e b r s).supply = s.supply ∧ (atThreshold e b r s).link = s.link ∧
    (atThreshold e b r s).mem = s.mem ∧ (atThreshold e b r s).draws = s.draws ∧
    (atThreshold e b r s).pending = s.pending := by
  simp only [atThreshold]; (repeat' split) <;> simp

@[simp] theorem failReading_frame (e : Nat) (s : State) :
    (failReading e s).held = s.held ∧ (failReading e s).params = s.params ∧ (failReading e s).modem = s.modem ∧
    (failReading e s).framer = s.framer ∧ (failReading e s).disp = s.disp ∧ (failReading e s).kbd = s.kbd ∧
    (failReading e s).comp = s.comp ∧ (failReading e s).strobe = s.strobe ∧ (failReading e s).engine = s.engine ∧
    (failReading e s).head.index = s.head.index ∧ (failReading e s).head.timer = s.head.timer ∧
    (failReading e s).head.measuring = s.head.measuring ∧ (failReading e s).head.passes = s.head.passes ∧
    (failReading e s).head.last = s.head.last ∧ (failReading e s).store = s.store ∧ (failReading e s).send = s.send ∧
    (failReading e s).reprint = s.reprint ∧ (failReading e s).take = s.take ∧ (failReading e s).compose = s.compose ∧
    (failReading e s).supply = s.supply ∧ (failReading e s).link = s.link ∧ (failReading e s).mem = s.mem ∧
    (failReading e s).draws = s.draws ∧ (failReading e s).pending = s.pending := by
  simp only [failReading]; (repeat' split) <;> simp

@[simp] theorem advancePatrol_frame (s : State) :
    (advancePatrol s).held = s.held ∧ (advancePatrol s).params = s.params ∧ (advancePatrol s).modem = s.modem ∧
    (advancePatrol s).framer = s.framer ∧ (advancePatrol s).disp = s.disp ∧ (advancePatrol s).kbd = s.kbd ∧
    (advancePatrol s).comp = s.comp ∧ (advancePatrol s).strobe = s.strobe ∧ (advancePatrol s).engine = s.engine ∧
    (advancePatrol s).head.timer = s.head.timer ∧ (advancePatrol s).head.measuring = s.head.measuring ∧
    (advancePatrol s).head.last = s.head.last ∧ (advancePatrol s).store = s.store ∧ (advancePatrol s).send = s.send ∧
    (advancePatrol s).reprint = s.reprint ∧ (advancePatrol s).take = s.take ∧ (advancePatrol s).compose = s.compose ∧
    (advancePatrol s).supply = s.supply ∧ (advancePatrol s).link = s.link ∧ (advancePatrol s).reports = s.reports ∧
    (advancePatrol s).faults = s.faults ∧ (advancePatrol s).mem = s.mem ∧ (advancePatrol s).draws = s.draws ∧
    (advancePatrol s).pending = s.pending := by
  simp only [advancePatrol]; (repeat' split) <;> simp

@[simp] theorem completeMeasurement_frame (milliohms : Nat) (s : State) :
    (completeMeasurement milliohms s).held = s.held ∧ (completeMeasurement milliohms s).params = s.params ∧
    (completeMeasurement milliohms s).modem = s.modem ∧ (completeMeasurement milliohms s).framer = s.framer ∧
    (completeMeasurement milliohms s).disp = s.disp ∧ (completeMeasurement milliohms s).kbd = s.kbd ∧
    (completeMeasurement milliohms s).comp = s.comp ∧ (completeMeasurement milliohms s).strobe = s.strobe ∧
    (completeMeasurement milliohms s).engine = s.engine ∧
    (completeMeasurement milliohms s).head.timer = s.head.timer ∧ (completeMeasurement milliohms s).store = s.store ∧
    (completeMeasurement milliohms s).send = s.send ∧ (completeMeasurement milliohms s).reprint = s.reprint ∧
    (completeMeasurement milliohms s).take = s.take ∧ (completeMeasurement milliohms s).compose = s.compose ∧
    (completeMeasurement milliohms s).supply = s.supply ∧ (completeMeasurement milliohms s).link = s.link ∧
    (completeMeasurement milliohms s).mem = s.mem ∧ (completeMeasurement milliohms s).draws = s.draws ∧
    (completeMeasurement milliohms s).pending = s.pending := by
  simp only [completeMeasurement]; (repeat' split) <;> simp

@[simp] theorem lookAgain_frame (s : State) :
    (lookAgain s).held = s.held ∧ (lookAgain s).params = s.params ∧ (lookAgain s).modem = s.modem ∧
    (lookAgain s).framer = s.framer ∧ (lookAgain s).disp = s.disp ∧ (lookAgain s).kbd = s.kbd ∧
    (lookAgain s).comp = s.comp ∧ (lookAgain s).strobe = s.strobe ∧ (lookAgain s).engine = s.engine ∧
    (lookAgain s).head = s.head ∧ (lookAgain s).store.state = s.store.state ∧
    (lookAgain s).store.mountNext = s.store.mountNext ∧ (lookAgain s).store.formatNext = s.store.formatNext ∧
    (lookAgain s).store.dir = s.store.dir ∧ (lookAgain s).store.free = s.store.free ∧
    (lookAgain s).store.bad = s.store.bad ∧ (lookAgain s).store.sectors = s.store.sectors ∧
    (lookAgain s).store.jobs = s.store.jobs ∧ (lookAgain s).store.patrolPos = s.store.patrolPos ∧
    (lookAgain s).store.patrolTimer = s.store.patrolTimer ∧ (lookAgain s).store.patrolRead = s.store.patrolRead ∧
    (lookAgain s).store.linkRead = s.store.linkRead ∧ (lookAgain s).send = s.send ∧
    (lookAgain s).reprint = s.reprint ∧ (lookAgain s).take = s.take ∧ (lookAgain s).compose = s.compose ∧
    (lookAgain s).supply = s.supply ∧ (lookAgain s).link = s.link ∧ (lookAgain s).reports = s.reports ∧
    (lookAgain s).faults = s.faults ∧ (lookAgain s).mem = s.mem ∧ (lookAgain s).draws = s.draws ∧
    (lookAgain s).pending = s.pending := by
  simp [lookAgain]

@[simp] theorem statusRead_frame (answered : Bool) (s : State) :
    (statusRead answered s).held = s.held ∧ (statusRead answered s).params = s.params ∧
    (statusRead answered s).modem = s.modem ∧ (statusRead answered s).framer = s.framer ∧
    (statusRead answered s).disp = s.disp ∧ (statusRead answered s).kbd = s.kbd ∧
    (statusRead answered s).comp = s.comp ∧ (statusRead answered s).strobe = s.strobe ∧
    (statusRead answered s).engine = s.engine ∧ (statusRead answered s).head = s.head ∧
    (statusRead answered s).store.formatNext = s.store.formatNext ∧ (statusRead answered s).store.dir = s.store.dir ∧
    (statusRead answered s).store.free = s.store.free ∧ (statusRead answered s).store.bad = s.store.bad ∧
    (statusRead answered s).store.sectors = s.store.sectors ∧ (statusRead answered s).store.jobs = s.store.jobs ∧
    (statusRead answered s).store.patrolPos = s.store.patrolPos ∧
    (statusRead answered s).store.patrolTimer = s.store.patrolTimer ∧
    (statusRead answered s).store.patrolRead = s.store.patrolRead ∧
    (statusRead answered s).store.linkRead = s.store.linkRead ∧ (statusRead answered s).send = s.send ∧
    (statusRead answered s).reprint = s.reprint ∧ (statusRead answered s).take = s.take ∧
    (statusRead answered s).compose = s.compose ∧ (statusRead answered s).supply = s.supply ∧
    (statusRead answered s).link = s.link ∧ (statusRead answered s).mem = s.mem ∧
    (statusRead answered s).draws = s.draws ∧ (statusRead answered s).pending = s.pending := by
  simp only [statusRead]; (repeat' split) <;> simp

@[simp] theorem readOutcome_frame (data : ReadData) (s : State) :
    (readOutcome data s).held = s.held ∧ (readOutcome data s).params = s.params ∧
    (readOutcome data s).modem = s.modem ∧ (readOutcome data s).framer = s.framer ∧
    (readOutcome data s).disp = s.disp ∧ (readOutcome data s).kbd = s.kbd ∧ (readOutcome data s).comp = s.comp ∧
    (readOutcome data s).strobe = s.strobe ∧ (readOutcome data s).engine = s.engine ∧
    (readOutcome data s).head = s.head ∧ (readOutcome data s).store.formatNext = s.store.formatNext ∧
    (readOutcome data s).store.bad = s.store.bad ∧ (readOutcome data s).store.jobs = s.store.jobs ∧
    (readOutcome data s).store.patrolPos = s.store.patrolPos ∧ (readOutcome data s).take = s.take ∧
    (readOutcome data s).supply = s.supply ∧ (readOutcome data s).link.rx = s.link.rx ∧
    (readOutcome data s).link.gapTimer = s.link.gapTimer ∧ (readOutcome data s).link.reject = s.link.reject ∧
    (readOutcome data s).link.sending = s.link.sending ∧ (readOutcome data s).faults = s.faults ∧
    (readOutcome data s).mem = s.mem ∧ (readOutcome data s).draws = s.draws ∧
    (readOutcome data s).pending = s.pending := by
  simp only [readOutcome]; (repeat' split) <;> simp

@[simp] theorem mismatch_frame (s : State) :
    (mismatch s).held = s.held ∧ (mismatch s).params = s.params ∧ (mismatch s).modem = s.modem ∧
    (mismatch s).framer = s.framer ∧ (mismatch s).disp = s.disp ∧ (mismatch s).kbd = s.kbd ∧
    (mismatch s).comp = s.comp ∧ (mismatch s).strobe = s.strobe ∧ (mismatch s).engine = s.engine ∧
    (mismatch s).head = s.head ∧ (mismatch s).store.state = s.store.state ∧
    (mismatch s).store.mountNext = s.store.mountNext ∧ (mismatch s).store.formatNext = s.store.formatNext ∧
    (mismatch s).store.dir = s.store.dir ∧ (mismatch s).store.free = s.store.free ∧
    (mismatch s).store.bad = s.store.bad ∧ (mismatch s).store.jobs = s.store.jobs ∧
    (mismatch s).store.patrolPos = s.store.patrolPos ∧ (mismatch s).store.patrolTimer = s.store.patrolTimer ∧
    (mismatch s).store.patrolRead = s.store.patrolRead ∧ (mismatch s).store.linkRead = s.store.linkRead ∧
    (mismatch s).send = s.send ∧ (mismatch s).reprint = s.reprint ∧ (mismatch s).take = s.take ∧
    (mismatch s).compose = s.compose ∧ (mismatch s).supply = s.supply ∧ (mismatch s).link = s.link ∧
    (mismatch s).reports = s.reports ∧ (mismatch s).faults = s.faults ∧ (mismatch s).mem = s.mem ∧
    (mismatch s).draws = s.draws ∧ (mismatch s).pending = s.pending := by
  simp only [mismatch]; (repeat' split) <;> simp

@[simp] theorem attemptDone_frame (f : InFlight) (s : State) :
    (attemptDone f s).held = s.held ∧ (attemptDone f s).params = s.params ∧ (attemptDone f s).modem = s.modem ∧
    (attemptDone f s).framer = s.framer ∧ (attemptDone f s).disp = s.disp ∧ (attemptDone f s).kbd = s.kbd ∧
    (attemptDone f s).comp = s.comp ∧ (attemptDone f s).strobe = s.strobe ∧ (attemptDone f s).engine = s.engine ∧
    (attemptDone f s).head = s.head ∧ (attemptDone f s).store.bad = s.store.bad ∧
    (attemptDone f s).store.sectors = s.store.sectors ∧ (attemptDone f s).store.jobs = s.store.jobs ∧
    (attemptDone f s).store.patrolPos = s.store.patrolPos ∧ (attemptDone f s).store.patrolRead = s.store.patrolRead ∧
    (attemptDone f s).store.linkRead = s.store.linkRead ∧ (attemptDone f s).send = s.send ∧
    (attemptDone f s).reprint = s.reprint ∧ (attemptDone f s).supply = s.supply ∧ (attemptDone f s).link = s.link ∧
    (attemptDone f s).draws = s.draws ∧ (attemptDone f s).pending = s.pending := by
  simp only [attemptDone]; (repeat' split) <;> simp

@[simp] theorem attemptLost_frame (f : InFlight) (s : State) :
    (attemptLost f s).held = s.held ∧ (attemptLost f s).params = s.params ∧ (attemptLost f s).modem = s.modem ∧
    (attemptLost f s).framer.sampler = s.framer.sampler ∧ (attemptLost f s).framer.shift = s.framer.shift ∧
    (attemptLost f s).framer.holding = s.framer.holding ∧ (attemptLost f s).framer.brk = s.framer.brk ∧
    (attemptLost f s).framer.linkText = s.framer.linkText ∧ (attemptLost f s).disp.remotePause = s.disp.remotePause ∧
    (attemptLost f s).disp.answerback = s.disp.answerback ∧ (attemptLost f s).disp.progress = s.disp.progress ∧
    (attemptLost f s).kbd = s.kbd ∧ (attemptLost f s).comp = s.comp ∧ (attemptLost f s).strobe = s.strobe ∧
    (attemptLost f s).engine = s.engine ∧ (attemptLost f s).head = s.head ∧
    (attemptLost f s).store.sectors = s.store.sectors ∧ (attemptLost f s).store.patrolPos = s.store.patrolPos ∧
    (attemptLost f s).store.patrolRead = s.store.patrolRead ∧ (attemptLost f s).store.linkRead = s.store.linkRead ∧
    (attemptLost f s).send = s.send ∧ (attemptLost f s).reprint = s.reprint ∧ (attemptLost f s).supply = s.supply ∧
    (attemptLost f s).link = s.link ∧ (attemptLost f s).pending = s.pending := by
  simp only [attemptLost]; (repeat' split) <;> simp

@[simp] theorem writeOutcome_frame (matched : Bool) (s : State) :
    (writeOutcome matched s).held = s.held ∧ (writeOutcome matched s).params = s.params ∧
    (writeOutcome matched s).modem = s.modem ∧ (writeOutcome matched s).framer.sampler = s.framer.sampler ∧
    (writeOutcome matched s).framer.shift = s.framer.shift ∧
    (writeOutcome matched s).framer.holding = s.framer.holding ∧ (writeOutcome matched s).framer.brk = s.framer.brk ∧
    (writeOutcome matched s).framer.linkText = s.framer.linkText ∧
    (writeOutcome matched s).disp.remotePause = s.disp.remotePause ∧
    (writeOutcome matched s).disp.answerback = s.disp.answerback ∧
    (writeOutcome matched s).disp.progress = s.disp.progress ∧ (writeOutcome matched s).kbd = s.kbd ∧
    (writeOutcome matched s).comp = s.comp ∧ (writeOutcome matched s).strobe = s.strobe ∧
    (writeOutcome matched s).engine = s.engine ∧ (writeOutcome matched s).head = s.head ∧
    (writeOutcome matched s).store.patrolPos = s.store.patrolPos ∧
    (writeOutcome matched s).store.patrolRead = s.store.patrolRead ∧
    (writeOutcome matched s).store.linkRead = s.store.linkRead ∧ (writeOutcome matched s).send = s.send ∧
    (writeOutcome matched s).reprint = s.reprint ∧ (writeOutcome matched s).supply = s.supply ∧
    (writeOutcome matched s).link = s.link ∧ (writeOutcome matched s).pending = s.pending := by
  simp only [writeOutcome]; (repeat' split) <;> simp

@[simp] theorem askPatrol_frame (b : Nat) (s : State) :
    (askPatrol b s).held = s.held ∧ (askPatrol b s).params = s.params ∧ (askPatrol b s).modem = s.modem ∧
    (askPatrol b s).framer = s.framer ∧ (askPatrol b s).disp = s.disp ∧ (askPatrol b s).kbd = s.kbd ∧
    (askPatrol b s).comp = s.comp ∧ (askPatrol b s).strobe = s.strobe ∧ (askPatrol b s).engine = s.engine ∧
    (askPatrol b s).head = s.head ∧ (askPatrol b s).store.state = s.store.state ∧
    (askPatrol b s).store.mountNext = s.store.mountNext ∧ (askPatrol b s).store.formatNext = s.store.formatNext ∧
    (askPatrol b s).store.dir = s.store.dir ∧ (askPatrol b s).store.free = s.store.free ∧
    (askPatrol b s).store.bad = s.store.bad ∧ (askPatrol b s).store.sectors = s.store.sectors ∧
    (askPatrol b s).store.inFlight = s.store.inFlight ∧ (askPatrol b s).store.jobs = s.store.jobs ∧
    (askPatrol b s).store.patrolTimer = s.store.patrolTimer ∧ (askPatrol b s).store.linkRead = s.store.linkRead ∧
    (askPatrol b s).send = s.send ∧ (askPatrol b s).reprint = s.reprint ∧ (askPatrol b s).take = s.take ∧
    (askPatrol b s).compose = s.compose ∧ (askPatrol b s).supply = s.supply ∧ (askPatrol b s).link = s.link ∧
    (askPatrol b s).reports = s.reports ∧ (askPatrol b s).faults = s.faults ∧ (askPatrol b s).mem = s.mem ∧
    (askPatrol b s).draws = s.draws ∧ (askPatrol b s).pending = s.pending := by
  simp [askPatrol]

@[simp] theorem endStorePass_frame (s : State) :
    (endStorePass s).held = s.held ∧ (endStorePass s).params = s.params ∧ (endStorePass s).modem = s.modem ∧
    (endStorePass s).framer = s.framer ∧ (endStorePass s).disp = s.disp ∧ (endStorePass s).kbd = s.kbd ∧
    (endStorePass s).comp = s.comp ∧ (endStorePass s).strobe = s.strobe ∧ (endStorePass s).engine = s.engine ∧
    (endStorePass s).head = s.head ∧ (endStorePass s).store.state = s.store.state ∧
    (endStorePass s).store.mountNext = s.store.mountNext ∧ (endStorePass s).store.formatNext = s.store.formatNext ∧
    (endStorePass s).store.dir = s.store.dir ∧ (endStorePass s).store.free = s.store.free ∧
    (endStorePass s).store.bad = s.store.bad ∧ (endStorePass s).store.inFlight = s.store.inFlight ∧
    (endStorePass s).store.jobs = s.store.jobs ∧ (endStorePass s).store.patrolPos = s.store.patrolPos ∧
    (endStorePass s).store.patrolTimer = s.store.patrolTimer ∧
    (endStorePass s).store.patrolRead = s.store.patrolRead ∧ (endStorePass s).store.linkRead = s.store.linkRead ∧
    (endStorePass s).send = s.send ∧ (endStorePass s).reprint = s.reprint ∧ (endStorePass s).take = s.take ∧
    (endStorePass s).compose = s.compose ∧ (endStorePass s).supply = s.supply ∧ (endStorePass s).link = s.link ∧
    (endStorePass s).reports = s.reports ∧ (endStorePass s).faults = s.faults ∧ (endStorePass s).mem = s.mem ∧
    (endStorePass s).draws = s.draws ∧ (endStorePass s).pending = s.pending := by
  simp [endStorePass]

@[simp] theorem patrolFrom_frame (owned : List Nat) (s : State) :
    (patrolFrom owned s).held = s.held ∧ (patrolFrom owned s).params = s.params ∧
    (patrolFrom owned s).modem = s.modem ∧ (patrolFrom owned s).framer = s.framer ∧
    (patrolFrom owned s).disp = s.disp ∧ (patrolFrom owned s).kbd = s.kbd ∧ (patrolFrom owned s).comp = s.comp ∧
    (patrolFrom owned s).strobe = s.strobe ∧ (patrolFrom owned s).engine = s.engine ∧
    (patrolFrom owned s).head = s.head ∧ (patrolFrom owned s).store.state = s.store.state ∧
    (patrolFrom owned s).store.mountNext = s.store.mountNext ∧
    (patrolFrom owned s).store.formatNext = s.store.formatNext ∧ (patrolFrom owned s).store.dir = s.store.dir ∧
    (patrolFrom owned s).store.free = s.store.free ∧ (patrolFrom owned s).store.bad = s.store.bad ∧
    (patrolFrom owned s).store.inFlight = s.store.inFlight ∧ (patrolFrom owned s).store.jobs = s.store.jobs ∧
    (patrolFrom owned s).store.patrolTimer = s.store.patrolTimer ∧
    (patrolFrom owned s).store.linkRead = s.store.linkRead ∧ (patrolFrom owned s).send = s.send ∧
    (patrolFrom owned s).reprint = s.reprint ∧ (patrolFrom owned s).take = s.take ∧
    (patrolFrom owned s).compose = s.compose ∧ (patrolFrom owned s).supply = s.supply ∧
    (patrolFrom owned s).link = s.link ∧ (patrolFrom owned s).reports = s.reports ∧
    (patrolFrom owned s).faults = s.faults ∧ (patrolFrom owned s).mem = s.mem ∧ (patrolFrom owned s).draws = s.draws ∧
    (patrolFrom owned s).pending = s.pending := by
  simp only [patrolFrom]; (repeat' split) <;> simp

@[simp] theorem choosePatrol_frame (s : State) :
    (choosePatrol s).held = s.held ∧ (choosePatrol s).params = s.params ∧ (choosePatrol s).modem = s.modem ∧
    (choosePatrol s).framer = s.framer ∧ (choosePatrol s).disp = s.disp ∧ (choosePatrol s).kbd = s.kbd ∧
    (choosePatrol s).comp = s.comp ∧ (choosePatrol s).strobe = s.strobe ∧ (choosePatrol s).engine = s.engine ∧
    (choosePatrol s).head = s.head ∧ (choosePatrol s).store.state = s.store.state ∧
    (choosePatrol s).store.mountNext = s.store.mountNext ∧ (choosePatrol s).store.formatNext = s.store.formatNext ∧
    (choosePatrol s).store.dir = s.store.dir ∧ (choosePatrol s).store.free = s.store.free ∧
    (choosePatrol s).store.bad = s.store.bad ∧ (choosePatrol s).store.inFlight = s.store.inFlight ∧
    (choosePatrol s).store.jobs = s.store.jobs ∧ (choosePatrol s).store.patrolTimer = s.store.patrolTimer ∧
    (choosePatrol s).store.linkRead = s.store.linkRead ∧ (choosePatrol s).send = s.send ∧
    (choosePatrol s).reprint = s.reprint ∧ (choosePatrol s).take = s.take ∧ (choosePatrol s).compose = s.compose ∧
    (choosePatrol s).supply = s.supply ∧ (choosePatrol s).link = s.link ∧ (choosePatrol s).reports = s.reports ∧
    (choosePatrol s).faults = s.faults ∧ (choosePatrol s).mem = s.mem ∧ (choosePatrol s).draws = s.draws ∧
    (choosePatrol s).pending = s.pending := by
  simp [choosePatrol]

@[simp] theorem patrolDue_frame (s : State) :
    (patrolDue s).held = s.held ∧ (patrolDue s).params = s.params ∧ (patrolDue s).modem = s.modem ∧
    (patrolDue s).framer = s.framer ∧ (patrolDue s).disp = s.disp ∧ (patrolDue s).kbd = s.kbd ∧
    (patrolDue s).comp = s.comp ∧ (patrolDue s).strobe = s.strobe ∧ (patrolDue s).engine = s.engine ∧
    (patrolDue s).head = s.head ∧ (patrolDue s).store.state = s.store.state ∧
    (patrolDue s).store.mountNext = s.store.mountNext ∧ (patrolDue s).store.formatNext = s.store.formatNext ∧
    (patrolDue s).store.dir = s.store.dir ∧ (patrolDue s).store.free = s.store.free ∧
    (patrolDue s).store.bad = s.store.bad ∧ (patrolDue s).store.inFlight = s.store.inFlight ∧
    (patrolDue s).store.jobs = s.store.jobs ∧ (patrolDue s).store.linkRead = s.store.linkRead ∧
    (patrolDue s).send = s.send ∧ (patrolDue s).reprint = s.reprint ∧ (patrolDue s).take = s.take ∧
    (patrolDue s).compose = s.compose ∧ (patrolDue s).supply = s.supply ∧ (patrolDue s).link = s.link ∧
    (patrolDue s).reports = s.reports ∧ (patrolDue s).faults = s.faults ∧ (patrolDue s).mem = s.mem ∧
    (patrolDue s).draws = s.draws ∧ (patrolDue s).pending = s.pending := by
  simp only [patrolDue]; (repeat' split) <;> simp

@[simp] theorem beginFormat_frame (s : State) :
    (beginFormat s).held = s.held ∧ (beginFormat s).params = s.params ∧ (beginFormat s).modem = s.modem ∧
    (beginFormat s).framer = s.framer ∧ (beginFormat s).disp = s.disp ∧ (beginFormat s).kbd = s.kbd ∧
    (beginFormat s).comp = s.comp ∧ (beginFormat s).strobe = s.strobe ∧ (beginFormat s).engine = s.engine ∧
    (beginFormat s).head = s.head ∧ (beginFormat s).store.mountNext = s.store.mountNext ∧
    (beginFormat s).store.bad = s.store.bad ∧ (beginFormat s).store.sectors = s.store.sectors ∧
    (beginFormat s).store.inFlight = s.store.inFlight ∧ (beginFormat s).store.jobs = s.store.jobs ∧
    (beginFormat s).store.patrolPos = s.store.patrolPos ∧ (beginFormat s).store.linkRead = s.store.linkRead ∧
    (beginFormat s).send = s.send ∧ (beginFormat s).reprint = s.reprint ∧ (beginFormat s).take = s.take ∧
    (beginFormat s).compose = s.compose ∧ (beginFormat s).supply = s.supply ∧ (beginFormat s).link = s.link ∧
    (beginFormat s).reports = s.reports ∧ (beginFormat s).faults = s.faults ∧ (beginFormat s).mem = s.mem ∧
    (beginFormat s).draws = s.draws ∧ (beginFormat s).pending = s.pending := by
  simp [beginFormat]

@[simp] theorem askLinkRead_frame (r : Request) (index : Nat) (s : State) :
    (askLinkRead r index s).held = s.held ∧ (askLinkRead r index s).params = s.params ∧
    (askLinkRead r index s).modem = s.modem ∧ (askLinkRead r index s).framer = s.framer ∧
    (askLinkRead r index s).disp = s.disp ∧ (askLinkRead r index s).kbd = s.kbd ∧
    (askLinkRead r index s).comp = s.comp ∧ (askLinkRead r index s).strobe = s.strobe ∧
    (askLinkRead r index s).engine = s.engine ∧ (askLinkRead r index s).head = s.head ∧
    (askLinkRead r index s).store.state = s.store.state ∧
    (askLinkRead r index s).store.mountNext = s.store.mountNext ∧
    (askLinkRead r index s).store.formatNext = s.store.formatNext ∧ (askLinkRead r index s).store.dir = s.store.dir ∧
    (askLinkRead r index s).store.free = s.store.free ∧ (askLinkRead r index s).store.bad = s.store.bad ∧
    (askLinkRead r index s).store.sectors = s.store.sectors ∧
    (askLinkRead r index s).store.inFlight = s.store.inFlight ∧ (askLinkRead r index s).store.jobs = s.store.jobs ∧
    (askLinkRead r index s).store.patrolPos = s.store.patrolPos ∧
    (askLinkRead r index s).store.patrolTimer = s.store.patrolTimer ∧
    (askLinkRead r index s).store.patrolRead = s.store.patrolRead ∧ (askLinkRead r index s).send = s.send ∧
    (askLinkRead r index s).reprint = s.reprint ∧ (askLinkRead r index s).take = s.take ∧
    (askLinkRead r index s).compose = s.compose ∧ (askLinkRead r index s).supply = s.supply ∧
    (askLinkRead r index s).link.rx = s.link.rx ∧ (askLinkRead r index s).link.gapTimer = s.link.gapTimer ∧
    (askLinkRead r index s).link.reject = s.link.reject ∧ (askLinkRead r index s).link.sending = s.link.sending ∧
    (askLinkRead r index s).reports = s.reports ∧ (askLinkRead r index s).faults = s.faults ∧
    (askLinkRead r index s).mem = s.mem ∧ (askLinkRead r index s).draws = s.draws ∧
    (askLinkRead r index s).pending = s.pending := by
  simp only [askLinkRead]; (repeat' split) <;> simp

@[simp] theorem composeNew_frame (n : Nat) (s : State) :
    (composeNew n s).held = s.held ∧ (composeNew n s).params = s.params ∧ (composeNew n s).modem = s.modem ∧
    (composeNew n s).framer = s.framer ∧ (composeNew n s).disp = s.disp ∧ (composeNew n s).kbd = s.kbd ∧
    (composeNew n s).comp = s.comp ∧ (composeNew n s).strobe = s.strobe ∧ (composeNew n s).engine = s.engine ∧
    (composeNew n s).head = s.head ∧ (composeNew n s).store.state = s.store.state ∧
    (composeNew n s).store.mountNext = s.store.mountNext ∧ (composeNew n s).store.formatNext = s.store.formatNext ∧
    (composeNew n s).store.free = s.store.free ∧ (composeNew n s).store.bad = s.store.bad ∧
    (composeNew n s).store.sectors = s.store.sectors ∧ (composeNew n s).store.inFlight = s.store.inFlight ∧
    (composeNew n s).store.jobs = s.store.jobs ∧ (composeNew n s).store.patrolPos = s.store.patrolPos ∧
    (composeNew n s).store.patrolTimer = s.store.patrolTimer ∧
    (composeNew n s).store.patrolRead = s.store.patrolRead ∧ (composeNew n s).store.linkRead = s.store.linkRead ∧
    (composeNew n s).send = s.send ∧ (composeNew n s).reprint = s.reprint ∧ (composeNew n s).take = s.take ∧
    (composeNew n s).supply = s.supply ∧ (composeNew n s).link = s.link ∧ (composeNew n s).reports = s.reports ∧
    (composeNew n s).faults = s.faults ∧ (composeNew n s).mem = s.mem ∧ (composeNew n s).draws = s.draws ∧
    (composeNew n s).pending = s.pending := by
  simp [composeNew]

@[simp] theorem composeAppend_frame (n : Nat) (s : State) :
    (composeAppend n s).held = s.held ∧ (composeAppend n s).params = s.params ∧ (composeAppend n s).modem = s.modem ∧
    (composeAppend n s).framer = s.framer ∧ (composeAppend n s).disp = s.disp ∧ (composeAppend n s).kbd = s.kbd ∧
    (composeAppend n s).comp = s.comp ∧ (composeAppend n s).strobe = s.strobe ∧
    (composeAppend n s).engine = s.engine ∧ (composeAppend n s).head = s.head ∧
    (composeAppend n s).store.state = s.store.state ∧ (composeAppend n s).store.mountNext = s.store.mountNext ∧
    (composeAppend n s).store.formatNext = s.store.formatNext ∧ (composeAppend n s).store.free = s.store.free ∧
    (composeAppend n s).store.bad = s.store.bad ∧ (composeAppend n s).store.sectors = s.store.sectors ∧
    (composeAppend n s).store.inFlight = s.store.inFlight ∧ (composeAppend n s).store.jobs = s.store.jobs ∧
    (composeAppend n s).store.patrolPos = s.store.patrolPos ∧
    (composeAppend n s).store.patrolTimer = s.store.patrolTimer ∧
    (composeAppend n s).store.patrolRead = s.store.patrolRead ∧
    (composeAppend n s).store.linkRead = s.store.linkRead ∧ (composeAppend n s).send = s.send ∧
    (composeAppend n s).reprint = s.reprint ∧ (composeAppend n s).take = s.take ∧
    (composeAppend n s).supply = s.supply ∧ (composeAppend n s).link = s.link ∧
    (composeAppend n s).reports = s.reports ∧ (composeAppend n s).faults = s.faults ∧
    (composeAppend n s).mem = s.mem ∧ (composeAppend n s).draws = s.draws ∧
    (composeAppend n s).pending = s.pending := by
  simp only [composeAppend]; (repeat' split) <;> simp

@[simp] theorem powerCondition_frame (s : State) :
    (powerCondition s).1.held = s.held ∧ (powerCondition s).1.params = s.params ∧
    (powerCondition s).1.modem = s.modem ∧ (powerCondition s).1.framer = s.framer ∧
    (powerCondition s).1.disp = s.disp ∧ (powerCondition s).1.kbd = s.kbd ∧ (powerCondition s).1.comp = s.comp ∧
    (powerCondition s).1.strobe = s.strobe ∧ (powerCondition s).1.head = s.head ∧
    (powerCondition s).1.store = s.store ∧ (powerCondition s).1.send = s.send ∧
    (powerCondition s).1.reprint = s.reprint ∧ (powerCondition s).1.take = s.take ∧
    (powerCondition s).1.compose = s.compose ∧ (powerCondition s).1.supply = s.supply ∧
    (powerCondition s).1.link = s.link ∧ (powerCondition s).1.reports = s.reports ∧
    (powerCondition s).1.faults = s.faults ∧ (powerCondition s).1.mem = s.mem ∧ (powerCondition s).1.draws = s.draws ∧
    (powerCondition s).1.pending = s.pending := by
  simp only [powerCondition]; (repeat' split) <;> simp

@[simp] theorem heatCondition_frame (s : State) :
    (heatCondition s).1.held = s.held ∧ (heatCondition s).1.params = s.params ∧ (heatCondition s).1.modem = s.modem ∧
    (heatCondition s).1.framer = s.framer ∧ (heatCondition s).1.disp = s.disp ∧ (heatCondition s).1.kbd = s.kbd ∧
    (heatCondition s).1.comp = s.comp ∧ (heatCondition s).1.strobe = s.strobe ∧ (heatCondition s).1.head = s.head ∧
    (heatCondition s).1.store = s.store ∧ (heatCondition s).1.send = s.send ∧
    (heatCondition s).1.reprint = s.reprint ∧ (heatCondition s).1.take = s.take ∧
    (heatCondition s).1.compose = s.compose ∧ (heatCondition s).1.supply = s.supply ∧
    (heatCondition s).1.link = s.link ∧ (heatCondition s).1.reports = s.reports ∧
    (heatCondition s).1.faults = s.faults ∧ (heatCondition s).1.mem = s.mem ∧ (heatCondition s).1.draws = s.draws ∧
    (heatCondition s).1.pending = s.pending := by
  simp only [heatCondition]; (repeat' split) <;> simp

@[simp] theorem engineMeasured_frame (snapVolts : Nat) (evs : List PrintEvent) (s : State) :
    (engineMeasured snapVolts evs s).pending = s.pending := by
  simp only [engineMeasured]; (repeat' split) <;> simp

@[simp] theorem measure_frame (volts : Nat) (therm : Therm) (snapVolts : Nat) (paper : Option Bool) (s : State) :
    (measure volts therm snapVolts paper s).pending = s.pending := by
  simp only [measure]; (repeat' split) <;> simp

@[simp] theorem measureHeld_frame (volts : Nat) (therm : Therm) (s : State) :
    (measureHeld volts therm s).params = s.params ∧ (measureHeld volts therm s).modem = s.modem ∧
    (measureHeld volts therm s).framer = s.framer ∧ (measureHeld volts therm s).disp = s.disp ∧
    (measureHeld volts therm s).kbd = s.kbd ∧ (measureHeld volts therm s).comp = s.comp ∧
    (measureHeld volts therm s).strobe = s.strobe ∧ (measureHeld volts therm s).engine = s.engine ∧
    (measureHeld volts therm s).head = s.head ∧ (measureHeld volts therm s).store = s.store ∧
    (measureHeld volts therm s).send = s.send ∧ (measureHeld volts therm s).reprint = s.reprint ∧
    (measureHeld volts therm s).take = s.take ∧ (measureHeld volts therm s).compose = s.compose ∧
    (measureHeld volts therm s).link = s.link ∧ (measureHeld volts therm s).reports = s.reports ∧
    (measureHeld volts therm s).faults = s.faults ∧ (measureHeld volts therm s).mem = s.mem ∧
    (measureHeld volts therm s).draws = s.draws ∧ (measureHeld volts therm s).pending = s.pending := by
  simp only [measureHeld]; (repeat' split) <;> simp

@[simp] theorem startPart_frame (cause : ResetCause) (volts : Nat) (therm : Therm) (paper : Bool) (s : State) :
    (startPart cause volts therm paper s).params = s.params ∧ (startPart cause volts therm paper s).modem = s.modem ∧
    (startPart cause volts therm paper s).framer = s.framer ∧ (startPart cause volts therm paper s).disp = s.disp ∧
    (startPart cause volts therm paper s).kbd = s.kbd ∧ (startPart cause volts therm paper s).comp = s.comp ∧
    (startPart cause volts therm paper s).strobe = s.strobe ∧
    (startPart cause volts therm paper s).engine.state = s.engine.state ∧
    (startPart cause volts therm paper s).engine.position = s.engine.position ∧
    (startPart cause volts therm paper s).engine.inFlight = s.engine.inFlight ∧
    (startPart cause volts therm paper s).engine.paperCond = s.engine.paperCond ∧
    (startPart cause volts therm paper s).engine.powerCond = s.engine.powerCond ∧
    (startPart cause volts therm paper s).engine.hotCond = s.engine.hotCond ∧
    (startPart cause volts therm paper s).engine.haltDue = s.engine.haltDue ∧
    (startPart cause volts therm paper s).engine.hotTimer = s.engine.hotTimer ∧
    (startPart cause volts therm paper s).engine.paperTimer = s.engine.paperTimer ∧
    (startPart cause volts therm paper s).engine.thermFault = s.engine.thermFault ∧
    (startPart cause volts therm paper s).engine.halfSteps = s.engine.halfSteps ∧
    (startPart cause volts therm paper s).head.index = s.head.index ∧
    (startPart cause volts therm paper s).head.measuring = s.head.measuring ∧
    (startPart cause volts therm paper s).head.passes = s.head.passes ∧
    (startPart cause volts therm paper s).head.records = s.head.records ∧
    (startPart cause volts therm paper s).head.last = s.head.last ∧
    (startPart cause volts therm paper s).store.formatNext = s.store.formatNext ∧
    (startPart cause volts therm paper s).store.bad = s.store.bad ∧
    (startPart cause volts therm paper s).store.sectors = s.store.sectors ∧
    (startPart cause volts therm paper s).store.inFlight = s.store.inFlight ∧
    (startPart cause volts therm paper s).store.jobs = s.store.jobs ∧
    (startPart cause volts therm paper s).store.patrolRead = s.store.patrolRead ∧
    (startPart cause volts therm paper s).store.linkRead = s.store.linkRead ∧
    (startPart cause volts therm paper s).send = s.send ∧ (startPart cause volts therm paper s).reprint = s.reprint ∧
    (startPart cause volts therm paper s).take = s.take ∧ (startPart cause volts therm paper s).compose = s.compose ∧
    (startPart cause volts therm paper s).link = s.link ∧ (startPart cause volts therm paper s).faults = s.faults ∧
    (startPart cause volts therm paper s).mem = s.mem ∧ (startPart cause volts therm paper s).draws = s.draws ∧
    (startPart cause volts therm paper s).pending = s.pending := by
  simp [startPart]

@[simp] theorem patrolSet_frame (was : Bool) (s : State) :
    (patrolSet was s).held = s.held ∧ (patrolSet was s).params = s.params ∧ (patrolSet was s).modem = s.modem ∧
    (patrolSet was s).framer = s.framer ∧ (patrolSet was s).disp = s.disp ∧ (patrolSet was s).kbd = s.kbd ∧
    (patrolSet was s).comp = s.comp ∧ (patrolSet was s).strobe = s.strobe ∧ (patrolSet was s).engine = s.engine ∧
    (patrolSet was s).head.index = s.head.index ∧ (patrolSet was s).head.passes = s.head.passes ∧
    (patrolSet was s).head.records = s.head.records ∧ (patrolSet was s).head.last = s.head.last ∧
    (patrolSet was s).store = s.store ∧ (patrolSet was s).send = s.send ∧ (patrolSet was s).reprint = s.reprint ∧
    (patrolSet was s).take = s.take ∧ (patrolSet was s).compose = s.compose ∧ (patrolSet was s).supply = s.supply ∧
    (patrolSet was s).link = s.link ∧ (patrolSet was s).reports = s.reports ∧ (patrolSet was s).faults = s.faults ∧
    (patrolSet was s).mem = s.mem ∧ (patrolSet was s).draws = s.draws ∧ (patrolSet was s).pending = s.pending := by
  simp only [patrolSet]; (repeat' split) <;> simp

@[simp] theorem lowerCounts_frame (s : State) :
    (lowerCounts s).held = s.held ∧ (lowerCounts s).params = s.params ∧ (lowerCounts s).modem = s.modem ∧
    (lowerCounts s).framer = s.framer ∧ (lowerCounts s).disp = s.disp ∧ (lowerCounts s).kbd = s.kbd ∧
    (lowerCounts s).comp = s.comp ∧ (lowerCounts s).strobe = s.strobe ∧ (lowerCounts s).engine = s.engine ∧
    (lowerCounts s).head.index = s.head.index ∧ (lowerCounts s).head.timer = s.head.timer ∧
    (lowerCounts s).head.measuring = s.head.measuring ∧ (lowerCounts s).head.passes = s.head.passes ∧
    (lowerCounts s).head.last = s.head.last ∧ (lowerCounts s).store = s.store ∧ (lowerCounts s).send = s.send ∧
    (lowerCounts s).reprint = s.reprint ∧ (lowerCounts s).take = s.take ∧ (lowerCounts s).compose = s.compose ∧
    (lowerCounts s).supply = s.supply ∧ (lowerCounts s).link = s.link ∧ (lowerCounts s).reports = s.reports ∧
    (lowerCounts s).faults = s.faults ∧ (lowerCounts s).mem = s.mem ∧ (lowerCounts s).draws = s.draws ∧
    (lowerCounts s).pending = s.pending := by
  simp [lowerCounts]

@[simp] theorem lowerSectors_frame (s : State) :
    (lowerSectors s).held = s.held ∧ (lowerSectors s).params = s.params ∧ (lowerSectors s).modem = s.modem ∧
    (lowerSectors s).framer = s.framer ∧ (lowerSectors s).disp = s.disp ∧ (lowerSectors s).kbd = s.kbd ∧
    (lowerSectors s).comp = s.comp ∧ (lowerSectors s).strobe = s.strobe ∧ (lowerSectors s).engine = s.engine ∧
    (lowerSectors s).head = s.head ∧ (lowerSectors s).store.state = s.store.state ∧
    (lowerSectors s).store.mountNext = s.store.mountNext ∧ (lowerSectors s).store.formatNext = s.store.formatNext ∧
    (lowerSectors s).store.dir = s.store.dir ∧ (lowerSectors s).store.free = s.store.free ∧
    (lowerSectors s).store.bad = s.store.bad ∧ (lowerSectors s).store.inFlight = s.store.inFlight ∧
    (lowerSectors s).store.jobs = s.store.jobs ∧ (lowerSectors s).store.patrolPos = s.store.patrolPos ∧
    (lowerSectors s).store.patrolTimer = s.store.patrolTimer ∧
    (lowerSectors s).store.patrolRead = s.store.patrolRead ∧ (lowerSectors s).store.linkRead = s.store.linkRead ∧
    (lowerSectors s).send = s.send ∧ (lowerSectors s).reprint = s.reprint ∧ (lowerSectors s).take = s.take ∧
    (lowerSectors s).compose = s.compose ∧ (lowerSectors s).supply = s.supply ∧ (lowerSectors s).link = s.link ∧
    (lowerSectors s).reports = s.reports ∧ (lowerSectors s).faults = s.faults ∧ (lowerSectors s).mem = s.mem ∧
    (lowerSectors s).draws = s.draws ∧ (lowerSectors s).pending = s.pending := by
  simp [lowerSectors]

@[simp] theorem intervalSet_frame (was : Nat) (s : State) :
    (intervalSet was s).held = s.held ∧ (intervalSet was s).params = s.params ∧ (intervalSet was s).modem = s.modem ∧
    (intervalSet was s).framer = s.framer ∧ (intervalSet was s).disp = s.disp ∧ (intervalSet was s).kbd = s.kbd ∧
    (intervalSet was s).comp = s.comp ∧ (intervalSet was s).strobe = s.strobe ∧
    (intervalSet was s).engine = s.engine ∧ (intervalSet was s).head = s.head ∧
    (intervalSet was s).store.state = s.store.state ∧ (intervalSet was s).store.mountNext = s.store.mountNext ∧
    (intervalSet was s).store.formatNext = s.store.formatNext ∧ (intervalSet was s).store.dir = s.store.dir ∧
    (intervalSet was s).store.free = s.store.free ∧ (intervalSet was s).store.bad = s.store.bad ∧
    (intervalSet was s).store.sectors = s.store.sectors ∧ (intervalSet was s).store.inFlight = s.store.inFlight ∧
    (intervalSet was s).store.jobs = s.store.jobs ∧ (intervalSet was s).store.patrolPos = s.store.patrolPos ∧
    (intervalSet was s).store.patrolRead = s.store.patrolRead ∧
    (intervalSet was s).store.linkRead = s.store.linkRead ∧ (intervalSet was s).send = s.send ∧
    (intervalSet was s).reprint = s.reprint ∧ (intervalSet was s).take = s.take ∧
    (intervalSet was s).compose = s.compose ∧ (intervalSet was s).supply = s.supply ∧
    (intervalSet was s).link = s.link ∧ (intervalSet was s).reports = s.reports ∧
    (intervalSet was s).faults = s.faults ∧ (intervalSet was s).mem = s.mem ∧ (intervalSet was s).draws = s.draws ∧
    (intervalSet was s).pending = s.pending := by
  simp only [intervalSet]; (repeat' split) <;> simp

@[simp] theorem paramSet_frame (old : Params) (k : Param) (s : State) :
    (paramSet old k s).held = s.held ∧ (paramSet old k s).params = s.params ∧ (paramSet old k s).modem = s.modem ∧
    (paramSet old k s).framer = s.framer ∧ (paramSet old k s).disp.route = s.disp.route ∧
    (paramSet old k s).disp.headExamined = s.disp.headExamined ∧ (paramSet old k s).disp.record = s.disp.record ∧
    (paramSet old k s).disp.remotePause = s.disp.remotePause ∧
    (paramSet old k s).disp.answerback = s.disp.answerback ∧ (paramSet old k s).disp.progress = s.disp.progress ∧
    (paramSet old k s).kbd = s.kbd ∧ (paramSet old k s).comp.queue = s.comp.queue ∧
    (paramSet old k s).comp.owner = s.comp.owner ∧ (paramSet old k s).comp.ownerTimer = s.comp.ownerTimer ∧
    (paramSet old k s).comp.linkPrint = s.comp.linkPrint ∧ (paramSet old k s).comp.output = s.comp.output ∧
    (paramSet old k s).comp.cells = s.comp.cells ∧ (paramSet old k s).comp.column = s.comp.column ∧
    (paramSet old k s).comp.wrapPending = s.comp.wrapPending ∧
    (paramSet old k s).comp.lineSource = s.comp.lineSource ∧ (paramSet old k s).comp.idleTimer = s.comp.idleTimer ∧
    (paramSet old k s).comp.flushDue = s.comp.flushDue ∧ (paramSet old k s).comp.keysEcho = s.comp.keysEcho ∧
    (paramSet old k s).strobe = s.strobe ∧ (paramSet old k s).engine = s.engine ∧
    (paramSet old k s).head.index = s.head.index ∧ (paramSet old k s).head.passes = s.head.passes ∧
    (paramSet old k s).head.last = s.head.last ∧ (paramSet old k s).store.state = s.store.state ∧
    (paramSet old k s).store.mountNext = s.store.mountNext ∧
    (paramSet old k s).store.formatNext = s.store.formatNext ∧ (paramSet old k s).store.dir = s.store.dir ∧
    (paramSet old k s).store.free = s.store.free ∧ (paramSet old k s).store.bad = s.store.bad ∧
    (paramSet old k s).store.inFlight = s.store.inFlight ∧ (paramSet old k s).store.jobs = s.store.jobs ∧
    (paramSet old k s).store.patrolPos = s.store.patrolPos ∧
    (paramSet old k s).store.patrolRead = s.store.patrolRead ∧ (paramSet old k s).store.linkRead = s.store.linkRead ∧
    (paramSet old k s).send = s.send ∧ (paramSet old k s).reprint = s.reprint ∧ (paramSet old k s).take = s.take ∧
    (paramSet old k s).compose = s.compose ∧ (paramSet old k s).supply = s.supply ∧ (paramSet old k s).link = s.link ∧
    (paramSet old k s).faults = s.faults ∧ (paramSet old k s).mem = s.mem ∧ (paramSet old k s).draws = s.draws ∧
    (paramSet old k s).pending = s.pending := by
  simp only [paramSet]; (repeat' split) <;> simp

@[simp] theorem setRx_frame (rx : LinkRx) (gap : Timer) (s : State) :
    (setRx rx gap s).held = s.held ∧ (setRx rx gap s).params = s.params ∧ (setRx rx gap s).modem = s.modem ∧
    (setRx rx gap s).framer = s.framer ∧ (setRx rx gap s).disp = s.disp ∧ (setRx rx gap s).kbd = s.kbd ∧
    (setRx rx gap s).comp = s.comp ∧ (setRx rx gap s).strobe = s.strobe ∧ (setRx rx gap s).engine = s.engine ∧
    (setRx rx gap s).head = s.head ∧ (setRx rx gap s).store = s.store ∧ (setRx rx gap s).send = s.send ∧
    (setRx rx gap s).reprint = s.reprint ∧ (setRx rx gap s).take = s.take ∧ (setRx rx gap s).compose = s.compose ∧
    (setRx rx gap s).supply = s.supply ∧ (setRx rx gap s).link.queue = s.link.queue ∧
    (setRx rx gap s).link.reply = s.link.reply ∧ (setRx rx gap s).link.reject = s.link.reject ∧
    (setRx rx gap s).link.sending = s.link.sending ∧ (setRx rx gap s).reports = s.reports ∧
    (setRx rx gap s).faults = s.faults ∧ (setRx rx gap s).mem = s.mem ∧ (setRx rx gap s).draws = s.draws ∧
    (setRx rx gap s).pending = s.pending := by
  simp [setRx]

@[simp] theorem toHunt_frame (s : State) :
    (toHunt s).held = s.held ∧ (toHunt s).params = s.params ∧ (toHunt s).modem = s.modem ∧
    (toHunt s).framer = s.framer ∧ (toHunt s).disp = s.disp ∧ (toHunt s).kbd = s.kbd ∧ (toHunt s).comp = s.comp ∧
    (toHunt s).strobe = s.strobe ∧ (toHunt s).engine = s.engine ∧ (toHunt s).head = s.head ∧
    (toHunt s).store = s.store ∧ (toHunt s).send = s.send ∧ (toHunt s).reprint = s.reprint ∧
    (toHunt s).take = s.take ∧ (toHunt s).compose = s.compose ∧ (toHunt s).supply = s.supply ∧
    (toHunt s).link.queue = s.link.queue ∧ (toHunt s).link.reply = s.link.reply ∧
    (toHunt s).link.reject = s.link.reject ∧ (toHunt s).link.sending = s.link.sending ∧
    (toHunt s).reports = s.reports ∧ (toHunt s).faults = s.faults ∧ (toHunt s).mem = s.mem ∧
    (toHunt s).draws = s.draws ∧ (toHunt s).pending = s.pending := by
  simp [toHunt]

@[simp] theorem judgeFrame_frame (kind length : Byte) (payload : List Byte) (check : Byte) (s : State) :
    (judgeFrame kind length payload check s).held = s.held ∧
    (judgeFrame kind length payload check s).params = s.params ∧
    (judgeFrame kind length payload check s).modem = s.modem ∧
    (judgeFrame kind length payload check s).framer = s.framer ∧
    (judgeFrame kind length payload check s).disp = s.disp ∧ (judgeFrame kind length payload check s).kbd = s.kbd ∧
    (judgeFrame kind length payload check s).comp = s.comp ∧
    (judgeFrame kind length payload check s).strobe = s.strobe ∧
    (judgeFrame kind length payload check s).engine = s.engine ∧
    (judgeFrame kind length payload check s).head = s.head ∧
    (judgeFrame kind length payload check s).store = s.store ∧
    (judgeFrame kind length payload check s).send = s.send ∧
    (judgeFrame kind length payload check s).reprint = s.reprint ∧
    (judgeFrame kind length payload check s).take = s.take ∧
    (judgeFrame kind length payload check s).compose = s.compose ∧
    (judgeFrame kind length payload check s).supply = s.supply ∧
    (judgeFrame kind length payload check s).link.rx = s.link.rx ∧
    (judgeFrame kind length payload check s).link.gapTimer = s.link.gapTimer ∧
    (judgeFrame kind length payload check s).link.reply = s.link.reply ∧
    (judgeFrame kind length payload check s).link.sending = s.link.sending ∧
    (judgeFrame kind length payload check s).reports = s.reports ∧
    (judgeFrame kind length payload check s).faults = s.faults ∧
    (judgeFrame kind length payload check s).mem = s.mem ∧ (judgeFrame kind length payload check s).draws = s.draws ∧
    (judgeFrame kind length payload check s).pending = s.pending := by
  simp only [judgeFrame]; (repeat' split) <;> simp

@[simp] theorem receiveByte_frame (b : Byte) (s : State) :
    (receiveByte b s).held = s.held ∧ (receiveByte b s).params = s.params ∧ (receiveByte b s).modem = s.modem ∧
    (receiveByte b s).framer = s.framer ∧ (receiveByte b s).disp = s.disp ∧ (receiveByte b s).kbd = s.kbd ∧
    (receiveByte b s).comp = s.comp ∧ (receiveByte b s).strobe = s.strobe ∧ (receiveByte b s).engine = s.engine ∧
    (receiveByte b s).head = s.head ∧ (receiveByte b s).store = s.store ∧ (receiveByte b s).send = s.send ∧
    (receiveByte b s).reprint = s.reprint ∧ (receiveByte b s).take = s.take ∧ (receiveByte b s).compose = s.compose ∧
    (receiveByte b s).supply = s.supply ∧ (receiveByte b s).link.reply = s.link.reply ∧
    (receiveByte b s).link.sending = s.link.sending ∧ (receiveByte b s).reports = s.reports ∧
    (receiveByte b s).faults = s.faults ∧ (receiveByte b s).mem = s.mem ∧ (receiveByte b s).draws = s.draws ∧
    (receiveByte b s).pending = s.pending := by
  simp only [receiveByte]; (repeat' split) <;> simp

@[simp] theorem frameGone_frame (f : TxFrame) (s : State) :
    (frameGone f s).held = s.held ∧ (frameGone f s).params = s.params ∧ (frameGone f s).modem = s.modem ∧
    (frameGone f s).framer = s.framer ∧ (frameGone f s).disp = s.disp ∧ (frameGone f s).kbd = s.kbd ∧
    (frameGone f s).comp = s.comp ∧ (frameGone f s).strobe = s.strobe ∧ (frameGone f s).engine = s.engine ∧
    (frameGone f s).head = s.head ∧ (frameGone f s).store = s.store ∧ (frameGone f s).send = s.send ∧
    (frameGone f s).reprint = s.reprint ∧ (frameGone f s).take = s.take ∧ (frameGone f s).compose = s.compose ∧
    (frameGone f s).supply = s.supply ∧ (frameGone f s).link.rx = s.link.rx ∧
    (frameGone f s).link.gapTimer = s.link.gapTimer ∧ (frameGone f s).link.queue = s.link.queue ∧
    (frameGone f s).link.reject = s.link.reject ∧ (frameGone f s).reports = s.reports ∧
    (frameGone f s).faults = s.faults ∧ (frameGone f s).mem = s.mem ∧ (frameGone f s).draws = s.draws ∧
    (frameGone f s).pending = s.pending := by
  simp only [frameGone]; (repeat' split) <;> simp

@[simp] theorem frameSent_frame (f : TxFrame) (s : State) :
    (frameSent f s).supply = s.supply ∧ (frameSent f s).pending = s.pending := by
  simp only [frameSent]; (repeat' split) <;> simp

end Sys2Proof.Machine
end

