-- ==== Sys2Proof/Laws/Settle.lean ====
section
/-! SUPPORT. What a whole step does: the outcome of the frames `perform`, `performWhen` and `request` that every command's
meaning is put in, and what the settling at the end of a step leaves alone. -/

namespace Sys2Proof.Machine

variable {s0 s t : State}

/-- What settles before the Engine's turn: the store port and channels, and print input with its timers. -/
theorem storeInputSettle_keeps (s0 x : State) :
    Keeps x (idleTimerSettle s0 (ownerTimerSettle (arbitrate (echoSettle s0 (storeSettle x))))) := by
  constructor <;> simp

/-- Settling without a dot line to start leaves alone everything that `Keeps` lists. -/
theorem settle_keeps (s0 x : State) : Keeps x (settle s0 none x) := by
  simp only [settle]
  (repeat' split) <;> constructor <;> simp

/-- Settling never touches the queue of waiting commands. -/
@[simp] theorem settle_pending (s0 : State) (volts : Option Nat) (x : State) :
    (settle s0 volts x).pending = x.pending := by
  simp only [settle]
  (repeat' split) <;> simp

/-- R57, R58: what the translator's removal of its head does, all of it. -/
theorem removeEvent_of_events {e : KeyEvent} {rest : List KeyEvent} (h : s.kbd.events = e :: rest) :
    removeEvent s = keyHeadGone rest s := by
  simp only [removeEvent, placeOwed, keyHeadGone, h, List.tail_cons, State.setKbd_kbd]
  split <;> simp_all [setKey, pushEvent, keyRecord, State.setKbd]

/-- A part held in reset does not settle. -/
theorem settle_held (s0 : State) (volts : Option Nat) {x : State} (h : x.held ≠ none) : settle s0 volts x = x := by
  have h : x.held.isSome = true := Option.isSome_iff_ne_none.mpr h
  simp [settle, h]

/-- An Engine that is not IDLE, or has no job, starts nothing at the end of a step. -/
theorem engineSettle_quiet (v : Nat) {x : State} (h : x.engine.state ≠ .idle ∨ x.comp.output = []) :
    engineSettle v x = x := by
  simp only [engineSettle]
  split
  · simp_all
  · rfl

/-- With nothing for the Engine to start, the measurement that came with the step is not used. -/
theorem settle_quiet (s0 : State) (v : Nat) {x : State} (h : x.engine.state ≠ .idle ∨ x.comp.output = []) :
    settle s0 (some v) x = settle s0 none x := by
  have k := storeInputSettle_keeps s0 x
  simp only [settle]
  rw [engineSettle_quiet v (by rw [k.engine, k.output]; exact h)]

/-! ### The frames of a meaning -/

/-- A command of a part that runs. -/
theorem perform_runs (volts : Option Nat) (f : State → State) (h : s.held = none) :
    perform volts f s = .next (settle s volts (f s)) := by
  simp [perform, h]

/-- A part held in reset takes no notice of a command. -/
theorem perform_held (volts : Option Nat) (f : State → State) (h : s.held ≠ none) : perform volts f s = .next s := by
  have h : s.held.isSome = true := Option.isSome_iff_ne_none.mpr h
  simp [perform, h]

/-- Everything `perform` can answer. -/
theorem perform_cases (volts : Option Nat) (f : State → State) (h : perform volts f s = .next t) :
    (s.held ≠ none ∧ t = s) ∨ (s.held = none ∧ t = settle s volts (f s)) := by
  by_cases hs : s.held = none
  · rw [perform_runs volts f hs] at h; exact .inr ⟨hs, by injection h with h; exact h.symm⟩
  · rw [perform_held volts f hs] at h; exact .inl ⟨hs, by injection h with h; exact h.symm⟩

/-- A command whose event occurs, of a part that runs. -/
theorem performWhen_runs {p : Bool} (volts : Option Nat) (f : State → State) (hp : p = true) (h : s.held = none) :
    performWhen p volts f s = .next (settle s volts (f s)) := by
  simp [performWhen, hp, perform_runs volts f h]

/-- A command whose event cannot occur leaves the state as it is (log entry 3). -/
theorem performWhen_not {p : Bool} (volts : Option Nat) (f : State → State) (hp : p = false) :
    performWhen p volts f s = .next s := by
  simp [performWhen, hp]

/-- Everything `performWhen` can answer. -/
theorem performWhen_cases {p : Bool} (volts : Option Nat) (f : State → State) (h : performWhen p volts f s = .next t) :
    ((p = false ∨ s.held ≠ none) ∧ t = s) ∨ (p = true ∧ s.held = none ∧ t = settle s volts (f s)) := by
  cases p with
  | false => rw [performWhen_not volts f rfl] at h; exact .inl ⟨.inl rfl, by injection h with h; exact h.symm⟩
  | true =>
    rcases perform_cases volts f (by simpa [performWhen] using h) with ⟨a, b⟩ | ⟨a, b⟩
    · exact .inl ⟨.inr a, b⟩
    · exact .inr ⟨rfl, a, b⟩

/-- A request in its turn, of a part that runs. -/
theorem request_inTurn (volts : Option Nat) (k : Byte) (p : List Byte) (e : State → State × List Byte)
    (h : s.held = none) (ht : inTurn ⟨k, p⟩ s = true) :
    request volts k p e s =
      .next (settle s volts
        (formReply ⟨k, p⟩ (e (standAtHead ⟨k, p⟩ s)).2 (e (standAtHead ⟨k, p⟩ s)).1)) := by
  simp [request, perform_runs volts _ h, executeRequest, ht]

/-- A request out of its turn, of a part that runs: its frame arrives. -/
theorem request_outOfTurn (volts : Option Nat) (k : Byte) (p : List Byte) (e : State → State × List Byte)
    (h : s.held = none) (ht : inTurn ⟨k, p⟩ s = false) :
    request volts k p e s = .next (settle s volts (frameArrives ⟨k, p⟩ s)) := by
  simp [request, perform_runs volts _ h, executeRequest, ht]

@[simp] theorem replies_state (c : ReplyCode) (l : List Byte) (s : State) : (replies c l s).1 = s := rfl
@[simp] theorem replies_payload (c : ReplyCode) (l : List Byte) (s : State) : (replies c l s).2 = c.byte :: l := rfl

/-- A request at the head of the queue, or alone, stands there while it is executed. -/
theorem standAtHead_queue {r : Request} (ht : inTurn r s = true) :
    ∃ rest, (standAtHead r s).link.queue = r :: rest := by
  simp only [inTurn, Bool.and_eq_true, Bool.or_eq_true, decide_eq_true_eq] at ht
  obtain ⟨-, hq | hq⟩ := ht
  · exact ⟨[], by simp [standAtHead, hq]⟩
  · cases h : s.link.queue with
    | nil => simp [h] at hq
    | cons a rest => simp [h] at hq; exact ⟨rest, by simp [standAtHead, h, hq]⟩

/-! ### Answers -/

theorem Keeps.trans {x y z : State} (a : Keeps x y) (b : Keeps y z) : Keeps x z := by
  constructor <;> simp [a.held, a.params, a.modem, a.sampler, a.shift, a.holding, a.brk, a.linkText, a.remotePause,
    a.answerback, a.progress, a.kbd, a.queue, a.linkPrint, a.output, a.cells, a.column, a.wrapPending, a.lineSource,
    a.formCount, a.strobe, a.engine, a.head, a.storeState, a.mountNext, a.formatNext, a.free, a.bad, a.sectors,
    a.patrolPos, a.patrolTimer, a.patrolRead, a.linkRead, a.supply, a.rx, a.gapTimer, a.requests, a.reply, a.mem,
    a.draws, a.pending, b.held, b.params, b.modem, b.sampler, b.shift, b.holding, b.brk, b.linkText, b.remotePause,
    b.answerback, b.progress, b.kbd, b.queue, b.linkPrint, b.output, b.cells, b.column, b.wrapPending, b.lineSource,
    b.formCount, b.strobe, b.engine, b.head, b.storeState, b.mountNext, b.formatNext, b.free, b.bad, b.sectors,
    b.patrolPos, b.patrolTimer, b.patrolRead, b.linkRead, b.supply, b.rx, b.gapTimer, b.requests, b.reply, b.mem,
    b.draws, b.pending]

/-- A command whose own effect is `y`, settled with nothing for the Engine to start, answers any `x` that `y` agrees with. -/
theorem Answers.of_settle {c : Instr} {s s0 x y : State} (h : exec c s = .next (settle s0 none y)) (k : Keeps x y) :
    Answers c s x :=
  ⟨_, h, k.trans (settle_keeps s0 y)⟩

/-- The same for a step that brought a measurement with it. -/
theorem Answers.of_settle_quiet {c : Instr} {s s0 x y : State} {v : Nat}
    (h : exec c s = .next (settle s0 (some v) y)) (q : NothingToStart y) (k : Keeps x y) : Answers c s x :=
  Answers.of_settle (h.trans (by rw [settle_quiet s0 v q])) k

/-- A request whose turn it is may be executed. -/
theorem Turn.inTurn {c : Instr} {r : Request} (t : Turn c s) (hr : requestOf c = some r) :
    Machine.inTurn r s = true := by
  obtain ⟨r', h1, h2⟩ := t.head
  rw [hr] at h1
  cases h1
  simp [Machine.inTurn, t.reply, t.read, h2]

/-- Forming the reply of a request that stands at the head leaves what `answered` says of its effect. -/
theorem formReply_queue {r : Request} (payload : List Byte) {x : State} (h : x.held = none) :
    formReply r payload x = x.setLink { x.link with queue := x.link.queue.tail, reply := some ⟨r.kind, payload⟩ } := by
  simp [formReply, h]

/-- While a request is executed it stands at the head; what is behind it is what the queue holds afterwards. -/
theorem standAtHead_eq (r : Request) (s : State) :
    ∃ q, standAtHead r s = s.setLink { s.link with queue := q } ∧ q.tail = s.link.queue.tail := by
  unfold standAtHead
  split
  · exact ⟨_, rfl, by simp [*]⟩
  · exact ⟨s.link.queue, rfl, rfl⟩

/-- A request whose turn it is answers any `x` that its effect, with its reply formed, agrees with. -/
theorem Answers.of_request {c : Instr} {x : State} {k : Byte} {p : List Byte} {e : State → State × List Byte}
    (ht : Turn c s) (hr : requestOf c = some ⟨k, p⟩) (he : exec c s = request none k p e s)
    (hx : ∀ q, q.tail = s.link.queue.tail →
      Keeps x (formReply ⟨k, p⟩ (e (s.setLink { s.link with queue := q })).2
        (e (s.setLink { s.link with queue := q })).1)) : Answers c s x := by
  obtain ⟨q, h1, h2⟩ := standAtHead_eq ⟨k, p⟩ s
  refine Answers.of_settle (he.trans (request_inTurn none _ _ _ ht.runs (ht.inTurn hr))) ?_
  rw [h1]
  exact hx q h2

end Sys2Proof.Machine
end

