-- ==== Sys2Proof/Laws/Engine.lean ====
section
/-! SUPPORT. The Engine at a boundary: what the conditions are after they are judged, and which state is taken. -/

namespace Sys2Proof.Machine

/-- R110: the conditions after they are judged at a boundary; nothing else of the Engine but the hot timer changes. -/
theorem judgeConditions_fst (p : Power) (t : Therm) (e : Engine) :
    (judgeConditions p t e).1.haltDue = e.haltDue ∧
    (judgeConditions p t e).1.paperCond = (!e.paper || e.paperCond) ∧
    (judgeConditions p t e).1.powerCond = decide (p = .critical) ∧
    (judgeConditions p t e).1.hotCond = (isHot t || e.hotCond) ∧
    (judgeConditions p t e).1.state = e.state ∧ (judgeConditions p t e).1.position = e.position ∧
    (judgeConditions p t e).1.inFlight = e.inFlight ∧ (judgeConditions p t e).1.paper = e.paper ∧
    (judgeConditions p t e).1.paperTimer = e.paperTimer ∧ (judgeConditions p t e).1.thermFault = e.thermFault := by
  have a : (judgePaper e).1 = { e with paperCond := !e.paper || e.paperCond } := by
    cases e with | mk _ _ _ pc _ _ _ _ _ _ pp _ => cases pc <;> cases pp <;> rfl
  have b (e : Engine) : (judgePowerCond p e).1 = { e with powerCond := decide (p = .critical) } := by
    cases e with | mk _ _ _ _ qc _ _ _ _ _ _ _ => cases p <;> cases qc <;> rfl
  have c (e : Engine) : (judgeHeat t e).1 =
      { e with hotCond := isHot t || e.hotCond
               hotTimer := if isHot t && !e.hotCond then .running 30 else e.hotTimer } := by
    cases e with | mk _ _ _ _ _ hc _ _ _ _ _ _ => cases hc <;> simp only [judgeHeat] <;> cases isHot t <;> rfl
  simp [judgeConditions, a, b, c]

/-- R111: the first line that applies. -/
theorem standing_eq (e : Engine) :
    e.standing = if e.haltDue then some .halted else if e.paperCond then some .paperOut
      else if e.powerCond then some .powerHold else if e.hotCond then some .hotHold else none := rfl

/-- R110, R111: a boundary at which something stands sets the held state and starts nothing. -/
theorem atBoundary_holds (v : Nat) (evs : List PrintEvent) (s : State) {h : EngineState}
    (hs : (judgeConditions s.supply.power s.supply.therm s.engine).1.standing = some h) :
    atBoundary v evs s =
      recordPrint (evs ++ (judgeConditions s.supply.power s.supply.therm s.engine).2)
        (setEngineState h (s.setEngine (judgeConditions s.supply.power s.supply.therm s.engine).1)) := by
  simp only [atBoundary, hs]

/-- R110, R112: a boundary at which nothing stands starts the dot line of the head job. -/
theorem atBoundary_starts (v : Nat) (evs : List PrintEvent) (s : State) {job : Job} {rest : List Job}
    (hs : (judgeConditions s.supply.power s.supply.therm s.engine).1.standing = none)
    (ho : s.comp.output = job :: rest) :
    atBoundary v evs s = startDotLine v job
      (recordPrint (evs ++ (judgeConditions s.supply.power s.supply.therm s.engine).2)
        (setEngineState job.working (s.setEngine (judgeConditions s.supply.power s.supply.therm s.engine).1))) := by
  simp only [atBoundary, hs, State.setEngine_comp, ho]

end Sys2Proof.Machine
end

