-- ==== Sys2Proof/Laws/Memory.lean ====
section
/-! SUPPORT. The store memory: every operation keeps its canonical form, and a read after a write. -/

namespace Sys2Proof.Machine

theorem Memory.wf_cons (x : Nat) (b : Byte) (m : Memory) :
    Memory.wf ((x, b) :: m) = true ↔ b ≠ unlistedByte ∧ (∀ c ∈ m, x < c.1) ∧ Memory.wf m = true := by
  simp [Memory.wf, and_assoc]

/-- Nothing below the new address comes before the rest of a written memory. -/
theorem Memory.write_above {m : Memory} {x a : Nat} {b : Byte} (hm : ∀ c ∈ m, x < c.1) (ha : x < a) :
    ∀ c ∈ Memory.write m a b, x < c.1 := by
  induction m with
  | nil => simp only [Memory.write]; split <;> simp [ha]
  | cons y m ih =>
    obtain ⟨y, c⟩ := y
    have hy : x < y := hm (y, c) (by simp)
    have ht : ∀ c ∈ m, x < c.1 := fun d hd => hm d (List.mem_cons_of_mem _ hd)
    simp only [Memory.write]
    split
    · split
      · exact hm
      · exact List.forall_mem_cons.mpr ⟨ha, hm⟩
    · split
      · split
        · exact ht
        · exact List.forall_mem_cons.mpr ⟨ha, ht⟩
      · exact List.forall_mem_cons.mpr ⟨hy, ih ht⟩

/-- A write keeps the canonical form. -/
theorem Memory.write_wf {m : Memory} (a : Nat) (b : Byte) (h : Memory.wf m = true) :
    Memory.wf (Memory.write m a b) = true := by
  induction m with
  | nil => simp only [Memory.write]; split <;> simp_all [Memory.wf]
  | cons y m ih =>
    obtain ⟨y, c⟩ := y
    obtain ⟨hc, hy, hm⟩ := (Memory.wf_cons y c m).mp h
    simp only [Memory.write]
    split
    · rename_i ha
      split
      · exact h
      · rename_i hb
        refine (Memory.wf_cons a b _).mpr ⟨hb, fun d hd => ?_, h⟩
        rcases List.mem_cons.mp hd with rfl | hd
        · exact ha
        · exact Nat.lt_trans ha (hy d hd)
    · split
      · rename_i ha
        subst ha
        split
        · exact hm
        · rename_i hb; exact (Memory.wf_cons a b m).mpr ⟨hb, hy, hm⟩
      · exact (Memory.wf_cons y c _).mpr ⟨hc, Memory.write_above hy (by omega), ih hm⟩

theorem Memory.read_of_above {m : Memory} {a : Nat} (h : ∀ c ∈ m, a < c.1) : Memory.read m a = unlistedByte := by
  induction m with
  | nil => rfl
  | cons y m ih =>
    obtain ⟨y, c⟩ := y
    have hy : a < y := h (y, c) (by simp)
    simp only [Memory.read, if_neg (Nat.ne_of_gt hy)]
    exact ih fun d hd => h d (by simp [hd])

/-- A read after a write to the same address gives the byte written. -/
theorem Memory.read_write_same {m : Memory} (a : Nat) (b : Byte) (h : Memory.wf m = true) :
    Memory.read (Memory.write m a b) a = b := by
  induction m with
  | nil => simp only [Memory.write]; split <;> simp_all [Memory.read]
  | cons y m ih =>
    obtain ⟨y, c⟩ := y
    obtain ⟨hc, hy, hm⟩ := (Memory.wf_cons y c m).mp h
    simp only [Memory.write]
    split
    · rename_i ha
      split
      · rename_i hb
        rw [hb]
        refine Memory.read_of_above fun d hd => ?_
        rcases List.mem_cons.mp hd with rfl | hd
        · exact ha
        · exact Nat.lt_trans ha (hy d hd)
      · simp [Memory.read]
    · split
      · rename_i ha
        subst ha
        split
        · rename_i hb; rw [hb]; exact Memory.read_of_above hy
        · simp [Memory.read]
      · rename_i h1 h2
        simp only [Memory.read, if_neg (Ne.symm h2)]
        exact ih hm

/-- A write leaves every other address as it was. -/
theorem Memory.read_write_other {m : Memory} {a x : Nat} (b : Byte) (hx : x ≠ a) :
    Memory.read (Memory.write m a b) x = Memory.read m x := by
  induction m with
  | nil => simp only [Memory.write]; split <;> simp [Memory.read, Ne.symm hx]
  | cons y m ih =>
    obtain ⟨y, c⟩ := y
    simp only [Memory.write]
    split
    · split <;> simp [Memory.read, Ne.symm hx]
    · split
      · rename_i ha
        subst ha
        split <;> simp [Memory.read, Ne.symm hx]
      · simp only [Memory.read]
        split
        · rfl
        · exact ih

theorem Memory.writeBytes_wf (l : List Byte) {m : Memory} (a : Nat) (h : Memory.wf m = true) :
    Memory.wf (Memory.writeBytes m a l) = true := by
  induction l generalizing m a with
  | nil => exact h
  | cons b l ih => exact ih (a + 1) (Memory.write_wf a b h)

/-- Addresses outside the bytes written read as before. -/
theorem Memory.read_writeBytes_outside (l : List Byte) (m : Memory) (a x : Nat) (hx : x < a ∨ a + l.length ≤ x) :
    Memory.read (Memory.writeBytes m a l) x = Memory.read m x := by
  induction l generalizing m a with
  | nil => rfl
  | cons b l ih =>
    simp only [List.length_cons] at hx
    rw [Memory.writeBytes, ih _ _ (by omega), Memory.read_write_other b (by omega)]

/-- Byte `i` of the bytes written reads as written. -/
theorem Memory.read_writeBytes_inside (l : List Byte) {m : Memory} (a i : Nat) (h : Memory.wf m = true)
    (hi : i < l.length) : Memory.read (Memory.writeBytes m a l) (a + i) = l[i] := by
  induction l generalizing m a i with
  | nil => simp at hi
  | cons b l ih =>
    cases i with
    | zero =>
      rw [Memory.writeBytes, Memory.read_writeBytes_outside _ _ _ _ (by omega)]
      simpa using Memory.read_write_same a b h
    | succ i =>
      have := ih (m := Memory.write m a b) (a + 1) i (Memory.write_wf a b h) (by simpa using hi)
      rw [Memory.writeBytes]
      simpa [Nat.add_assoc, Nat.add_comm 1 i] using this

@[simp] theorem length_sized (image : List Byte) : (sized image).length = 64 := by simp [sized]

theorem writeBlock_wf (b : Nat) (image : List Byte) {s : State} (h : Memory.wf s.mem = true) :
    Memory.wf (writeBlock b image s).mem = true := by
  simpa [writeBlock] using Memory.writeBytes_wf _ _ h

theorem spoilBlock_wf (b : Nat) {s : State} (h : Memory.wf s.mem = true) : Memory.wf (spoilBlock b s).mem = true := by
  simpa [spoilBlock] using writeBlock_wf b _ h

theorem abandonWrite_wf {s : State} (h : Memory.wf s.mem = true) : Memory.wf (abandonWrite s).mem = true := by
  simp only [abandonWrite]
  split
  · exact spoilBlock_wf _ h
  · exact spoilBlock_wf _ h
  · exact h

theorem resetPart_wf (c : ResetCause) {s : State} (h : Memory.wf s.mem = true) :
    Memory.wf (resetPart c s).mem = true := by
  simpa [resetPart] using abandonWrite_wf h

/-- A block that was written reads back as its 64 bytes. -/
theorem blockBytes_writeBlock (b : Nat) (image : List Byte) {s : State} (h : Memory.wf s.mem = true) :
    blockBytes (writeBlock b image s).mem b = sized image := by
  refine List.ext_getElem (by simp [blockBytes]) fun i h1 h2 => ?_
  have hi : i < 64 := by simpa [blockBytes] using h1
  simp only [blockBytes, List.getElem_map, List.getElem_range, writeBlock, State.setMem_mem]
  exact Memory.read_writeBytes_inside (sized image) (64 * b) i h (by simpa using hi)

/-- Writing one block leaves every byte of the others as it was. -/
theorem read_writeBlock_outside (b : Nat) (image : List Byte) (s : State) (a : Nat) (h : a / 64 ≠ b) :
    Memory.read (writeBlock b image s).mem a = Memory.read s.mem a := by
  simp only [writeBlock, State.setMem_mem]
  refine Memory.read_writeBytes_outside _ _ _ _ ?_
  simp only [length_sized]
  omega

theorem reset_memory_wf : Memory.wf State.reset.mem = true := rfl

end Sys2Proof.Machine
end

