-- ==== Sys2Proof/Laws/PerInstr.lean ====
section
/-! SUPPORT. One lemma per command: a well-formed request command is a frame that the receiver accepts and the queue takes
(R175 to R177, R182). -/

namespace Sys2Proof.Laws

open Sys2Proof.Machine

/-- A well-formed command that is a request comes in a frame of kind 01h to 3Fh with at most 240 payload bytes; its kind and
length are in the catalogue, except those of `unknownRequest`, which are not. -/
def RequestFrame.Statement (i : Instr) : Prop :=
  i.wf = true → ∀ r, requestOf i = some r →
    1 ≤ r.kind.toNat ∧ r.kind.toNat ≤ 0x3F ∧ r.payload.length ≤ 240 ∧
      ((unknownOutcome r.kind r.payload).isSome ↔ ∃ k p, i = .unknownRequest k p)

/-- A command that is no request. -/
theorem requestFrame_none {i : Instr} (h : requestOf i = none) : RequestFrame.Statement i := by
  intro _ r hr
  rw [h] at hr
  cases hr

/-- A request of the catalogue. -/
theorem requestFrame_some {i : Instr} {r : Request} (h : requestOf i = some r) (h1 : 1 ≤ r.kind.toNat)
    (h2 : r.kind.toNat ≤ 0x3F) (h3 : r.payload.length ≤ 240) (hu : unknownOutcome r.kind r.payload = none)
    (hn : ∀ k p, i ≠ .unknownRequest k p) : RequestFrame.Statement i := by
  intro _ r' hr
  rw [h] at hr
  cases hr
  refine ⟨h1, h2, h3, iff_of_false (by rw [hu]; nofun) ?_⟩
  rintro ⟨k, p, rfl⟩
  exact hn k p rfl

theorem RequestFrame.carrierMeasurement (level : Nat) :
    RequestFrame.Statement (.carrierMeasurement level) := requestFrame_none rfl

theorem RequestFrame.qualifyTimeExpiry : RequestFrame.Statement .qualifyTimeExpiry :=
  requestFrame_none rfl

theorem RequestFrame.connectTimeout : RequestFrame.Statement .connectTimeout := requestFrame_none rfl

theorem RequestFrame.lossTimeExpiry : RequestFrame.Statement .lossTimeExpiry := requestFrame_none rfl

theorem RequestFrame.connect (role : Byte) : RequestFrame.Statement (.connect role) :=
  requestFrame_some rfl (Nat.le_of_ble_eq_true rfl) (Nat.le_of_ble_eq_true rfl) (Nat.le_of_ble_eq_true rfl) rfl nofun

theorem RequestFrame.drop : RequestFrame.Statement .drop :=
  requestFrame_some rfl (Nat.le_of_ble_eq_true rfl) (Nat.le_of_ble_eq_true rfl) (Nat.le_of_ble_eq_true rfl) rfl nofun

theorem RequestFrame.receiveCharacterComplete (sounds : List (List Sound)) :
    RequestFrame.Statement (.receiveCharacterComplete sounds) := requestFrame_none rfl

theorem RequestFrame.breakWatchMark : RequestFrame.Statement .breakWatchMark := requestFrame_none rfl

theorem RequestFrame.breakReceived : RequestFrame.Statement .breakReceived := requestFrame_none rfl

theorem RequestFrame.markWaitEnd : RequestFrame.Statement .markWaitEnd := requestFrame_none rfl

theorem RequestFrame.dispatchHead : RequestFrame.Statement .dispatchHead := requestFrame_none rfl

theorem RequestFrame.textHeadDelivery : RequestFrame.Statement .textHeadDelivery := requestFrame_none rfl

theorem RequestFrame.shiftStageEmpties : RequestFrame.Statement .shiftStageEmpties := requestFrame_none rfl

theorem RequestFrame.holdingStageRefill : RequestFrame.Statement .holdingStageRefill := requestFrame_none rfl

theorem RequestFrame.breakSpaceEnd : RequestFrame.Statement .breakSpaceEnd := requestFrame_none rfl

theorem RequestFrame.breakMarkEnd : RequestFrame.Statement .breakMarkEnd := requestFrame_none rfl

theorem RequestFrame.transmitText (text : List Byte) : RequestFrame.Statement (.transmitText text) := by
  intro hw
  simp [Instr.wf, textLengthOk] at hw
  refine requestFrame_some rfl (Nat.le_of_ble_eq_true rfl) (Nat.le_of_ble_eq_true rfl) ?_
    (if_pos ?_) nofun (by simpa [Instr.wf, textLengthOk] using hw)
  · show text.length ≤ 240; omega
  · simpa using hw

theorem RequestFrame.sendBreak : RequestFrame.Statement .sendBreak :=
  requestFrame_some rfl (Nat.le_of_ble_eq_true rfl) (Nat.le_of_ble_eq_true rfl) (Nat.le_of_ble_eq_true rfl) rfl nofun

theorem RequestFrame.setAnswerback (text : List Byte) : RequestFrame.Statement (.setAnswerback text) := by
  intro hw
  simp [Instr.wf] at hw
  refine requestFrame_some rfl (Nat.le_of_ble_eq_true rfl) (Nat.le_of_ble_eq_true rfl) ?_
    (if_pos ?_) nofun (by simpa [Instr.wf, textLengthOk] using hw)
  · show text.length ≤ 240; omega
  · simpa using hw

theorem RequestFrame.keyScan (snapshot : KeyMatrix) :
    RequestFrame.Statement (.keyScan snapshot) := requestFrame_none rfl

theorem RequestFrame.translateKeyHead (snapVolts : Nat) :
    RequestFrame.Statement (.translateKeyHead snapVolts) := requestFrame_none rfl

theorem RequestFrame.autoRepeatExpiry : RequestFrame.Statement .autoRepeatExpiry := requestFrame_none rfl

theorem RequestFrame.feedRepeatExpiry (position : Nat) (snapVolts : Nat) :
    RequestFrame.Statement (.feedRepeatExpiry position snapVolts) := requestFrame_none rfl

theorem RequestFrame.beeperToneEnd (tone : Tone) :
    RequestFrame.Statement (.beeperToneEnd tone) := requestFrame_none rfl

theorem RequestFrame.setKeymapEntry (position layer entry : Byte) :
    RequestFrame.Statement (.setKeymapEntry position layer entry) :=
  requestFrame_some rfl (Nat.le_of_ble_eq_true rfl) (Nat.le_of_ble_eq_true rfl) (Nat.le_of_ble_eq_true rfl) rfl nofun

theorem RequestFrame.setKeyboardMode (mode : Byte) : RequestFrame.Statement (.setKeyboardMode mode) :=
  requestFrame_some rfl (Nat.le_of_ble_eq_true rfl) (Nat.le_of_ble_eq_true rfl) (Nat.le_of_ble_eq_true rfl) rfl nofun

theorem RequestFrame.lockKeyboard (lock : Byte) : RequestFrame.Statement (.lockKeyboard lock) :=
  requestFrame_some rfl (Nat.le_of_ble_eq_true rfl) (Nat.le_of_ble_eq_true rfl) (Nat.le_of_ble_eq_true rfl) rfl nofun

theorem RequestFrame.readKeys : RequestFrame.Statement .readKeys :=
  requestFrame_some rfl (Nat.le_of_ble_eq_true rfl) (Nat.le_of_ble_eq_true rfl) (Nat.le_of_ble_eq_true rfl) rfl nofun

theorem RequestFrame.printDeposit (nextFirst : Bool) :
    RequestFrame.Statement (.printDeposit nextFirst) := requestFrame_none rfl

theorem RequestFrame.ownershipTimeout : RequestFrame.Statement .ownershipTimeout := requestFrame_none rfl

theorem RequestFrame.composerTakeHead (snapVolts : Nat) :
    RequestFrame.Statement (.composerTakeHead snapVolts) := requestFrame_none rfl

theorem RequestFrame.idleFlushExpiry (snapVolts : Nat) :
    RequestFrame.Statement (.idleFlushExpiry snapVolts) := requestFrame_none rfl

theorem RequestFrame.printText (text : List Byte) : RequestFrame.Statement (.printText text) := by
  intro hw
  simp [Instr.wf, textLengthOk] at hw
  refine requestFrame_some rfl (Nat.le_of_ble_eq_true rfl) (Nat.le_of_ble_eq_true rfl) ?_
    (if_pos ?_) nofun (by simpa [Instr.wf, textLengthOk] using hw)
  · show text.length ≤ 240; omega
  · simpa using hw

theorem RequestFrame.paperFeed (lines : Byte) (snapVolts : Nat) :
    RequestFrame.Statement (.paperFeed lines snapVolts) :=
  requestFrame_some rfl (Nat.le_of_ble_eq_true rfl) (Nat.le_of_ble_eq_true rfl) (Nat.le_of_ble_eq_true rfl) rfl nofun

theorem RequestFrame.dotLineComplete (snapVolts : Nat) :
    RequestFrame.Statement (.dotLineComplete snapVolts) := requestFrame_none rfl

theorem RequestFrame.coolDownExpiry : RequestFrame.Statement .coolDownExpiry := requestFrame_none rfl

theorem RequestFrame.paperSensorReading (present : Bool) :
    RequestFrame.Statement (.paperSensorReading present) := requestFrame_none rfl

theorem RequestFrame.paperPresentExpiry (moment : Resumption) :
    RequestFrame.Statement (.paperPresentExpiry moment) := requestFrame_none rfl

theorem RequestFrame.hotTimerExpiry : RequestFrame.Statement .hotTimerExpiry := requestFrame_none rfl

theorem RequestFrame.clearHead (moment : Resumption) : RequestFrame.Statement (.clearHead moment) :=
  requestFrame_some rfl (Nat.le_of_ble_eq_true rfl) (Nat.le_of_ble_eq_true rfl) (Nat.le_of_ble_eq_true rfl) rfl nofun

theorem RequestFrame.elementPatrolExpiry : RequestFrame.Statement .elementPatrolExpiry := requestFrame_none rfl

theorem RequestFrame.elementMeasurementComplete (milliohms : Nat) :
    RequestFrame.Statement (.elementMeasurementComplete milliohms) := requestFrame_none rfl

theorem RequestFrame.setHeadMark (block : Byte) (element : Half) :
    RequestFrame.Statement (.setHeadMark block element) :=
  requestFrame_some rfl (Nat.le_of_ble_eq_true rfl) (Nat.le_of_ble_eq_true rfl) (Nat.le_of_ble_eq_true rfl) rfl nofun

theorem RequestFrame.clearHeadMap : RequestFrame.Statement .clearHeadMap :=
  requestFrame_some rfl (Nat.le_of_ble_eq_true rfl) (Nat.le_of_ble_eq_true rfl) (Nat.le_of_ble_eq_true rfl) rfl nofun

theorem RequestFrame.readHeadMap : RequestFrame.Statement .readHeadMap :=
  requestFrame_some rfl (Nat.le_of_ble_eq_true rfl) (Nat.le_of_ble_eq_true rfl) (Nat.le_of_ble_eq_true rfl) rfl nofun

theorem RequestFrame.statusReadComplete (answered : Bool) :
    RequestFrame.Statement (.statusReadComplete answered) := requestFrame_none rfl

theorem RequestFrame.blockReadRetry : RequestFrame.Statement .blockReadRetry := requestFrame_none rfl

theorem RequestFrame.blockReadComplete (data : ReadData) :
    RequestFrame.Statement (.blockReadComplete data) := requestFrame_none rfl

theorem RequestFrame.writeCompareMismatch : RequestFrame.Statement .writeCompareMismatch := requestFrame_none rfl

theorem RequestFrame.blockWriteAttemptComplete (matched : Bool) :
    RequestFrame.Statement (.blockWriteAttemptComplete matched) := requestFrame_none rfl

theorem RequestFrame.storePatrolExpiry : RequestFrame.Statement .storePatrolExpiry := requestFrame_none rfl

theorem RequestFrame.delete (document : Byte) : RequestFrame.Statement (.delete document) :=
  requestFrame_some rfl (Nat.le_of_ble_eq_true rfl) (Nat.le_of_ble_eq_true rfl) (Nat.le_of_ble_eq_true rfl) rfl nofun

theorem RequestFrame.formatStore : RequestFrame.Statement .formatStore :=
  requestFrame_some rfl (Nat.le_of_ble_eq_true rfl) (Nat.le_of_ble_eq_true rfl) (Nat.le_of_ble_eq_true rfl) rfl nofun

theorem RequestFrame.remount : RequestFrame.Statement .remount :=
  requestFrame_some rfl (Nat.le_of_ble_eq_true rfl) (Nat.le_of_ble_eq_true rfl) (Nat.le_of_ble_eq_true rfl) rfl nofun

theorem RequestFrame.storeReadBlock (index : Half) : RequestFrame.Statement (.storeReadBlock index) :=
  requestFrame_some rfl (Nat.le_of_ble_eq_true rfl) (Nat.le_of_ble_eq_true rfl) (Nat.le_of_ble_eq_true rfl) rfl nofun

theorem RequestFrame.storeInfo : RequestFrame.Statement .storeInfo :=
  requestFrame_some rfl (Nat.le_of_ble_eq_true rfl) (Nat.le_of_ble_eq_true rfl) (Nat.le_of_ble_eq_true rfl) rfl nofun

theorem RequestFrame.docList : RequestFrame.Statement .docList :=
  requestFrame_some rfl (Nat.le_of_ble_eq_true rfl) (Nat.le_of_ble_eq_true rfl) (Nat.le_of_ble_eq_true rfl) rfl nofun

theorem RequestFrame.docInfo (document : Byte) : RequestFrame.Statement (.docInfo document) :=
  requestFrame_some rfl (Nat.le_of_ble_eq_true rfl) (Nat.le_of_ble_eq_true rfl) (Nat.le_of_ble_eq_true rfl) rfl nofun

theorem RequestFrame.send (document : Byte) : RequestFrame.Statement (.send document) :=
  requestFrame_some rfl (Nat.le_of_ble_eq_true rfl) (Nat.le_of_ble_eq_true rfl) (Nat.le_of_ble_eq_true rfl) rfl nofun

theorem RequestFrame.stopSend : RequestFrame.Statement .stopSend :=
  requestFrame_some rfl (Nat.le_of_ble_eq_true rfl) (Nat.le_of_ble_eq_true rfl) (Nat.le_of_ble_eq_true rfl) rfl nofun

theorem RequestFrame.reprint (document mode : Byte) : RequestFrame.Statement (.reprint document mode) :=
  requestFrame_some rfl (Nat.le_of_ble_eq_true rfl) (Nat.le_of_ble_eq_true rfl) (Nat.le_of_ble_eq_true rfl) rfl nofun

theorem RequestFrame.stopReprint : RequestFrame.Statement .stopReprint :=
  requestFrame_some rfl (Nat.le_of_ble_eq_true rfl) (Nat.le_of_ble_eq_true rfl) (Nat.le_of_ble_eq_true rfl) rfl nofun

theorem RequestFrame.composeStart (document append : Byte) : RequestFrame.Statement (.composeStart document append) :=
  requestFrame_some rfl (Nat.le_of_ble_eq_true rfl) (Nat.le_of_ble_eq_true rfl) (Nat.le_of_ble_eq_true rfl) rfl nofun

theorem RequestFrame.composeEnd : RequestFrame.Statement .composeEnd :=
  requestFrame_some rfl (Nat.le_of_ble_eq_true rfl) (Nat.le_of_ble_eq_true rfl) (Nat.le_of_ble_eq_true rfl) rfl nofun

theorem RequestFrame.supplyMeasurement (volts : Nat) (therm : Therm) (moment : Resumption) :
    RequestFrame.Statement (.supplyMeasurement volts therm moment) := requestFrame_none rfl

theorem RequestFrame.powerOn : RequestFrame.Statement .powerOn := requestFrame_none rfl

theorem RequestFrame.startUp (volts : Nat) (therm : Therm) (paper : Bool) :
    RequestFrame.Statement (.startUp volts therm paper) := requestFrame_none rfl

theorem RequestFrame.reset : RequestFrame.Statement .reset :=
  requestFrame_some rfl (Nat.le_of_ble_eq_true rfl) (Nat.le_of_ble_eq_true rfl) (Nat.le_of_ble_eq_true rfl) rfl nofun

theorem RequestFrame.identify : RequestFrame.Statement .identify :=
  requestFrame_some rfl (Nat.le_of_ble_eq_true rfl) (Nat.le_of_ble_eq_true rfl) (Nat.le_of_ble_eq_true rfl) rfl nofun

theorem RequestFrame.getStatus (sectionNumber : Byte) : RequestFrame.Statement (.getStatus sectionNumber) :=
  requestFrame_some rfl (Nat.le_of_ble_eq_true rfl) (Nat.le_of_ble_eq_true rfl) (Nat.le_of_ble_eq_true rfl) rfl nofun

theorem RequestFrame.setParameter (id : Byte) (value : Half) : RequestFrame.Statement (.setParameter id value) :=
  requestFrame_some rfl (Nat.le_of_ble_eq_true rfl) (Nat.le_of_ble_eq_true rfl) (Nat.le_of_ble_eq_true rfl) rfl nofun

theorem RequestFrame.getParameter (id : Byte) : RequestFrame.Statement (.getParameter id) :=
  requestFrame_some rfl (Nat.le_of_ble_eq_true rfl) (Nat.le_of_ble_eq_true rfl) (Nat.le_of_ble_eq_true rfl) rfl nofun

theorem RequestFrame.readFaults : RequestFrame.Statement .readFaults :=
  requestFrame_some rfl (Nat.le_of_ble_eq_true rfl) (Nat.le_of_ble_eq_true rfl) (Nat.le_of_ble_eq_true rfl) rfl nofun

theorem RequestFrame.clearFaults : RequestFrame.Statement .clearFaults :=
  requestFrame_some rfl (Nat.le_of_ble_eq_true rfl) (Nat.le_of_ble_eq_true rfl) (Nat.le_of_ble_eq_true rfl) rfl nofun

theorem RequestFrame.unknownRequest (kind : Byte) (payload : List Byte) :
    RequestFrame.Statement (.unknownRequest kind payload) := by
  intro hw r h
  simp only [requestOf, Option.some.injEq] at h
  subst h
  simp only [Instr.wf, unknownOk, Bool.and_eq_true, decide_eq_true_eq] at hw
  obtain ⟨⟨⟨h1, h2⟩, h3⟩, h4⟩ := hw
  refine ⟨h1, h2, h3, iff_of_true ?_ ⟨_, _, rfl⟩⟩
  unfold unknownOutcome
  cases hc : catalogueLengths kind.toNat with
  | none => rfl
  | some b =>
    obtain ⟨lo, hi⟩ := b
    simp only [hc, Bool.or_eq_true, decide_eq_true_eq] at h4
    show Option.isSome (if (decide (lo ≤ payload.length) && decide (payload.length ≤ hi)) = true then none
      else some ReplyCode.badLength) = true
    rw [if_neg (by simp only [Bool.and_eq_true, decide_eq_true_eq]; omega)]
    rfl

theorem RequestFrame.linkByteReceived (byte : Byte) (goodStop : Bool) :
    RequestFrame.Statement (.linkByteReceived byte goodStop) := requestFrame_none rfl

theorem RequestFrame.gapTimeout : RequestFrame.Statement .gapTimeout := requestFrame_none rfl

theorem RequestFrame.linkFrameSent : RequestFrame.Statement .linkFrameSent := requestFrame_none rfl

theorem RequestFrame.candidateStartBit : RequestFrame.Statement .candidateStartBit := requestFrame_none rfl

theorem RequestFrame.falseStart : RequestFrame.Statement .falseStart := requestFrame_none rfl

end Sys2Proof.Laws
end

