-- ==== Sys2Proof/Tests/Slice0.lean ====
section
/-! SUPPORT. Tests: ill-formed commands that `Instr.wf` refuses, the worked examples of spec/ (each names its rule), and for
every statement with hypotheses a state and operands that meet them, clause by clause at the boundary values. -/

namespace Sys2Proof.Tests

-- One test after another: many kernel evaluations at once ask for more threads than the check's memory has room for.
set_option Elab.async false

open Sys2Proof.Machine

/-! ### Well-formedness: one refused command for each check, beside one that is accepted -/

theorem test_wf_measurements :
    Instr.wf (.carrierMeasurement 64) = false ∧ Instr.wf (.carrierMeasurement 63) = true ∧
    Instr.wf (.supplyMeasurement 12010 (.temp 20) ⟨7000, {}⟩) = false ∧
    Instr.wf (.supplyMeasurement 7005 (.temp 20) ⟨7000, {}⟩) = false ∧
    Instr.wf (.supplyMeasurement 7000 (.temp 126) ⟨7000, {}⟩) = false ∧
    Instr.wf (.supplyMeasurement 7000 (.temp 20) ⟨15, {}⟩) = false ∧
    Instr.wf (.supplyMeasurement 7000 (.temp 20) ⟨7000, { supply := some (7000, .temp 20) }⟩) = false ∧
    Instr.wf (.supplyMeasurement 12000 (.temp 125) ⟨0, { paper := some true }⟩) = true ∧ Instr.wf (.startUp 5205 .shorted true) = false ∧
    Instr.wf (.startUp 5200 (.temp (-41)) true) = false := by decide

theorem test_wf_lengths :
    Instr.wf (.receiveCharacterComplete [List.replicate 100 ⟨1, 0⟩, List.replicate 53 ⟨1, 0⟩]) = false ∧
    Instr.wf (.receiveCharacterComplete [List.replicate 100 ⟨1, 0⟩, List.replicate 54 ⟨1, 0⟩]) = true ∧
    Instr.wf (.transmitText []) = false ∧ Instr.wf (.printText (List.replicate 241 0x41)) = false ∧
    Instr.wf (.transmitText (List.replicate 240 0x41)) = true ∧ Instr.wf (.setAnswerback (List.replicate 25 0x41)) = false ∧
    Instr.wf (.blockReadComplete (.bytes [0x00])) = false ∧ Instr.wf (.unknownRequest 0x01 []) = false ∧
    Instr.wf (.unknownRequest 0x40 []) = false ∧ Instr.wf (.unknownRequest 0x0D []) = true := by decide +kernel

theorem test_wf_snapshot_volts :
    Instr.wf (.translateKeyHead 5) = false ∧ Instr.wf (.feedRepeatExpiry 64 7000) = false ∧
    Instr.wf (.feedRepeatExpiry 0 5) = false ∧ Instr.wf (.composerTakeHead 5) = false ∧
    Instr.wf (.idleFlushExpiry 5) = false ∧ Instr.wf (.paperFeed 1 5) = false ∧ Instr.wf (.dotLineComplete 5) = false ∧
    Instr.wf (.paperPresentExpiry ⟨5, {}⟩) = false ∧ Instr.wf (.clearHead ⟨5, {}⟩) = false ∧
    Instr.wf (.clearHead ⟨7000, { supply := some (7005, .temp 20) }⟩) = false ∧
    Instr.wf (.paperPresentExpiry ⟨7000, { supply := some (7000, .temp 126) }⟩) = false ∧
    Instr.wf (.clearHead ⟨7000, { paper := some true, supply := some (7000, .temp 20) }⟩) = true := by
  decide

/-! ### States the tests start from -/

/-- A part that runs, at its reset values. -/
def run : State := { held := none }

/-- The same with a connection. -/
def online : State := { run with modem := { state := .connected, role := some .originate, level := 30 } }

/-- The same with a formatted store. -/
def ready : State := { run with store := { state := .ready, patrolTimer := .running 10 } }

/-- The same with the Engine printing the first dot line of a line of text. -/
def printing : State :=
  { run with
    engine := { state := .printing, position := some 0, inFlight := true }
    comp := { output := [.text (Vector.replicate 80 [])] } }

/-- `p` holds of the state that a command answers. -/
def after (c : Instr) (s : State) (p : State → Bool) : Bool :=
  match exec c s with
  | .next t => p t
  | .fault _ => false
  | .refused _ => false

/-- What `Turn` asks, as a check. -/
def turnOk (c : Instr) (s : State) : Bool :=
  s.held = none && s.link.reply = none && s.store.linkRead = none &&
    (requestOf c).any fun r => s.link.queue = [] || s.link.queue.head? = some r

/-- The check decides `Turn`, so a witness that passes it meets the hypothesis. -/
theorem turnOk_iff (c : Instr) (s : State) : turnOk c s = true ↔ Turn c s := by
  simp only [turnOk, Bool.and_eq_true, decide_eq_true_eq, Option.any_eq_true, Bool.or_eq_true]
  constructor
  · rintro ⟨⟨⟨h1, h2⟩, h3⟩, r, h4, h5⟩
    exact ⟨h1, h2, h3, r, h4, h5⟩
  · rintro ⟨h1, h2, h3, r, h4, h5⟩
    exact ⟨⟨⟨h1, h2⟩, h3⟩, r, h4, h5⟩

/-! ### Worked examples of spec/ -/

/-- R133: the check of the digits 1 to 9. -/
theorem test_check_of_the_digits : crc [0x31, 0x32, 0x33, 0x34, 0x35, 0x36, 0x37, 0x38, 0x39] = 0x29B1 := by decide +kernel

/-- R102's table: M = 35 and block counts 12, 40, 0, 25, 8, 10, 3, 0. -/
theorem test_firing_groups : firingGroups 35 [12, 40, 0, 25, 8, 10, 3, 0] = [[0], [1], [3, 4], [5, 6]] := by decide

/-- R97's table at the defaults and 25 °C: 7200 mV gives 48 µs, 6000 mV gives 69 µs. -/
theorem test_slice_lengths :
    sliceLength (fullOnTime (dotEnergy 3 25) 120 7200) = 48 ∧ sliceLength (fullOnTime (dotEnergy 3 25) 120 6000) = 69 := by
  decide

/-- R100: dot 80 between dead dots 79 and 81: 10 + 3 + 3 capped at 13 without history, 7 + 3 + 3 with it. -/
theorem test_boost_across_a_block_boundary :
    let all : Dots := BitVec.allOnes 640
    sliceCount all 0 0 [79, 81] 80 = 13 ∧ sliceCount all all all [79, 81] 80 = 13 ∧ sliceCount all 0 0 [79, 81] 79 = 0 ∧
    sliceCount all 0 0 [79, 81] 78 = 13 ∧ sliceCount all all 0 [79] 80 = 11 := by decide +kernel

/-- Section 6.8, the first worked case: 6840 mV, 40 °C, dead dot 251, block counts 12, 40, 0, 25, 8, 10, 3, 0, blocks 5 and 6
fired in the previous dot line. -/
theorem test_worked_plan :
    let block (n : Nat) : List Bool := List.replicate n true ++ List.replicate (80 - n) false
    let block3 : List Bool := List.replicate 11 false ++ List.replicate 26 true ++ List.replicate 43 false
    let raster : Dots := dotsOf (block 12 ++ block 40 ++ block 0 ++ block3 ++ block 8 ++ block 10 ++ block 3 ++ block 0)
    let h1 : Dots := dotsOf (block 0 ++ block 0 ++ block 0 ++ block 0 ++ block 0 ++ block 80 ++ block 80)
    let plan := computePlan (burnVolts 6840) (burnCelsius (.temp 40)) {} .normal raster h1 0 [251]
    plan.1.slice = 45 ∧ plan.2.dotCurrent = 57 ∧ plan.2.dotLimit = 35 ∧ plan.1.period = 3045 ∧
    plan.1.groups = [⟨[0], 10⟩, ⟨[1], 10⟩, ⟨[3, 4], 13⟩, ⟨[5, 6], 8⟩] ∧
    plan.1.counts.getD 251 1 = 0 ∧ plan.1.counts.getD 252 0 = 13 := by decide +kernel

/-- R170: 5400 and 6000 mV are the thresholds at their defaults, and recovery needs 200 mV more. -/
theorem test_power_states :
    nextPower .normal 6000 5400 5990 = .low ∧ nextPower .normal 6000 5400 6000 = .normal ∧
    nextPower .low 6000 5400 6190 = .low ∧ nextPower .low 6000 5400 6200 = .normal ∧
    nextPower .low 6000 5400 5390 = .critical ∧ nextPower .critical 6000 5400 5590 = .critical ∧
    nextPower .critical 6000 5400 5600 = .low := by decide

/-- The default format. -/
def format : LineFormat := ⟨.even, 1, false⟩

/-- Section 2.4's worked example: the samples of A with a click at sample 56 give 41h; at 55 and 56 both they give 45h, poisoned. -/
theorem test_receive_with_a_click :
    entryOf format (flipped (sampled format 0x41) 56) = ⟨0x41, false, false, false⟩ ∧
    entryOf format (flipped (flipped (sampled format 0x41) 55) 56) = ⟨0x45, false, true, false⟩ ∧
    (sampled format 0x41).length = 154 := by decide +kernel

/-- What is heard while the line shows mark or space. -/
def tone (mark : Bool) : Sound := if mark then ⟨1, 0⟩ else ⟨0, 1⟩

/-- What is heard of a character sent in a format. -/
def heard (f : LineFormat) (c : Code) : List Sound :=
  ((lineStates f c).flatMap fun m => List.replicate 16 (tone m)).take f.samples

/-- A connected part whose sampler assembles a character, through these modem states. -/
def receiving (states : List ModemState) : State :=
  { run with
    modem := { state := .connected, role := some .originate, level := 30 }
    framer := { sampler := .character format states } }

/-- R12, R22: a character is placed unpoisoned when CONNECTED lasts, and poisoned when a dropout of four decisions lies within
it. -/
theorem test_dropout_within_a_character_poisons :
    let h := heard format 0x41
    after (.receiveCharacterComplete [h]) (receiving [.connected]) (fun t =>
      t.framer.rxFifo = [⟨0x41, false, false, false⟩]) = true ∧
    after (.receiveCharacterComplete [h.take 100, (h.drop 100).take 4, h.drop 104]) (receiving [.connected, .dropout, .connected])
      (fun t => (t.framer.rxFifo.map (·.poisoned)) = [true]) = true := by decide +kernel

/-- R9, R23: DROPOUT ends a break watch: the break is not received, and the held character is placed. -/
theorem test_dropout_ends_a_break_watch :
    let watch (forced : Bool) : State :=
      { online with framer := { sampler := .breakWatch format ⟨0x00, false, true, false⟩ forced } }
    after (.carrierMeasurement 13) (watch false) (fun t =>
      t.framer.sampler = .breakWatch format ⟨0x00, false, true, false⟩ true) = true ∧
    after .breakReceived (watch true) (fun t => t = watch true) = true ∧
    after .breakWatchMark (watch true) (fun t => (t.framer.rxFifo.map (·.code)) = [0x00]) = true := by decide +kernel

/-- The reset values that R1, R36, R108 and R153 give. -/
theorem test_reset :
    State.reset.held = some .powerOn ∧ State.reset.modem.state = .idle ∧ State.reset.framer.rxFifo = [] ∧
    State.reset.engine.state = .idle ∧ State.reset.store.state = .mounting ∧ State.reset.link.queue = [] := by decide

/-- R4, R7: at the on threshold of 18 the qualify timer starts with 1200 ms; at 17 it stops. -/
theorem test_qualify_timer :
    let s : State := { run with modem := { state := .waitCarrier, role := some .originate } }
    after (.carrierMeasurement 18) s (fun t => t.modem.qualify = .running 1200) = true ∧
    after (.carrierMeasurement 17) s (fun t => t.modem.qualify = .stopped) = true := by decide +kernel

/-- R25, R26: a character that completes with 16 entries in the FIFO is discarded and sets the overrun flag. -/
theorem test_overrun_begins :
    let e : Entry := ⟨0x41, false, false, false⟩
    let s : State := { run with framer := { rxFifo := List.replicate 16 e } }
    (placeEntry e s).framer.rxFifo.length = 16 ∧ (placeEntry e s).framer.overrun = true := by decide +kernel

/-- R27: the removal that leaves 12 entries ends the overrun and places the gap entry. -/
theorem test_overrun_ends :
    let e : Entry := ⟨0x41, false, false, false⟩
    let s : State := { run with framer := { rxFifo := List.replicate 13 e, overrun := true } }
    (removeHead s).framer.rxFifo = List.replicate 12 e ++ [⟨0x1A, false, true, true⟩] ∧
    (removeHead s).framer.overrun = false := by decide +kernel

/-- Section 2.5's worked example: k1 ends, so k2 is shifted and SEND is next in order while the keyboard FIFO is empty. -/
theorem test_shift_takes_the_holding_stage :
    let s : State := { online with framer := { shift := some ⟨0x61, []⟩, holding := some 0x62, linkText := [0x63] } }
    after .shiftStageEmpties s (fun t => (t.framer.shift.map (·.code)) = some 0x62 && t.framer.holding = none) = true := by
  decide +kernel

/-- R59, R61: an unshifted A key in FULL sends 61h. -/
theorem test_key_to_the_line :
    let s : State := { online with kbd := { mode := .full, events := [⟨24, .make⟩] } }
    after (.translateKeyHead 7000) s (fun t => t.kbd.txFifo = [0x61] && t.kbd.events = []) = true := by decide +kernel

/-- R85: HT from column 8 with the default tab interval goes to column 16. -/
theorem test_tab :
    let s : State := { run with comp := { queue := [⟨0x09, false, false, .link⟩], column := 8 } }
    after (.composerTakeHead 7000) s (fun t => t.comp.column = 16) = true := by decide +kernel

/-- R110 to R112: an LF of a line of text on an IDLE Engine starts dot line 0 of the job. -/
theorem test_line_feed_starts_the_engine :
    let s : State := { run with comp := { queue := [⟨0x0A, false, false, .link⟩] } }
    after (.composerTakeHead 7000) s (fun t =>
      t.engine.state = .printing && t.engine.position = some 0 && t.engine.inFlight && t.strobe.plan.isSome) = true := by
  decide +kernel

/-- Section 8.5's worked sequence: element 251 reads OPEN for the third time at threshold 3. -/
theorem test_third_failure_marks :
    let s : State := { run with head :=
      { index := 251, measuring := true, records := put (Vector.replicate 8 {}) 3 { count := 2 } } }
    after (.elementMeasurementComplete 306000) s (fun t =>
      t.head.last = some ⟨.opened, 251, 255⟩ && nth t.head.records 3 {} = ⟨0, some 251, false, true, 0⟩) = true := by
  decide +kernel

/-- R124: a resistance of 120 Ω is 100 % of a head resistance of 120 Ω, 150 % of 80 Ω and 60 % of 200 Ω. -/
theorem test_head_resistance_shifts_readings :
    let s (ohms : Nat) : State := { run with params := { headResistance := ohms }, head := { measuring := true } }
    let reads (n : Nat) (t : State) : Bool := (t.head.last.map (·.reading)) = some n
    after (.elementMeasurementComplete 120000) (s 120) (reads 100) = true ∧
    after (.elementMeasurementComplete 120000) (s 80) (reads 150) = true ∧
    after (.elementMeasurementComplete 120000) (s 200) (reads 60) = true := by decide +kernel

/-- Section 8.5's worked sequence: element 256 reads SHORT for the third time in a block marked at 251. -/
theorem test_second_element_degrades :
    let s : State := { run with head :=
      { index := 256, measuring := true, records := put (Vector.replicate 8 {}) 3 { count := 2, mark := some 251 } } }
    after (.elementMeasurementComplete 0) s (fun t =>
      nth t.head.records 3 {} = ⟨3, some 251, true, true, 0⟩ &&
      (t.faults.map (·.first)) = some .headDegraded) = true := by decide +kernel

/-- R144: a data write's block holds the document, sequence and fill in its first bytes, and passes its check. -/
theorem test_data_write :
    let w : DataWrite := ⟨4, 0, 0x01, [0x41, 0x42], none⟩
    let s : State := { ready with store :=
      { ready.store with inFlight := some { claimant := .compose, op := .dataWrite w, block := 7 } } }
    after (.blockWriteAttemptComplete true) s (fun t =>
      (blockBytes t.mem 7).take 6 = [0x04, 0x00, 0x02, 0x01, 0x41, 0x42] && passesCheck (blockBytes t.mem 7)) = true := by
  decide +kernel

/-- R47, R161: a buffer of TAKE that becomes FREE takes the text head that waits for room, in the same step. -/
theorem test_freed_buffer_takes_the_waiting_head :
    let w : DataWrite := ⟨4, 0, 0, List.replicate 58 0x41, none⟩
    let s : State := { ready with
      modem := { state := .connected, role := some .originate, level := 30 }
      framer := { rxFifo := [⟨0x42, false, false, false⟩] }
      disp := { route := .store 4, headExamined := true }
      take := { docs := [{ document := 4, nextSeq := 2 }], bufA := some ⟨4, 0, w.chars, true, false⟩,
                bufB := some ⟨4, 1, w.chars, true, false⟩, write := some { document := 4, seq := 0 } }
      store := { ready.store with inFlight := some { claimant := .take, op := .dataWrite w, block := 7 } } }
    after (.blockWriteAttemptComplete true) s (fun t =>
      t.framer.rxFifo = [] && t.take.bufA = some ⟨4, 2, [0x42], false, false⟩) = true := by decide +kernel

/-- R76: after LINK's LF its next character waits, and LINK is above REPRINT. -/
theorem test_link_competes_again :
    let s : State := { run with
      comp := { owner := some .link, linkPrint := [0x0A, 0x41] }
      reprint := { document := some 1, reader := { bufA := .loaded 0 1 [.char 0x41 false], asked := 1 } } }
    after (.printDeposit false) s (fun t => t.comp.owner = some .link) = true := by decide +kernel

/-- R115: the paper timer ends and the sensor reads empty at the same moment: the Engine holds and starts no dot line. -/
theorem test_empty_reading_as_the_timer_ends :
    let s : State := { printing with engine :=
      { state := .paperOut, position := some 3, paperCond := true, paperTimer := .running 500 } }
    after (.paperPresentExpiry ⟨7000, { paper := some false }⟩) s (fun t =>
      t.engine.state = .paperOut && t.engine.paperCond && !t.engine.inFlight) = true ∧
    after (.paperPresentExpiry ⟨7000, {}⟩) s (fun t =>
      t.engine.state = .printing && t.engine.inFlight && t.engine.halfSteps = 2) = true := by decide +kernel

/-- R182: the reply to Identify. -/
theorem test_identify :
    after .identify run (fun t => t.link.reply = some ⟨0x01, [0x00, 0x08, 0x50, 0x01, 0x02, 0x00, 0x02, 0x80]⟩ &&
      (t.link.sending.map (·.kind)) = some 0x81) = true := by decide +kernel

/-- R173: the release of a reset sends Started: cause, power state, voltage 7000 = 1B58h. -/
theorem test_started :
    after (.startUp 7000 (.temp 25) true) State.reset (fun t =>
      (t.link.sending.map fun f => (f.kind, f.payload)) = some (0x40, [0x00, 0x00, 0x1B, 0x58]) && t.held = none) = true := by
  decide +kernel

/-- R171: below 5000 mV the part is reset. -/
theorem test_brownout :
    after (.supplyMeasurement 4990 (.temp 20) ⟨7000, {}⟩) online (fun t =>
      t.held = some .brownout && t.modem.state = .idle && t.supply.volts = 4990) = true := by decide +kernel

/-- The step takes the front command, and idles on an empty queue. -/
theorem test_step_takes_the_front :
    step { run with pending := [.connect 0, .drop] } = exec (.connect 0) { run with pending := [.drop] } ∧
    step run = .next run := ⟨rfl, rfl⟩

/-! ### Witnesses: states and operands that meet the hypotheses of each statement, clause by clause -/

/-- A part that waits for a carrier. -/
def waiting : State :=
  { run with modem := { state := .waitCarrier, role := some .answer, qualify := .running 1200, connect := .running 30 } }

/-- A part whose carrier has dropped. -/
def dropped : State := { run with modem := { state := .dropout, role := some .answer, loss := .running 400 } }

/-- `s` with this receive FIFO. -/
def withFifo (l : List Entry) (s : State) : State := s.setFramer { s.framer with rxFifo := l }

/-- A text entry. -/
def text (c : Code) : Entry := ⟨c, false, false, false⟩

/-- `s` with document `n`'s directory entry. -/
def withDoc (n : Nat) (e : DirEntry) (s : State) : State := setDirEntry n e s

/-- A document of one block, closed. -/
def closedDoc : DirEntry := { state := .closed, blocks := [⟨0, 7, 58, 0x01⟩] }

/-- The store port has an operation in flight. -/
def withPort (f : InFlight) (s : State) : State := s.setStore { s.store with inFlight := some f }

theorem test_witness_HeldPartIgnoresCommands :
    State.reset.held ≠ none ∧ (∀ v t w, Instr.drop ≠ .supplyMeasurement v t w) ∧ Instr.drop ≠ .powerOn ∧
    (∀ v t p, Instr.drop ≠ .startUp v t p) := by
  refine ⟨by decide, ?_, by decide, ?_⟩ <;> intros <;> simp

theorem test_witness_IdleStepsAndCommandsOutOfPlaceChangeNothing :
    run.pending = [] ∧ run.modem.state = .idle ∧ run.modem.state ≠ .waitCarrier ∧ run.modem.state ≠ .dropout ∧
    connected run = false ∧ run.framer.rxFifo = [] ∧ run.kbd.events = [] ∧ run.comp.queue = [] ∧ run.comp.owner = none ∧
    run.engine.inFlight = false ∧ run.store.inFlight = none ∧ run.link.sending = none := by decide

theorem test_witness_CarrierMeasurementActsByModemState :
    17 ≤ 63 ∧ waiting.held = none ∧ waiting.modem.state = .waitCarrier ∧ waiting.params.onThreshold ≤ 18 ∧
    17 < waiting.params.onThreshold ∧ online.held = none ∧ online.modem.state = .connected ∧
    13 < online.params.offThreshold ∧ online.params.offThreshold ≤ 14 ∧ dropped.held = none ∧
    dropped.modem.state = .dropout ∧ dropped.params.onThreshold ≤ 18 ∧ 17 < dropped.params.onThreshold := by decide

theorem test_witness_CallIsMade :
    turnOk (.connect 2) run = true ∧ 1 < (2 : Byte).toNat ∧ turnOk (.connect 1) online = true ∧ (1 : Byte).toNat ≤ 1 ∧
    online.modem.state ≠ .idle ∧ turnOk (.connect 0) run = true ∧ turnOk (.connect 1) run = true ∧ run.modem.state = .idle ∧
    waiting.held = none ∧ waiting.modem.state = .waitCarrier ∧ waiting.modem.qualify ≠ .stopped ∧
    waiting.disp.progress = none ∧ waiting.kbd.txFifo = [] ∧ sendOffer waiting = none ∧ waiting.framer.linkText = [] ∧
    ({ waiting with framer := { linkText := [0x61] } } : State).framer.linkText = [0x61] ∧
    ({ waiting with framer := { linkText := [0x61, 0x62] } } : State).framer.linkText = 0x61 :: 0x62 :: [] := by decide

theorem test_witness_CallEnds :
    waiting.held = none ∧ waiting.modem.state = .waitCarrier ∧ waiting.modem.connect ≠ .stopped ∧
    dropped.held = none ∧ dropped.modem.state = .dropout ∧ dropped.modem.loss ≠ .stopped ∧
    turnOk .drop run = true ∧ run.modem.state = .idle ∧ turnOk .drop waiting = true ∧
    turnOk .drop online = true ∧ online.modem.state = .connected ∧ turnOk .drop dropped = true := by decide

/-- What is heard of a character that is space throughout. -/
def silence : List Sound := List.replicate 154 (tone false)

theorem test_witness_SamplerReceivesCharactersAndBreaks :
    let s := receiving [.connected]
    let h := heard format 0x41
    let dropout : List ModemState := [.connected, .dropout, .connected]
    let watch (forced : Bool) : State :=
      { online with framer := { sampler := .breakWatch format ⟨0x00, false, true, false⟩ forced } }
    online.held = none ∧ online.framer.sampler = .hunting ∧ online.modem.state = .connected ∧
    s.framer.sampler = .character format [.connected] ∧ (receiving dropout).framer.sampler = .character format dropout ∧
    isCharacter format [.connected] [silence] = true ∧ allSpace (decisionsOf [.connected] [silence]) = true ∧
    isCharacter format [.connected] [h] = true ∧ allSpace (decisionsOf [.connected] [h]) = false ∧
    isCharacter format dropout [h.take 100, (h.drop 100).take 4, h.drop 104] = true ∧
    (∃ m ∈ dropout, m ≠ .connected) ∧
    (watch false).framer.sampler = .breakWatch format ⟨0x00, false, true, false⟩ false ∧
    (watch true).framer.sampler = .breakWatch format ⟨0x00, false, true, false⟩ true ∧ (watch false).modem.state = .connected ∧
    ({ online with framer := { sampler := .markWait } } : State).framer.sampler = .markWait := by
  decide +kernel

theorem test_witness_ReceiveFifoPlacesDiscardsAndRecovers :
    let s (n : Nat) (o : Bool) : State := { run with framer := { rxFifo := List.replicate n (text 0x41), overrun := o } }
    (s 16 true).framer.overrun = true ∧ 16 ≤ (s 16 false).framer.rxFifo.length ∧ (s 15 false).framer.rxFifo.length < 16 ∧
    (s 13 true).framer.rxFifo.length ≤ 13 ∧ 14 ≤ (s 14 true).framer.rxFifo.length ∧ (s 1 false).framer.overrun = false := by
  decide +kernel

theorem test_witness_OneWrongDecisionIsOutvoted :
    let wrong (i : Nat) : List Sound := (heard format 0x41).set i (tone (!markAt (sampled format 0x41) i))
    1 ≤ format.stopBits ∧ decisionsOf [.connected] [heard format 0x41] = sampled format 0x41 ∧
    ∀ i ∈ [0, 7, 8, 9, 153, 154], decisionsOf [.connected] [wrong i] = flipped (sampled format 0x41) i := by decide +kernel

theorem test_witness_HeadIsExaminedInOrder :
    let s (e : Entry) : State := withFifo [e] { online with disp := { answerback := [0x41] } }
    let flow (e : Entry) : Prop := (s e).params.flowControl = true ∧ e.poisoned = false
    (s (text 0x41)).held = none ∧ (s (text 0x41)).framer.rxFifo = [text 0x41] ∧
    (s (text 0x41)).disp.headExamined = false ∧
    (⟨0x41, true, true, false⟩ : Entry).routeBit = true ∧ (⟨0x41, true, false, false⟩ : Entry).poisoned = false ∧
    flow (text 0x13) ∧ (text 0x13).code = (s (text 0x13)).params.pauseCode ∧
    flow (text 0x11) ∧ (text 0x11).code ≠ (s (text 0x11)).params.pauseCode ∧
    (text 0x11).code = (s (text 0x11)).params.resumeCode ∧
    (text 0x05).code ≠ (s (text 0x05)).params.pauseCode ∧ (text 0x05).code ≠ (s (text 0x05)).params.resumeCode ∧
    (s (text 0x05)).disp.answerback ≠ [] ∧
    (text 0x41).code ≠ (s (text 0x41)).params.pauseCode ∧ (text 0x41).code ≠ (s (text 0x41)).params.resumeCode ∧
    (text 0x41).code ≠ 0x05 := by decide

theorem test_witness_DesignatorNamesTheRoute :
    let s : State := { ready with modem := online.modem }
    let home (n : Nat) (s : State) : State := s.setParams { s.params with defaultRoute := n }
    let d : TakeDoc := { document := 31 }
    let held : State := { s with disp := { route := .printStore 31 }, take := { docs := [d] } }
    s.disp.headExamined = false ∧ reportEnabled 2 s = true ∧ s.disp.route ≠ .store 1 ∧ s.disp.route ≠ .printStore 31 ∧
    ({ s with disp := { route := .store 1 } } : State).disp.route = .store 1 ∧ connected run = false ∧ connected s = true ∧
    takeRefuses 1 (endRouteHold (.store 1) false s) = false ∧ takeRefuses 31 (endRouteHold (.printStore 31) false s) = false ∧
    takeRefuses 1 (endRouteHold (.store 1) false online) = true ∧
    (endRouteHold (.store 1) false online).take.held.map (·.document) ≠ some 1 ∧
    held.take.held = some d ∧ held.disp.route.document = some 31 ∧ held.take.held.map (·.document) = some 31 ∧
    Route.document (.store 1) ≠ some 31 ∧ Route.document (.store 31) = some 31 ∧
    run.params.defaultRoute = 0 ∧ (home 64 s).params.defaultRoute = 64 ∧ (home 1 run).params.defaultRoute = 1 ∧
    connected (home 1 run) = false ∧ connected (home 63 s) = true ∧ (home 63 s).params.defaultRoute = 31 + 32 ∧
    takeRefuses 1 (endRouteHold (.store 1) true (home 1 s)) = false ∧
    takeRefuses 31 (endRouteHold (.printStore 31) true (home 63 s)) = false ∧
    takeRefuses 31 (endRouteHold (.printStore 31) true (home 63 online)) = true ∧
    (endRouteHold (.printStore 31) true (home 63 online)).take.held.map (·.document) ≠ some 31 ∧
    reportEnabled 2 (home 63 online) = true := by decide +kernel

/-- A part whose TAKE fills a buffer for document 4, with a text head examined. -/
def taking (route : Route) (record : List Sink) (seq count : Nat) : State :=
  { withFifo [text 0x41] online with
    disp := { route := route, headExamined := true, record := record }
    take := { docs := [{ document := 4 }], bufA := some ⟨4, seq, List.replicate count 0x41, false, false⟩ } }

theorem test_witness_TextHeadGoesToTake :
    let s := taking (.store 4) [] 0 57
    let b : TakeBuf := ⟨4, 0, List.replicate 57 0x41, false, false⟩
    let o := taking (.store 4) [] 63 58
    let c : TakeBuf := ⟨4, 63, List.replicate 58 0x41, false, false⟩
    let w := taking (.store 4) [] 0 58
    let took (route : Route) (record : List Sink) : State := taking route record 0 0
    s.held = none ∧ s.framer.rxFifo = [text 0x41] ∧ s.disp.headExamined = true ∧ s.take.held.map (·.document) = some 4 ∧
    s.take.filling 4 = some b ∧ b.chars.length < 58 ∧ s.disp.route = .store 4 ∧ s.disp.record = [] ∧
    (taking (.printStore 4) [] 0 57).take.filling 4 = some b ∧ (taking (.printStore 4) [] 0 57).disp.record = [] ∧
    (taking (.printStore 4) [.print] 0 57).disp.record = [.print] ∧
    o.take.filling 4 = some c ∧ 58 ≤ c.chars.length ∧ c.seq = 63 ∧
    (took .discard []).disp.route = .discard ∧ (took .print [.print]).disp.route = .print ∧
    .print ∈ (took .print [.print]).disp.record ∧ .print ∉ (took .print []).disp.record ∧
    .store 4 ∈ (took (.store 4) [.store 4]).disp.record ∧
    .store 4 ∈ (took (.printStore 4) [.print, .store 4]).disp.record ∧
    .print ∈ (took (.printStore 4) [.print, .store 4]).disp.record ∧
    .store 4 ∈ (took (.printStore 4) [.store 4]).disp.record ∧ .print ∉ (took (.printStore 4) [.store 4]).disp.record ∧
    s.disp.route.document = some 4 ∧ .store 4 ∉ s.disp.record ∧ takeAnswer 4 s = .takes ∧ takeAnswer 4 o = .overflows ∧
    takeAnswer 4 w = .waits ∧ takeAnswer 4 (taking (.printStore 4) [.print] 0 57) = .takes ∧
    online.take.held.map (·.document) ≠ some 4 ∧ w.take.filling 4 = some ⟨4, 0, List.replicate 58 0x41, false, false⟩ ∧
    (taking (.store 4) [] 62 58).take.filling 4 = some ⟨4, 62, List.replicate 58 0x41, false, false⟩ ∧
    ({ w with take := { docs := [{ document := 4 }] } } : State).take.filling 4 = none ∧
    (⟨0x00, false, true, false⟩ : Entry).poisoned = true := by decide +kernel

theorem test_witness_FlowConditionsActOnTheFlowState :
    let s (n : Nat) (f : FlowState) (p : Option FlowCode) : State :=
      { withFifo (List.replicate n (text 0x41)) online with disp := { flow := f, pendingFlow := p } }
    connected run = false ∧ connected (s 12 .running none) = true ∧ (s 12 .running none).params.flowControl = true ∧
    pauseCondition (s 12 .running none) = true ∧ pauseCondition (s 12 .running (some .resume)) = true ∧
    resumeCondition (s 4 .pauseSent none) = true ∧ resumeCondition (s 4 .pauseSent (some .pause)) = true ∧
    pauseCondition (s 11 .running none) = false ∧ resumeCondition (s 5 .pauseSent none) = false := by decide +kernel

theorem test_witness_LineRequestsAreAnswered :
    let a : List Byte := List.replicate 240 0x7F
    let full (n : Nat) : State := { run with framer := { linkText := List.replicate n 0x41 } }
    turnOk (.transmitText [0x80]) run = true ∧ (∃ b ∈ ([0x80] : List Byte), 0x7F < b.toNat) ∧
    turnOk (.transmitText a) (full 17) = true ∧ (∀ b ∈ a, b.toNat ≤ 0x7F) ∧ a.length ≤ 240 ∧
    256 < (full 17).framer.linkText.length + a.length ∧ turnOk (.transmitText a) (full 16) = true ∧
    (full 16).framer.linkText.length + a.length ≤ 256 ∧ turnOk .sendBreak run = true ∧ connected run = false ∧
    turnOk .sendBreak online = true ∧ connected online = true ∧ online.framer.brk = .none ∧ online.framer.shift = none ∧
    ({ online with framer := { brk := .wait } } : State).framer.brk ≠ .none ∧
    ({ online with framer := { shift := some ⟨0x41, []⟩ } } : State).framer.shift ≠ none ∧
    turnOk (.setAnswerback (List.replicate 24 0x41)) run = true ∧ turnOk (.setAnswerback []) run = true ∧
    ({ run with disp := { progress := some 0 } } : State).disp.progress ≠ none ∧ run.disp.progress = none := by
  decide +kernel

theorem test_witness_TransmitterStagesAndBreakPhases :
    let s (h : Option Code) (b : BreakPhase) : State :=
      { online with framer := { shift := some ⟨0x41, []⟩, holding := h, brk := b } }
    (s none .none).held = none ∧ connected (s none .none) = true ∧ (s none .none).framer.shift ≠ none ∧
    (s none .none).framer.brk = .none ∧ (s none .none).framer.holding = none ∧
    (s (some 0x42) .none).framer.holding = some 0x42 ∧ (s none .wait).framer.brk = .wait ∧
    (s none (.space 250)).framer.brk = .space 250 ∧ (s none (.mark 10)).framer.brk = .mark 10 ∧
    (s (some 0x42) (.mark 10)).framer.brk = .mark 10 := by decide

theorem test_witness_HoldingStageFollowsTheOrder :
    let s : State := { online with framer := { shift := some ⟨0x41, []⟩ } }
    let sending : State := { s with send :=
      { current := some 1, reader := { bufA := .loaded 0 1 [.char 0x53 false], asked := 1 } } }
    s.held = none ∧ connected s = true ∧ s.framer.brk = .none ∧ s.framer.holding = none ∧ s.framer.shift ≠ none ∧
    ({ s with disp := { pendingFlow := some .pause } } : State).disp.pendingFlow = some .pause ∧
    ({ s with disp := { answerback := [0x41], progress := some 0 } } : State).disp.answerback[0]? = some 0x41 ∧
    s.disp.pendingFlow = none ∧ s.disp.progress = none ∧
    ({ s with kbd := { txFifo := [0x42] } } : State).kbd.txFifo = [0x42] ∧ s.kbd.txFifo = [] ∧ s.disp.remotePause = false ∧
    sendOffer sending = some 0x53 ∧ sendOffer s = none ∧
    (s.setFramer { s.framer with linkText := [0x43] }).framer.linkText = [0x43] ∧
    ({ s with disp := { remotePause := true } } : State).disp.remotePause = true ∧ online.framer.shift = none ∧
    sending.send.current = some 1 ∧ sending.send.reader.next = some (.char 0x53 false) ∧
    ({ s with send := { current := some 1, endCode := some 0x04 } } : State).send.reader.next = none ∧
    ({ s with send := { current := some 1, endCode := some 0x04 } } : State).send.endCode = some 0x04 := by
  decide +kernel

theorem test_witness_ThreeScansMakeOneKey :
    let s : State := { run with kbd := { events := List.replicate 15 ⟨0, .rep⟩ } }
    let down (p n : Nat) (u : Bool) (owed : List Nat) : State := { run with kbd :=
      { keys := put (Vector.replicate 64 {}) p { down := true, unreported := u }, events := List.replicate n ⟨0, .rep⟩,
        owed := owed } }
    let room (s : State) : Prop := s.kbd.events.length < 16 ∧ s.kbd.owed = []
    s.held = none ∧ 0 < 64 ∧ 63 < 64 ∧ s.kbd.keys = Vector.replicate 64 {} ∧ s.kbd.owed = [] ∧
    s.kbd.events.length < 16 ∧
    (down 63 16 true []).kbd.keys = put (Vector.replicate 64 {}) 63 { down := true, unreported := true } ∧
    (down 0 15 false []).kbd.keys = put (Vector.replicate 64 {}) 0 { down := true, unreported := false } ∧
    room (down 0 15 false []) ∧ ¬ room (down 63 16 false []) ∧ ¬ room (down 63 0 false [5]) ∧
    (keyRecord 63 (down 63 16 true [])).unreported = true ∧ (keyRecord 0 (down 0 15 false [])).unreported = false ∧
    (keyRecord 63 (down 63 16 false [])).unreported = false := by decide +kernel

/-- R58: the BREAK owed longest takes the place that the translator frees, and its key is up. -/
theorem test_owed_break_takes_the_freed_place :
    let s : State := { run with kbd :=
      { events := [⟨54, .make⟩, ⟨54, .brk⟩], owed := [24, 25],
        keys := put (Vector.replicate 64 {}) 24 { down := true, breakOwed := true } } }
    after (.translateKeyHead 7000) s (fun t =>
      t.kbd.events = [⟨54, .brk⟩, ⟨24, .brk⟩] && t.kbd.owed = [25] && keyRecord 24 t = {}) = true := by decide +kernel

/-- R62, R72: a head held in COMPOSE no longer waits for print input once a deposit of another claimant has had the Keyboard judge
it with compose-echo off. -/
theorem test_deposit_judges_the_held_head :
    let s : State := { run with
      params := { composeEcho := false }
      kbd := { mode := .compose, headJudged := true, events := [⟨24, .make⟩] }
      compose := { phase := .composing, document := 1 }
      comp := { owner := some .link, linkPrint := [0x41], keysEcho := true } }
    waitsFor .keys s = true ∧ after (.printDeposit false) s (fun t => !waitsFor .keys t) = true := by decide +kernel

theorem test_witness_RectangleWithholdsTheFourthKey :
    let s : State := { run with kbd :=
      { keys := put (put (put (Vector.replicate 64 {}) 1 { down := true }) 8 { down := true }) 9 { down := true } } }
    (∃ r c, r < 8 ∧ c < 8 ∧ r ≠ 0 / 8 ∧ c ≠ 0 % 8 ∧ (keyRecord (8 * r + 0 % 8) s).down = true ∧
      (keyRecord (8 * (0 / 8) + c) s).down = true ∧ (keyRecord (8 * r + c) s).down = true) ∧
    (∀ q < 64, (keyRecord q run).down = false) ∧ run.kbd.events.length < 16 ∧ run.kbd.owed = [] ∧
    16 ≤ (List.replicate 16 (⟨0, .rep⟩ : KeyEvent)).length ∧ ({ run with kbd := { owed := [5] } } : State).kbd.owed ≠ [] :=
  ⟨⟨1, 1, by decide +kernel⟩, by decide +kernel⟩

/-- A part with this code at the composer's head. -/
def composing (c : Code) (column : Nat) : State :=
  { run with comp := { queue := [⟨c, false, false, .link⟩], column := column } }

/-- The same with the Engine printing, `n` jobs in the output queue and, when `b`, content of the line's own in the buffer. -/
def composingBusy (c : Code) (n : Nat) (b : Bool) : State :=
  { run with
    params := { formLength := 66 }
    engine := printing.engine
    comp := { queue := [⟨c, false, false, .link⟩], output := List.replicate n (.feed 12 none), formCount := 10,
              lineSource := if b then some .line else none,
              cells := if b then put (Vector.replicate 80 []) 0 [⟨0x41, false, false⟩] else Vector.replicate 80 [] } }

/-- A part with this keyboard event at the translator's head. -/
def key (e : KeyEvent) (d : Option DownRecord) : State :=
  { run with kbd := { events := [e], downs := put (Vector.replicate 64 none) e.position d } }

theorem test_witness_FunctionKeysAndBreaks :
    let s (p : Nat) : State := key ⟨p, .make⟩ none
    let broken (shift : Option TxChar) : State :=
      { s 58 with modem := online.modem, framer := { shift := shift } }
    let feeds (n : Nat) (b : Bool) : State := { s 59 with comp := (composingBusy 0x41 n b).comp, engine := printing.engine }
    let dead : State := (s 53).setKbd { (s 53).kbd with plain := Vector.replicate 64 0 }
    let ends (p : ComposePhase) : State := { s 60 with compose := { phase := p } }
    let relay (e : KeyEvent) (d : Option DownRecord) (n : Nat) (m : KeyMode) : State :=
      (key e d).setKbd { (key e d).kbd with relay := List.replicate n ⟨24, .make⟩, mode := m }
    (s 54).held = none ∧ ((s 54).engine.state ≠ .idle ∨ (s 54).comp.output = []) ∧ (s 54).kbd.owed = [] ∧
    (s 54).kbd.events = [⟨54, .make⟩] ∧ effectiveMode (s 54) ≠ .relay ∧ translate 54 (s 54) = 0x80 ∧
    translate 53 dead = 0x00 ∧ dead.kbd.events = [⟨53, .make⟩] ∧ effectiveMode dead ≠ .relay ∧
    translate 56 (s 56) = 0x81 ∧ translate 57 (s 57) = 0x82 ∧ translate 58 (s 58) = 0x83 ∧ connected (s 58) = false ∧
    connected { s 58 with modem := online.modem } = true ∧ (s 58).framer.brk = .none ∧ (s 58).framer.shift = none ∧
    connected (broken (some ⟨0x61, []⟩)) = true ∧ (broken (some ⟨0x61, []⟩)).framer.brk = .none ∧
    (broken (some ⟨0x61, []⟩)).framer.shift ≠ none ∧ (broken (some ⟨0x61, []⟩)).kbd.events = [⟨58, .make⟩] ∧
    translate 59 (feeds 3 false) = 0x84 ∧ holdsContent (feeds 3 false) = false ∧ (feeds 3 false).comp.output.length < 4 ∧
    (feeds 3 false).engine.state ≠ .idle ∧ holdsContent (feeds 2 true) = true ∧ (feeds 2 true).comp.output.length < 3 ∧
    (feeds 2 true).engine.state ≠ .idle ∧ 4 ≤ (feeds 4 false).comp.output.length ∧ holdsContent (feeds 3 true) = true ∧
    3 ≤ (feeds 3 true).comp.output.length ∧ translate 60 (ends .composing) = 0x85 ∧
    (ends .composing).compose.phase = .composing ∧ (ends .loading).compose.phase = .loading ∧
    (ends .idle).compose.phase = .idle ∧ (ends .ending).compose.phase = .ending ∧
    translate 61 (s 61) = 0x86 ∧ effectiveMode (s 61) ≠ .relay ∧
    (relay ⟨61, .make⟩ none 7 .local_).kbd.relay.length < 8 ∧ translate 61 (relay ⟨61, .make⟩ none 8 .local_) = 0x86 ∧
    8 ≤ (relay ⟨61, .make⟩ none 8 .local_).kbd.relay.length ∧
    effectiveMode (relay ⟨24, .make⟩ none 7 .relay) = .relay ∧ effectiveMode (relay ⟨24, .make⟩ none 8 .relay) = .relay ∧
    (relay ⟨24, .brk⟩ (some .relayed) 7 .local_).kbd.events = [⟨24, .brk⟩] ∧
    downRecord 24 (relay ⟨24, .brk⟩ (some .relayed) 7 .local_) = some .relayed ∧
    downRecord 24 (relay ⟨24, .brk⟩ (some .relayed) 8 .relay) = some .relayed ∧
    (key ⟨24, .brk⟩ (some .character)).kbd.events = [⟨24, .brk⟩] ∧
    downRecord 24 (key ⟨24, .brk⟩ (some .character)) ≠ some .relayed ∧
    downRecord 24 (key ⟨24, .brk⟩ (some .character)) ≠ some .feed ∧
    downRecord 59 (key ⟨59, .brk⟩ (some .feed)) = some .feed := by decide +kernel

theorem test_witness_CharacterKeysReachTheirSinks :
    let s (m : KeyMode) (l : Bool) (n : Nat) : State :=
      { online with kbd := { events := [⟨24, .make⟩], mode := m, lock := l, txFifo := List.replicate n 0x41 } }
    let prints (n : Nat) (s : State) : State := s.setComp { s.comp with
      owner := some .keys, queue := List.replicate n ⟨0x41, false, false, .keys⟩ }
    let q : State := prints 511 (s .local_ false 0)
    let composes (phase : ComposePhase) (n seq : Nat) (echo : Bool) : State :=
      { s .compose false 0 with
        compose := { phase := phase, document := 1, seq := seq, chars := List.replicate n 0x41 }
        params := { composeEcho := echo } }
    let writes : State := { s .compose false 0 with compose := { phase := .composing, write := some { final := false } } }
    let again (m : KeyMode) (n : Nat) (d : DownRecord) : State :=
      (s m false n).setKbd { (s m false n).kbd with
        events := [⟨24, .rep⟩], downs := put (Vector.replicate 64 none) 24 (some d) }
    (s .full false 15).held = none ∧ (s .full false 15).comp.output = [] ∧ (s .full false 15).kbd.owed = [] ∧
    (s .full false 15).kbd.events = [⟨24, .make⟩] ∧ entryChar (translate 24 (s .full false 15)) = some 0x61 ∧
    effectiveMode (s .full true 0) ≠ .relay ∧ (s .full true 0).kbd.lock = true ∧ effectiveMode (s .full false 15) = .full ∧
    (s .full false 15).kbd.txFifo.length < 16 ∧ 16 ≤ (s .full false 16).kbd.txFifo.length ∧
    effectiveMode q = .local_ ∧ q.comp.owner = some .keys ∧ q.comp.queue.length < 512 ∧
    ¬ (prints 512 (s .local_ false 0)).comp.queue.length < 512 ∧
    effectiveMode (prints 511 (s .half false 15)) = .half ∧ (prints 511 (s .half false 15)).kbd.txFifo.length < 16 ∧
    16 ≤ (prints 511 (s .half false 16)).kbd.txFifo.length ∧ (s .half false 15).comp.owner ≠ some .keys ∧
    (composes .idle 0 0 false).compose.phase = .idle ∧ (composes .ending 0 0 false).compose.phase = .ending ∧
    composeAnswer 0x61 (composes .loading 0 0 false) = .wait ∧ composeAnswer 0x61 writes = .wait ∧
    composeAnswer 0x08 (composes .composing 0 0 false) = .refuse ∧ composeAnswer 0x08 (composes .composing 1 0 false) = .accept ∧
    composeAnswer 0x61 (composes .composing 57 62 false) = .accept ∧
    composeAnswer 0x61 (composes .composing 58 62 false) = .wait ∧ composeAnswer 0x61 (composes .composing 58 63 true) = .refuse ∧
    effectiveMode (composes .composing 57 62 false) = .compose ∧ (composes .composing 57 62 true).params.composeEcho = true ∧
    entryChar (translate 24 (composes .composing 57 62 true)) = some 0x61 ∧
    (prints 511 (composes .composing 57 62 true)).comp.owner = some .keys ∧
    composeAnswer 0x61 (prints 511 (composes .composing 57 62 true)) = .accept ∧
    (composes .composing 57 62 true).comp.owner ≠ some .keys ∧
    (again .full 15 .character).kbd.events = [⟨24, .rep⟩] ∧ downRecord 24 (again .full 15 .character) = some .character ∧
    effectiveMode (again .full 15 .character) = .full ∧ (again .full 15 .character).kbd.txFifo.length < 16 ∧
    16 ≤ (again .full 16 .character).kbd.txFifo.length ∧ downRecord 24 (again .full 0 .other) ≠ some .character ∧
    effectiveMode (again .relay 0 .character) = .relay ∧ effectiveMode (prints 511 (again .local_ 0 .character)) = .local_ ∧
    (prints 511 (again .local_ 0 .character)).comp.owner = some .keys ∧
    entryChar (translate 24 (again .full 15 .character)) = some 0x61 ∧ (again .full 15 .character).kbd.lock = false ∧
    effectiveMode (again .compose 0 .character) = .compose ∧ composeAnswer 0x61 (again .compose 0 .character) = .refuse := by
  decide +kernel

theorem test_witness_KeyboardTimersRunOut :
    let s : State := { printing with kbd :=
      { autoRepeat := some ⟨24, .running 500⟩, feedRepeats := [⟨59, .running 500⟩], tones := [.click] } }
    s.held = none ∧ s.kbd.autoRepeat = some ⟨24, .running 500⟩ ∧ (∃ f ∈ s.kbd.feedRepeats, f.position = 59) ∧
    s.comp.output.any (Job.isFeedOf 59) = false ∧ s.engine.state ≠ .idle ∧ holdsContent s = false ∧
    s.comp.output.length < 4 ∧ ([.feed 12 (some 59)] : List Job).any (Job.isFeedOf 59) = true ∧ .click ∈ s.kbd.tones := by
  decide +kernel

theorem test_witness_KeyboardRequestsAreAnswered :
    turnOk (.setKeymapEntry 64 0 0) run = true ∧ 63 < (64 : Byte).toNat ∧ 2 < (3 : Byte).toNat ∧
    0x86 < (0x87 : Byte).toNat ∧ turnOk (.setKeymapEntry 63 2 0x86) run = true ∧ (63 : Byte).toNat ≤ 63 ∧
    (0x86 : Byte).toNat ≤ 0x86 ∧ turnOk (.setKeymapEntry 0 0 0) run = true ∧ turnOk (.setKeymapEntry 0 1 0) run = true ∧
    turnOk (.setKeyboardMode 0) run = true ∧ turnOk (.setKeyboardMode 4) run = true ∧
    turnOk (.setKeyboardMode 5) run = true ∧ 4 < (5 : Byte).toNat ∧ turnOk (.lockKeyboard 0) run = true ∧
    turnOk (.lockKeyboard 1) run = true ∧ turnOk (.lockKeyboard 2) run = true ∧ 1 < (2 : Byte).toNat ∧
    turnOk .readKeys { run with kbd := { relay := List.replicate 8 ⟨1, .make⟩ } } = true ∧ turnOk .readKeys run = true := by
  decide +kernel

theorem test_witness_OwnerDepositsAtTheTail :
    let line (c : Code) (route : Route) (record : List Sink) : State :=
      { withFifo [text c] run with
        disp := { route := route, headExamined := true, record := record }, comp := { owner := some .line } }
    let link (c : Code) : State := { run with comp := { owner := some .link, linkPrint := [c] } }
    let reprint (c : Code) (poisoned whole : Bool) : State := { run with
      comp := { owner := some .reprint }
      reprint := { document := some 1, whole := whole,
                   reader := { bufA := .loaded 0 1 [.char c poisoned], asked := 1 } } }
    let keys (p : Nat) : State := { run with
      comp := { owner := some .keys, queue := List.replicate 511 ⟨0x41, false, false, .keys⟩ }
      kbd := { mode := .local_, headJudged := true, events := [⟨p, .make⟩] } }
    (line 0x41 .print []).held = none ∧ (line 0x41 .print []).comp.queue.length < 512 ∧
    (line 0x41 .print []).comp.owner = some .line ∧ (line 0x41 .print []).framer.rxFifo = [text 0x41] ∧
    (line 0x41 .print []).disp.headExamined = true ∧ (line 0x41 .print []).disp.route.hasPrint = true ∧
    .print ∉ (line 0x41 .print []).disp.record ∧ (line 0x0A .print []).disp.route = .print ∧
    (line 0x0C (.printStore 4) [.store 4]).disp.route = .printStore 4 ∧
    .store 4 ∈ (line 0x0C (.printStore 4) [.store 4]).disp.record ∧
    .print ∉ (line 0x0C (.printStore 4) [.store 4]).disp.record ∧
    .store 4 ∉ (line 0x0A (.printStore 4) []).disp.record ∧ (line 0x0A (.printStore 4) []).disp.route ≠ .print ∧
    (text 0x0A).poisoned = false ∧ (⟨0x0A, false, true, false⟩ : Entry).poisoned = true ∧
    (link 0x41).comp.owner = some .link ∧ (link 0x41).comp.linkPrint = [0x41] ∧ (link 0x0C).comp.linkPrint = [0x0C] ∧
    (reprint 0x41 true false).comp.owner = some .reprint ∧
    reprintOffer (reprint 0x41 true false) = some ⟨0x41, true, false, .reprint⟩ ∧
    reprintOffer (reprint 0x0A false false) = some ⟨0x0A, false, false, .reprint⟩ ∧
    (reprint 0x0A false false).reprint.whole = false ∧ (reprint 0x0A false true).reprint.whole = true ∧
    (keys 24).comp.owner = some .keys ∧ (keys 24).comp.queue.length < 512 ∧ (keys 24).kbd.headJudged = true ∧
    (keys 24).kbd.events = [⟨24, .make⟩] ∧ (keys 24).kbd.owed = [] ∧ (keys 24).kbd.lock = false ∧
    effectiveMode (keys 24) = .local_ ∧ entryChar (translate 24 (keys 24)) = some 0x61 ∧
    effectiveMode (keys 49) = .local_ ∧ entryChar (translate 49 (keys 49)) = some 0x0A := by decide +kernel

theorem test_witness_FreeInputGoesToTheHighestClaimant :
    let s : State := { run with comp := { owner := some .keys, ownerTimer := .running 3 } }
    let k : State := { run with kbd := { events := [⟨24, .make⟩], mode := .compose }, compose := { phase := .composing } }
    run.comp.owner = none ∧ s.comp.owner = some .keys ∧ s.held = none ∧ s.comp.owner ≠ none ∧
    s.comp.ownerTimer ≠ .stopped ∧ headChar k = some 0x61 ∧ k.kbd.lock = false ∧ effectiveMode k = .compose ∧
    composeAnswer 0x61 k ≠ .refuse := by decide +kernel

theorem test_witness_ControlCodesActOnTheLine :
    let lf := composingBusy 0x0A 3 true
    let ff := composingBusy 0x0C 2 false
    let auto (n : Nat) : State := { composingBusy 0x0D n true with params := { autoLf := true } }
    let short (n : Nat) : State := { composingBusy 0x0C n true with params := { formLength := 0 } }
    let full (count : Nat) : State :=
      (composingBusy 0x0C 2 true).setComp { (composingBusy 0x0C 2 true).comp with formCount := count }
    let top : State := { composing 0x0C 0 with params := { formLength := 66 } }
    lf.held = none ∧ lf.comp.queue = [⟨0x0A, false, false, .link⟩] ∧ lf.engine.state ≠ .idle ∧ lf.comp.output.length < 4 ∧
    4 ≤ (composingBusy 0x0A 4 true).comp.output.length ∧ (short 3).params.formLength = 0 ∧
    (short 3).engine.state ≠ .idle ∧ (short 3).comp.output.length < 4 ∧ 4 ≤ (short 4).comp.output.length ∧
    (auto 3).params.autoLf = true ∧ (auto 3).engine.state ≠ .idle ∧ (auto 3).comp.output.length < 4 ∧
    4 ≤ (auto 4).comp.output.length ∧
    ff.engine.state ≠ .idle ∧ ff.comp.output.length < 3 ∧
    ff.params.formLength ≠ 0 ∧ holdsContent ff = false ∧ ff.comp.formCount ≠ 0 ∧
    3 ≤ (composingBusy 0x0C 3 false).comp.output.length ∧
    (top.engine.state ≠ .idle ∨ top.comp.output = []) ∧ holdsContent top = false ∧ top.comp.formCount = 0 ∧
    top.params.formLength ≠ 0 ∧ holdsContent (full 65) = true ∧ (full 65).engine.state ≠ .idle ∧
    (full 65).comp.output.length < 3 ∧ nextFormCount (full 65).params.formLength (full 65).comp.formCount = 0 ∧
    holdsContent (full 64) = true ∧ nextFormCount (full 64).params.formLength (full 64).comp.formCount ≠ 0 ∧
    ((composing 0x0D 8).engine.state ≠ .idle ∨ (composing 0x0D 8).comp.output = []) ∧
    (composing 0x0D 8).params.autoLf = false ∧ (composing 0x08 0).comp.wrapPending = false ∧
    (composing 0x09 79).comp.wrapPending = false ∧
    ((composing 0x08 79).setComp { (composing 0x08 79).comp with wrapPending := true }).comp.wrapPending = true ∧
    (0x00 : Code).toNat ≤ 0x06 ∧ (0x06 : Code).toNat ≤ 0x06 ∧ 0x0E ≤ (0x0E : Code).toNat ∧ (0x1F : Code).toNat ≤ 0x1F := by
  decide +kernel

theorem test_witness_PrintableEntriesAreStruck :
    let s := composing 0x7E 78
    let busy := composingBusy 0x41 3 true
    let wrapped (s : State) : State := s.setComp { s.comp with wrapPending := true }
    let own (n : Nat) : State := wrapped ((composingBusy 0x41 n true).setComp
      { (composingBusy 0x41 n true).comp with lineSource := some .link })
    s.held = none ∧ s.comp.queue = [⟨0x7E, false, false, .link⟩] ∧ (s.engine.state ≠ .idle ∨ s.comp.output = []) ∧
    holdsContent s = false ∧ s.comp.wrapPending = false ∧ s.comp.column < 79 ∧ (composing 0x20 79).comp.column = 79 ∧
    0x20 ≤ (0x20 : Code).toNat ∧ (0x7E : Code).toNat ≤ 0x7E ∧ (⟨0x1A, true, true, .line⟩ : PrintEntry).gap = true ∧
    (⟨0x00, true, false, .line⟩ : PrintEntry).poisoned = true ∧
    holdsContent (wrapped (composing 0x41 79)) = false ∧ (wrapped (composing 0x41 79)).comp.wrapPending = true ∧
    (own 3).comp.lineSource = some .link ∧ holdsContent (own 3) = true ∧ (own 3).comp.wrapPending = true ∧
    (own 3).engine.state ≠ .idle ∧ (own 3).comp.output.length < 4 ∧ 4 ≤ (own 4).comp.output.length ∧
    busy.held = none ∧ holdsContent busy = true ∧ busy.comp.lineSource ≠ some .link ∧ busy.engine.state ≠ .idle ∧
    busy.comp.output.length < 4 ∧ 4 ≤ (composingBusy 0x41 4 true).comp.output.length := by decide +kernel

theorem test_witness_FlushPrintTextAndFeed :
    let s (n : Nat) : State :=
      (composingBusy 0x41 n true).setComp { (composingBusy 0x41 n true).comp with idleTimer := .running 2 }
    let p (n : Nat) : State := { run with comp := { linkPrint := List.replicate n 0x41 } }
    let a : List Byte := List.replicate 240 0x00
    (s 3).held = none ∧ (s 3).comp.idleTimer ≠ .stopped ∧ (s 3).engine.state ≠ .idle ∧ (s 3).comp.output.length < 4 ∧
    4 ≤ (s 4).comp.output.length ∧ turnOk (.printText [0x80]) run = true ∧ turnOk (.printText a) (p 17) = true ∧
    256 < (p 17).comp.linkPrint.length + a.length ∧ turnOk (.printText a) (p 16) = true ∧
    (p 16).comp.linkPrint.length + a.length ≤ 256 ∧ turnOk (.paperFeed 0 7000) (s 2) = true ∧
    turnOk (.paperFeed 255 7000) (composingBusy 0x41 3 false) = true ∧ holdsContent (composingBusy 0x41 3 false) = false ∧
    (composingBusy 0x41 3 false).comp.output.length < 4 ∧ turnOk (.paperFeed 1 7000) (s 2) = true ∧
    holdsContent (s 2) = true ∧ (s 2).comp.output.length < 3 ∧ turnOk (.paperFeed 1 7000) (s 3) = true ∧
    3 ≤ (s 3).comp.output.length := by decide +kernel

theorem test_witness_FiringGroupsPartitionTheBlocks :
    let groups := firingGroups 35 [12, 40, 0, 25, 8, 10, 3, 0]
    dotCurrent 9600 80 ≤ 500 ∧ 0 < 80 ∧ 0 < 9600 ∧ dotCurrent 4800 200 ≤ 24 ∧ groups[1]? = some [1] ∧
    groups[1 + 1]? = some [3, 4] ∧ [3, 4].head? = some 3 := by decide

theorem test_witness_SliceCountsFollowHistoryAndDeadDots :
    let all : Dots := BitVec.allOnes 640
    all.getLsbD 0 = true ∧ all.getLsbD 639 = true ∧ (0 : Dots).getLsbD 0 = false ∧ 79 ∈ [79, 81] ∧ 80 ∉ [79, 81] ∧
    0 < 80 ∧ 78 ∉ [79, 81] ∧ 77 ∉ [79, 81] ∧ 82 ∉ [79, 81] ∧ 83 ∉ [79, 81] := by decide +kernel

theorem test_witness_BurnEnergyAndOnTime :
    4790 < 4800 ∧ 9600 < 9610 ∧ (-11 : Int) < -10 ∧ (60 : Int) < 61 ∧ 7 ≤ 7 ∧ (-10 : Int) ≤ -10 ∧ 104 ≤ 104 ∧ 367 ≤ 367 ∧
    80 ≤ 80 ∧ 200 ≤ 200 ∧ 199 / 10 < 20 ∧ 120 < 1210 / 10 ∧ 20 ≤ 200 / 10 ∧ 1209 / 10 ≤ 120 := by decide

theorem test_witness_LastDotLineEndsInIdle :
    let s : State := printing.setEngine { printing.engine with position := some 11 }
    s.held = none ∧ s.engine.inFlight = true ∧ s.engine.state = .printing ∧
    s.comp.output = [.text (Vector.replicate 80 [])] ∧
    (Job.text (Vector.replicate 80 [])).lines ≤ s.engine.position.getD 0 + 1 ∧ s.comp.flushDue = false := by decide +kernel

theorem test_witness_DotLinesFollowOneAnother :
    let line : Job := .text (Vector.replicate 80 [])
    let s (k : Nat) : State := { printing with
      engine := { printing.engine with position := some k }, comp := { output := [line, .feed 1 none] } }
    let idle : State := { run with comp := { queue := [⟨0x0A, false, false, .link⟩] } }
    (s 10).engine.paper = true ∧ (s 10).engine.paperCond = false ∧ (s 10).engine.haltDue = false ∧
    (s 10).supply.power ≠ .critical ∧ (s 10).engine.powerCond = false ∧ (s 10).engine.hotCond = false ∧
    isHot (s 10).supply.therm = false ∧ 5000 ≤ 5000 ∧ (s 10).held = none ∧ (s 10).engine.inFlight = true ∧
    (s 10).engine.position = some 10 ∧ (s 10).comp.output = [line, .feed 1 none] ∧ 10 + 1 < line.lines ∧
    line.lines ≤ 11 + 1 ∧ (s 11).comp.flushDue = false ∧ (s 11).engine.position = some 11 ∧
    turnOk (.paperFeed 1 5000) run = true ∧ run.engine.state = .idle ∧ run.comp.output = [] ∧ holdsContent run = false ∧
    run.engine.paper = true ∧ run.supply.power ≠ .critical ∧ isHot run.supply.therm = false ∧ run.held = none ∧
    idle.comp.queue = [⟨0x0A, false, false, .link⟩] ∧ idle.engine.state = .idle ∧ idle.comp.output = [] := by decide +kernel

theorem test_witness_BoundaryTakesTheFirstStanding :
    let s (e : Engine) (u : Supply) : State := { run with engine := e, supply := u }
    (s { haltDue := true } {}).engine.haltDue = true ∧ (s { paper := false } {}).engine.paper = false ∧
    (s { paperCond := true } {}).engine.paperCond = true ∧ (s {} { power := .critical }).supply.power = .critical ∧
    isHot (s {} { therm := .temp 60 }).supply.therm = true ∧ isHot (s {} { therm := .temp 59 }).supply.therm = false ∧
    (s { hotCond := true } {}).engine.hotCond = true ∧ run.engine.paper = true ∧ run.supply.power ≠ .critical := by decide

theorem test_witness_EngineTimersSensorAndClearHead :
    let e (x : Engine) : State := { run with engine := x }
    let held (st : EngineState) (halt cond : Bool) (out : List Job) : State := { run with
      engine := { state := st, haltDue := halt, paperCond := cond, paperTimer := .running 500 }, comp := { output := out } }
    let clear (s : State) : Prop := s.engine.powerCond = false ∧ s.engine.hotCond = false ∧ s.supply.power ≠ .critical ∧
      isHot s.supply.therm = false ∧ s.engine.state.isHeld = true
    ({ run with strobe := { coolDown := .running 50 } } : State).strobe.coolDown ≠ .stopped ∧
    run.held = none ∧ run.engine.state.isHeld = false ∧ (e { state := .powerHold }).engine.state.isHeld = true ∧
    (held .halted true true []).engine.paperCond = true ∧ (held .paperOut false true []).engine.paperCond = true ∧
    (held .halted true false []).engine.state.isHeld = true ∧ (held .halted true false []).engine.haltDue = true ∧
    (held .halted true false []).engine.paperCond = false ∧
    (e { state := .powerHold }).engine.haltDue = false ∧ (e { state := .powerHold }).engine.paperCond = false ∧
    (e { paperTimer := .running 500 }).engine.paperTimer ≠ .stopped ∧ (e { paperTimer := .running 500 }).comp.output = [] ∧
    (held .halted true true []).engine.state.isHeld = true ∧ (held .halted true true []).engine.haltDue = true ∧
    clear (held .paperOut false true [.feed 1 none]) ∧ clear (held .paperOut false true []) ∧
    (held .paperOut false true []).engine.haltDue = false ∧ (held .paperOut false true []).engine.paper = true ∧
    (e { hotTimer := .running 30 }).engine.hotTimer ≠ .stopped ∧
    (e { state := .hotHold, hotTimer := .running 30 }).engine.state.isHeld = true ∧
    turnOk (.clearHead ⟨7000, {}⟩) run = true ∧ run.engine.state ≠ .halted ∧ run.comp.output = [] ∧
    turnOk (.clearHead ⟨7000, {}⟩) { e { state := .halted } with supply := { therm := .temp 53 } } = true ∧
    isCool (.temp 53) = false ∧ isCool (.temp 52) = true ∧
    turnOk (.clearHead ⟨7000, {}⟩) (held .halted true true []) = true ∧ isCool run.supply.therm = true ∧
    turnOk (.clearHead ⟨5000, {}⟩) (held .halted true false [.feed 1 none]) = true ∧
    clear (held .halted true false [.feed 1 none]) ∧ clear (held .halted true false []) := by
  decide

theorem test_witness_ElementPatrolMeasuresAndMarks :
    let s (i : Nat) (r : HeadRecord) : State := { run with head :=
      { index := i, timer := .running 50, measuring := true, records := put (Vector.replicate 8 {}) (i / 80) r } }
    let at_ (i : Nat) (r : HeadRecord) : HeadRecord := nth (s i r).head.records (i / 80) {}
    (s 0 {}).held = none ∧ (s 0 {}).head.timer ≠ .stopped ∧ (s 0 {}).head.measuring = true ∧ (s 638 {}).head.index < 639 ∧
    (s 639 {}).head.index = 639 ∧ elementReading 60000 120 = 50 ∧ elementReading 180000 120 = 150 ∧
    elementReading 58800 120 = 49 ∧ elementReading 181200 120 = 151 ∧ 60000 % (10 * 120) = 0 ∧
    (at_ 5 { mark := some 5 }).mark = some 5 ∧ (at_ 5 { count := 1 }).mark ≠ some 5 ∧
    min (s 5 {}).params.faultThreshold ((at_ 5 { count := 1 }).count + 1) < (s 5 {}).params.faultThreshold ∧
    (at_ 5 { count := 2 }).mark = none ∧
    min (s 5 {}).params.faultThreshold ((at_ 5 { count := 2 }).count + 1) = (s 5 {}).params.faultThreshold ∧
    (at_ 5 { count := 2, mark := some 6 }).mark = some 6 := by decide +kernel

theorem test_witness_HeadMapIsSetAndCleared :
    turnOk (.setHeadMark 8 0) run = true ∧ 7 < (8 : Byte).toNat ∧ turnOk (.setHeadMark 7 0xFFFF) run = true ∧
    (7 : Byte).toNat ≤ 7 ∧ turnOk (.setHeadMark 7 639) run = true ∧ (639 : Half).toNat / 80 = (7 : Byte).toNat ∧
    turnOk (.setHeadMark 7 559) run = true ∧ (559 : Half) ≠ 0xFFFF ∧ (559 : Half).toNat / 80 ≠ (7 : Byte).toNat ∧
    turnOk (.setHeadMark 0 0) run = true ∧ turnOk .clearHeadMap run = true := by decide

/-- The read of a block of data with this document, sequence and fill. -/
def dataRead (n q : Nat) (fill : Nat) : ReadData := .bytes (dataImage ⟨n, q, 0x01, List.replicate fill 0x41, none⟩)

theorem test_witness_StoreReadsCompleteAndPatrolAsks :
    let s (c : PortClaimant) (op : PortOp) (b : Nat) (again : Bool) : State :=
      withPort { claimant := c, op := op, block := b, again := again } run
    let owned : State := withDoc 1 closedDoc ready
    let at_ (n : Nat) (s : State) : State := s.setStore { s.store with patrolPos := n }
    let reader : Reader := { bufA := .reading 0, asked := 1 }
    let patrol : State := { owned with store := { owned.store with patrolRead := some ⟨7, 1⟩ } }
    (s .mount .statusRead 0 false).held = none ∧
    (s .mount .statusRead 0 false).store.inFlight = some { claimant := .mount, op := .statusRead, block := 0 } ∧
    (s .link .read 7 false).store.inFlight = some { claimant := .link, op := .read, block := 7 } ∧
    passesCheck (readBytes .stored 7 (s .link .read 7 false)) = false ∧
    passesCheck (readBytes (.bytes freeImage) 7 (s .link .read 7 true)) = true ∧
    passesCheck (readBytes (.bytes labelImage) 0 (s .mount .read 0 false)) = true ∧
    readBytes (.bytes freeImage) 0 (s .mount .read 0 false) ≠ labelImage ∧
    passesCheck (readBytes (dataRead 31 63 58) 511 run) = true ∧
    (readBytes (dataRead 31 63 58) 511 run).take 3 = [31, 63, 58] ∧ (dirEntry run 31).blocks = [] ∧
    (readBytes (dataRead 1 0 57) 7 owned).take 3 = [1, 0, 57] ∧ (dirEntry owned 1).blocks.any (·.seq = 0) = true ∧
    ({ run with send := { current := some 1, reader := reader } } : State).send.reader.reading = some 0 ∧
    ({ run with reprint := { document := some 1, reader := reader } } : State).reprint.reader.reading = some 0 ∧
    ({ run with compose := { phase := .loading, loading := true } } : State).compose.phase = .loading ∧
    (∀ j, 510 < j → j ≤ 511 → j ∈ ({ run with store := { bad := [511] } } : State).store.bad) ∧ 511 ∉ run.store.bad ∧
    ready.held = none ∧ ready.store.patrolTimer ≠ .stopped ∧ ready.store.state = .ready ∧ ready.store.patrolRead = none ∧
    patrol.store.patrolRead = some ⟨7, 1⟩ ∧ (∃ r ∈ (dirEntry patrol 1).blocks, r.block = 7) ∧
    (ownedBlocks (at_ 6 owned)).find? (fun b => (at_ 6 owned).store.patrolPos < b) = some 7 ∧
    (ownedBlocks (at_ 7 owned)).find? (fun b => (at_ 7 owned).store.patrolPos < b) = none ∧
    ownedBlocks (at_ 7 owned) = [7] ∧ ownedBlocks ready = [] := by
  refine ⟨?_, ?_, ?_, ?_, ?_, ?_, ?_, ?_, ?_, ?_, ?_, ?_, ?_, ?_, ?_, fun j h1 h2 => ?_, ?_, ?_, ?_, ?_, ?_, ?_, ?_, ?_, ?_, ?_, ?_⟩
  case refine_16 => rw [show j = 511 by omega]; decide
  all_goals decide +kernel

theorem test_witness_WriteAttemptsSucceedOrFail :
    let w (last : Bool) (failed : Option Nat) : DataWrite := ⟨4, 0, if last then 0x01 else 0, [0x41], failed⟩
    let s (st : StoreState) (c : PortClaimant) (op : PortOp) (b : Nat) (again : Bool) : State :=
      withPort { claimant := c, op := op, block := b, again := again } { run with store := { state := st } }
    let took (closing : Bool) : State := { s .ready .take (.dataWrite (w true none)) 7 true with
      take := { docs := [{ document := 4, closing := closing }] } }
    let jobs (b : Bool) : State := (s .ready .maintenance .releaseWrite 7 true).setStore
      { (s .ready .maintenance .releaseWrite 7 true).store with jobs := [⟨4, b⟩] }
    (s .ready .take (.dataWrite (w false none)) 7 false).held = none ∧
    (s .ready .take (.dataWrite (w false none)) 7 false).store.inFlight =
      some { claimant := .take, op := .dataWrite (w false none), block := 7, again := false } ∧
    (PortOp.dataWrite (w true none)).isWrite = true ∧ PortOp.releaseWrite.isWrite = true ∧
    (w false none).flags.getLsbD 0 = false ∧ (w true none).flags.getLsbD 0 = true ∧
    (took true).take.docs.find? (·.document = (w true none).document) = some { document := 4, closing := true } ∧
    (took false).take.docs.find? (·.document = (w true (some 5)).document) = some { document := 4, closing := false } ∧
    ({ run with compose := { phase := .composing } } : State).compose.phase = .composing ∧
    ({ run with compose := { phase := .ending } } : State).compose.loading = false ∧
    (w true (some 5)).failed ≠ none ∧ (w true none).failed = none ∧ run.compose.loaded = none ∧
    ({ run with compose := { loaded := some 7 } } : State).compose.loaded ≠ none ∧
    (s .ready .maintenance .releaseWrite 7 false).store.state ≠ .formatting ∧
    (jobs false).store.jobs = [⟨4, false⟩] ∧ (jobs true).store.jobs = [⟨4, true⟩] ∧
    (jobs true).take.held.map (·.document) ≠ some 4 ∧
    (s .formatting .maintenance .releaseWrite 0 false).store.state = .formatting ∧
    nextFormatBlock 0 (s .formatting .maintenance .releaseWrite 0 false) = some 1 ∧
    nextFormatBlock 510 (s .formatting .maintenance .releaseWrite 510 false) = some 511 ∧
    nextFormatBlock 511 (s .formatting .maintenance .releaseWrite 511 false) = none ∧
    (s .formatting .maintenance .releaseWrite 511 false).params.patrolInterval ≠ 0 ∧
    (s .formatting .maintenance .releaseWrite 0 true).store.inFlight =
      some { claimant := .maintenance, op := .releaseWrite, block := 0, again := true } := by decide +kernel

theorem test_witness_StoreRequestsAreAnswered :
    let doc : State := withDoc 31 closedDoc ready
    let jobs (b : Bool) : State := doc.setStore { doc.store with jobs := [⟨5, b⟩] }
    turnOk (.delete 1) run = true ∧ run.store.state ≠ .ready ∧ run.store.state ≠ .unformatted ∧
    run.store.state = .mounting ∧ turnOk (.delete 0) ready = true ∧ turnOk (.delete 32) ready = true ∧
    31 < (32 : Byte).toNat ∧ turnOk (.delete 1) ready = true ∧ (dirEntry ready 1).state ≠ .closed ∧
    turnOk (.delete 31) (jobs false) = true ∧ (dirEntry (jobs false) 31).state = .closed ∧
    (∃ j ∈ (jobs false).store.jobs, j.forTake = false) ∧ (∀ j ∈ (jobs true).store.jobs, j.forTake = true) ∧
    turnOk .formatStore ready = true ∧ storeIdle ready = true ∧ storeIdle (jobs true) = false ∧
    turnOk .formatStore { run with store := { state := .unformatted } } = true ∧ turnOk .remount run = true ∧
    turnOk .remount ready = true ∧ turnOk .remount { run with store := { state := .absent } } = true ∧
    turnOk (.storeReadBlock 512) ready = true ∧ 511 < (512 : Half).toNat ∧ turnOk (.storeReadBlock 511) ready = true ∧
    (511 : Half).toNat ≤ 511 := by decide +kernel

theorem test_witness_WrittenBlocksPassTheirCheck :
    let w : DataWrite := ⟨31, 63, 0x0F, List.replicate 58 0xC1, none⟩
    w.chars.length ≤ 58 ∧ w.chars[57]? = some 0xC1 ∧ (⟨1, 0, 0, [], none⟩ : DataWrite).chars.length ≤ 0 ∧ 57 < 58 := by decide

theorem test_witness_LabelAndFreeBlockImages :
    ReadResult.pass.passed = true ∧ ReadResult.fail.passed = false ∧ freeImage ≠ labelImage ∧ freeImage.getD 0 1 = 0 := by
  decide +kernel

theorem test_witness_OnlyBlockWritesChangeTheStoreMemory :
    after .drop online (fun t => t.held = none) = true ∧ (∀ b, Instr.drop ≠ .blockWriteAttemptComplete b) ∧
    (withPort { claimant := .maintenance, op := .releaseWrite, block := 7 } ready).store.inFlight =
      some { claimant := .maintenance, op := .releaseWrite, block := 7 } ∧
    after (.blockWriteAttemptComplete true)
      (withPort { claimant := .maintenance, op := .releaseWrite, block := 7 } ready) (fun _ => true) = true ∧
    511 / 64 ≠ 8 ∧ 512 / 64 = 8 ∧ PortOp.isWrite .releaseWrite = true ∧ PortOp.isWrite .read = false ∧
    (∀ c ∈ [.powerOn, .linkFrameSent, .supplyMeasurement 4990 (.temp 20) ⟨7000, {}⟩],
      after c { withPort { claimant := .maintenance, op := .releaseWrite, block := 7 } ready with
        link := { sending := some ⟨.reply, 0x85, [0x00]⟩ } } (fun t => t.held ≠ none) = true) ∧
    after (.dotLineComplete 4990) (withPort { claimant := .maintenance, op := .releaseWrite, block := 7 } printing)
      (fun t => t.held ≠ none) = true :=
  ⟨by decide +kernel, by intro b; simp, rfl, by decide +kernel, by decide, by decide, by decide, by decide,
    by decide +kernel, by decide +kernel⟩

theorem test_witness_SendAndReprintRequests :
    let s : State := withDoc 31 closedDoc { ready with modem := online.modem }
    let full : State := { s with send := { current := some 1, staged := some 2 } }
    let one : State := { s with send := { current := some 1 } }
    let reads : State := withPort { claimant := .send, op := .read, block := 7 } { full with params := { reportMask := 0x40 } }
    reads.send.current = some 1 ∧ reads.send.staged = some 2 ∧ reportEnabled 6 reads = true ∧
    (reads.store.inFlight.map (·.claimant)) = some .send ∧ one.send.current = some 1 ∧ one.send.staged = none ∧
    turnOk (.send 1) run = true ∧ run.store.state ≠ .ready ∧ turnOk (.reprint 1 0) run = true ∧
    turnOk (.send 0) s = true ∧ s.store.state = .ready ∧ turnOk (.send 32) s = true ∧ turnOk (.send 31) ready = true ∧
    connected ready = false ∧ connected s = true ∧ turnOk (.send 31) full = true ∧ full.send.current ≠ none ∧
    full.send.staged ≠ none ∧ turnOk (.send 1) s = true ∧ s.send.current = none ∧ (dirEntry s 1).state ≠ .closed ∧
    turnOk (.send 31) s = true ∧ (dirEntry s 31).state = .closed ∧ turnOk (.send 31) one = true ∧ one.send.staged = none ∧
    one.send.current ≠ none ∧ turnOk (.send 2) one = true ∧ (dirEntry one 2).state ≠ .closed ∧
    turnOk .stopSend s = true ∧ turnOk .stopSend one = true ∧ turnOk (.reprint 31 2) s = true ∧
    turnOk (.reprint 31 1) s = true ∧ (1 : Byte).toNat ≤ 1 ∧ s.reprint.document = none ∧
    turnOk (.reprint 31 0) { s with reprint := { document := some 1 } } = true ∧ turnOk (.reprint 1 0) s = true ∧
    turnOk .stopReprint s = true ∧ turnOk .stopReprint { s with reprint := { document := some 1 } } = true := by
  decide +kernel

theorem test_witness_ComposeRequests :
    let doc : State := withDoc 31 closedDoc ready
    let busy (x : ComposeChannel) : State := { ready with compose := x }
    let none_ : State := ready.setStore { ready.store with dir := Vector.replicate 31 closedDoc }
    turnOk (.composeStart 0 0) run = true ∧ run.store.state ≠ .ready ∧ turnOk (.composeStart 32 0) ready = true ∧
    31 < (32 : Byte).toNat ∧ turnOk (.composeStart 31 2) ready = true ∧ 1 < (2 : Byte).toNat ∧
    turnOk (.composeStart 0 0) (busy { phase := .composing }) = true ∧ ready.compose.phase = .idle ∧
    turnOk (.composeStart 0 0) none_ = true ∧ (∀ n < 32, 1 ≤ n → (dirEntry none_ n).state ≠ .free) ∧
    turnOk (.composeStart 0 0) ready = true ∧ (dirEntry ready 1).state = .free ∧ turnOk (.composeStart 31 0) ready = true ∧
    turnOk (.composeStart 31 1) doc = true ∧ (dirEntry doc 31).state = .closed ∧
    (dirEntry doc 31).flags.damaged = false ∧ (dirEntry doc 31).blocks.length < 64 ∧
    (dirEntry doc 31).blocks.getLast? = some ⟨0, 7, 58, 0x01⟩ ∧ turnOk (.composeStart 31 0) doc = true ∧
    (dirEntry doc 31).state ≠ .free ∧ turnOk .composeEnd ready = true ∧
    (busy { phase := .composing, write := some { final := false } }).compose.write = some { final := false } ∧
    turnOk .composeEnd (busy { phase := .composing, write := some { final := false } }) = true ∧
    turnOk .composeEnd (busy { phase := .ending }) = true ∧ turnOk .composeEnd (busy { phase := .composing }) = true ∧
    turnOk .composeEnd (busy { phase := .loading, loading := true }) = true := by decide +kernel

theorem test_witness_MeasurementsActOnPowerAndHeat :
    let held (e : Engine) (out : List Job) : State := { run with engine := { e with state := .powerHold }, comp := { output := out } }
    5400 + 200 ≤ 6000 ∧ 5390 < 5400 ∧ 5990 < 6000 ∧ 6000 + 200 ≤ 6200 ∧ printing.held = none ∧ 12000 ≤ 12000 ∧
    5000 ≤ 5000 ∧ printing.engine.state = .printing ∧ 4990 < 5000 ∧ run.engine.state = .idle ∧ run.comp.output = [] ∧
    (held { powerCond := true } []).engine.state.isHeld = true ∧ (held { powerCond := true } []).held = none ∧
    (held { powerCond := true, haltDue := true } []).engine.haltDue = true ∧
    (held { powerCond := true, paperCond := true } []).engine.paperCond = true ∧
    (held {} []).engine.powerCond = false ∧ nextPower .normal 6000 5400 5390 = .critical ∧
    nextPower .normal 6000 5400 7000 = .normal ∧ isHot (.temp 60) = true ∧ isCool (.temp 60) = false ∧
    (held { powerCond := true } [.feed 1 none]).comp.output = [.feed 1 none] ∧
    (held { powerCond := true } [.feed 1 none]).engine.paper = true := by decide

theorem test_witness_ResetsTakeHoldAndAreReleased :
    State.reset.held = some .powerOn ∧ ResetCause.powerOn ≠ .link ∧ 5190 < 5200 ∧ 5200 ≤ 5200 ∧ 12000 ≤ 12000 ∧
    State.reset.link = {} ∧ turnOk .reset run = true ∧
    ({ run with link := { sending := some ⟨.report, 0x41, []⟩ } } : State).link.sending = some ⟨.report, 0x41, []⟩ ∧
    ({ run with link := { sending := some ⟨.reply, 0x85, [0x00]⟩ } } : State).link.sending =
      some ⟨.reply, 0x85, [0x00]⟩ := by decide

theorem test_witness_InquiriesAnswerAndChangeNothing :
    let s : State := { run with faults := some ⟨.storeAbsent, {}, 0x10⟩ }
    turnOk .identify run = true ∧ (∀ n < 13, turnOk (.getStatus (BitVec.ofNat 8 n)) run = true) ∧
    run.supply.therm = .temp 0 ∧ run.faults = none ∧ 11 < (12 : Byte).toNat ∧
    turnOk (.getParameter 0x3C) run = true ∧ Param.ofId 0x3C = some .reportMask ∧ Param.ofId 0x00 = none ∧
    turnOk .readFaults run = true ∧ turnOk .readFaults s = true ∧ s.faults = some ⟨.storeAbsent, {}, 0x10⟩ ∧
    turnOk .readHeadMap run = true ∧ turnOk .storeInfo run = true ∧ run.store.state = .mounting ∧
    turnOk .storeInfo ready = true ∧ ready.store.state ≠ .mounting ∧
    ready.store.state ≠ .formatting ∧ turnOk .docList ready = true ∧ turnOk (.docInfo 1) ready = true ∧
    turnOk (.docInfo 31) ready = true ∧ turnOk (.docInfo 32) ready = true ∧ turnOk (.docInfo 0) ready = true :=
  ⟨by decide, by decide +kernel, by decide +kernel⟩

theorem test_witness_ParametersAreClampedStoredOrRefused :
    turnOk (.setParameter 0x00 0) run = true ∧ Param.ofId 0x00 = none ∧ turnOk (.setParameter 0x01 300) online = true ∧
    Param.ofId 0x01 = some .bitRate ∧ Param.bitRate.isLine = true ∧ online.modem.state ≠ .idle ∧
    turnOk (.setParameter 0x01 200) run = true ∧ run.modem.state = .idle ∧ turnOk (.setParameter 0x01 110) run = true ∧
    turnOk (.setParameter 0x02 15) run = true ∧ turnOk (.setParameter 0x03 38) run = true ∧
    turnOk (.setParameter 0x24 127) run = true ∧ turnOk (.setParameter 0x24 128) run = true ∧
    (∀ p ∈ [(0x04, 200), (0x04, 3001), (0x05, 99), (0x05, 2000), (0x06, 5), (0x06, 61), (0x07, 15), (0x07, 16), (0x08, 0),
        (0x08, 1), (0x08, 2), (0x08, 3), (0x09, 0), (0x09, 1), (0x09, 2), (0x09, 3), (0x0A, 0), (0x0A, 1), (0x0A, 2),
        (0x0B, 99), (0x0B, 1000), (0x11, 0), (0x11, 1), (0x11, 2), (0x18, 0), (0x18, 1), (0x18, 2), (0x19, 199),
        (0x19, 1500), (0x1A, 30), (0x1A, 501), (0x20, 0), (0x20, 10), (0x21, 0), (0x21, 1), (0x21, 2), (0x22, 0),
        (0x22, 1), (0x22, 2), (0x23, 0), (0x23, 16), (0x25, 10), (0x25, 11), (0x2A, 499), (0x2A, 4000), (0x34, 0),
        (0x34, 1), (0x34, 2)], turnOk (.setParameter (BitVec.ofNat 8 p.1) (BitVec.ofNat 16 p.2)) run = true) ∧
    turnOk (.setParameter 0x28 8) run = true ∧ turnOk (.setParameter 0x12 0x80) run = true ∧
    turnOk (.setParameter 0x12 0x11) run = true ∧ (0x11 : Half).toNat = run.params.resumeCode.toNat ∧
    turnOk (.setParameter 0x13 0x7F) run = true ∧ (0x7F : Half).toNat ≠ run.params.pauseCode.toNat ∧
    turnOk (.setParameter 0x10 32) run = true ∧ turnOk (.setParameter 0x10 64) run = true ∧
    turnOk (.setParameter 0x14 481) run = true ∧ turnOk (.setParameter 0x15 31) run = true ∧
    turnOk (.setParameter 0x29 79) run = true ∧ turnOk (.setParameter 0x2C 2) run = true ∧
    turnOk (.setParameter 0x2C 1) run = true ∧ turnOk (.setParameter 0x2D 16) run = true ∧
    turnOk (.setParameter 0x30 0) run = true ∧ turnOk (.setParameter 0x31 256) run = true ∧
    turnOk (.setParameter 0x35 0x80) run = true ∧ turnOk (.setParameter 0x38 7001) run = true ∧
    turnOk (.setParameter 0x39 4999) run = true ∧ turnOk (.setParameter 0x3C 0x400) run = true ∧
    (0x3FF : Half).toNat < 0x400 ∧ turnOk (.setParameter 0x3C 0x3FF) run = true := by decide

theorem test_witness_LinkReceiverFollowsItsPlaces :
    let s (rx : LinkRx) : State := { run with link := { rx := rx, gapTimer := .running 10 } }
    (s .hunt).held = none ∧ (s .hunt).link.rx = .hunt ∧ (0xA5 : Byte) = 0xA5 ∧ (0xA4 : Byte) ≠ 0xA5 ∧
    (s .kind).link.rx = .kind ∧ (s (.length 0x01)).link.rx = .length 0x01 ∧ 240 < (241 : Byte).toNat ∧
    (240 : Byte).toNat ≤ 240 ∧ (s (.payload 0x01 2 [0x41])).link.rx = .payload 0x01 2 [0x41] ∧
    (2 : Byte).toNat ≤ ([0x41] : List Byte).length + 1 ∧ ([] : List Byte).length + 1 < (2 : Byte).toNat ∧
    (0x01 : Byte) + 0 + ([] : List Byte).foldl (· + ·) 0 + 0xFF = 0 ∧ 1 ≤ (0x3F : Byte).toNat ∧ (0x3F : Byte).toNat ≤ 0x3F ∧
    (s (.check 0x01 0 [])).link.queue.length < 2 ∧ 0x40 ≤ (0x40 : Byte).toNat ∧ (s .kind).link.gapTimer ≠ .stopped ∧
    turnOk (.unknownRequest 0x3F []) run = true ∧ catalogueLengths 0x3F = none ∧
    turnOk (.unknownRequest 0x01 [0x00]) run = true ∧ catalogueLengths 0x01 = some (0, 0) := by decide +kernel

theorem test_witness_FramesOnTheWire :
    let s : State := { run with link := { reply := some ⟨0x01, [0x00]⟩ } }
    let j : State := { run with link := { reject := some ⟨0x20, 0x01, false⟩ } }
    let r : State := { run with reports := { power := some ⟨0x02, .low, 5900⟩ } }
    s.link.sending = none ∧ (transmitNext s).link.sending = some ⟨.reply, 0x81, [0x00]⟩ ∧
    (transmitNext j).link.sending = some ⟨.reject, 0xFE, [0x20, 0x01, 0x00]⟩ ∧
    ((transmitNext r).link.sending.map (·.kind)) = some 0x48 ∧ (⟨0x40, []⟩ : Request).kind.toNat = 0x40 := by decide +kernel

theorem test_witness_FrameBytesGiveTheRequest :
    1 ≤ (0x01 : Byte).toNat ∧ (0x3F : Byte).toNat ≤ 0x3F ∧ (List.replicate 240 (0xA5 : Byte)).length ≤ 240 ∧
    run.link.rx = .hunt ∧ run.link.queue.length < 2 ∧
    ({ run with link := { queue := [⟨0x01, []⟩] } } : State).link.queue.length < 2 := by decide +kernel

theorem test_witness_RejectsReportsAndFaults :
    let quiet : State := { run with params := { reportMask := 0 } }
    let j : State := { run with link := { reject := some ⟨0x20, 0x01, false⟩ } }
    let f : State := { run with faults := some ⟨.storeAbsent, {}, 0x10⟩ }
    run.link.reject = none ∧ j.link.reject = some ⟨0x20, 0x01, false⟩ ∧ j.link.sending = none ∧ j.link.reply = none ∧
    ({ run with link := { sending := some ⟨.report, 0x41, []⟩ } } : State).link.sending = some ⟨.report, 0x41, []⟩ ∧
    ({ run with link := { reply := some ⟨0x01, [0x00]⟩ } } : State).link.reply = some ⟨0x01, [0x00]⟩ ∧
    run.reports.keys = none ∧ ({ run with reports := { keys := some ⟨8, true⟩ } } : State).reports.keys = some ⟨8, true⟩ ∧
    (∀ k < 10, 1 ≤ k → quiet.params.reportMask.getLsbD k = false ∧ run.params.reportMask.getLsbD k = true) ∧
    [PrintEvent.idle] ≠ [] ∧ run.faults = none ∧
    f.faults = some ⟨.storeAbsent, {}, 0x10⟩ ∧ turnOk .clearFaults f = true := by decide

/-- A connected part with a formatted, empty store, whose next command is Drop. -/
def dropping : State :=
  { online with store := { state := .ready }, pending := [.drop] }

/-- The head map of `dropping` is as reset leaves it. -/
theorem dropping_record (b : Nat) : nth dropping.head.records b {} = {} := by
  simp only [nth, dropping, online, run]
  by_cases h : b < 8 <;> simp [h]

/-- The directory of `dropping` is empty. -/
theorem dropping_entry (n : Nat) : dirEntry dropping n = {} := by
  simp only [dirEntry, nth, dropping]
  by_cases h : n - 1 < 31 <;> simp [h]

/-- Every block of `dropping` is free, and only once. -/
theorem dropping_blocks : BlocksLegal dropping := by
  refine ⟨fun b => ?_, List.pairwise_lt_range', List.Pairwise.nil, fun n => ?_, fun n b h => ?_⟩
  · have h1 : dropping.store.bad = [] := rfl
    have h2 : dropping.store.dir.toList.flatMap (·.blocks) = [] := by decide +kernel
    have h3 : dropping.store.free = List.range' 1 511 := rfl
    rw [h1, h2, h3]
    simp only [List.count_nil, List.map_nil, Nat.add_zero]
    rw [(List.nodup_range' (step := 1)).count]
    simp only [List.mem_range'_1]
    split <;> split <;> omega
  · rw [dropping_entry]; exact List.Pairwise.nil
  · rw [dropping_entry] at h; exact absurd h (by simp)

/-- No channel of `dropping` holds a document and nothing is in flight. -/
theorem dropping_store : StoreLegal dropping := by
  have he (n : Nat) : (dirEntry dropping n).state = .free := by rw [dropping_entry]
  have hn (n : Nat) (st : DocState) (h : st ≠ .free) : ¬ inState dropping n st := fun x => h (x.2.symm.trans (he n))
  refine ⟨dropping_blocks, ?_, ?_, ?_⟩
  · constructor <;> try intro n
    · exact iff_of_false (hn n _ (by decide)) (by simp [dropping, online, run])
    · exact absurd rfl n
    · exact iff_of_false (hn n _ (by decide)) (by simp [dropping, online, run])
    · exact iff_of_false (hn n _ (by decide)) (by simp [dropping, online, run])
    · exact iff_of_false (hn n _ (by decide)) (by simp [dropping, online, run])
    · exact iff_of_false (hn n _ (by decide)) (by simp [dropping, online, run])
    · simp [dropping, online, run]
    · exact List.Pairwise.nil
    · exact List.Pairwise.nil
    · exact absurd rfl n
  · refine ⟨fun _ n _ => by rw [dropping_entry], ?_, ?_, ?_, ?_, ?_, ?_, ?_, ?_, ?_⟩ <;> simp [dropping, online, run]
  · constructor <;> simp [dropping, online, run]

theorem test_witness_EveryStepKeepsItsInvariants :
    WithinCapacity dropping ∧ Memory.wf dropping.mem = true ∧ ParamsAgree dropping.params ∧ ModemLegal dropping.modem ∧
    QuietLine dropping ∧ EngineLegal dropping ∧ HeadLegal dropping ∧ StoreLegal dropping ∧ Completes (step dropping) := by
  refine ⟨by constructor <;> decide, by decide, by constructor <;> decide, by constructor <;> decide, ?_, ?_, ?_, dropping_store,
    ⟨_, rfl⟩⟩
  · constructor <;> intro h <;> exact absurd h (by decide)
  · constructor
    · intro h; exact absurd h (by decide)
    · intro h; exact absurd rfl h
  · constructor
    · intro b e h; rw [dropping_record] at h; exact absurd h (by simp)
    · intro b; rw [dropping_record]; exact Nat.zero_le _

end Sys2Proof.Tests
end

section
/-! PROOF. What a whole step keeps, for any invariant: the frames `perform`, `performWhen` and `request` keep what their
effect and the settling keep. -/

namespace Sys2Proof.Machine

variable {P : State → Prop} {s : State}

/-- Every next state of an outcome satisfies `P`. -/
def After (P : State → Prop) (o : Host.Outcome State Fault Refusal) : Prop := ∀ t, o = .next t → P t

theorem after_next {t : State} (h : P t) : After P (.next t) := by
  rintro _ ⟨⟩
  exact h

/-- Settling, with whatever measurement, keeps `P`. -/
def SettleKeeps (P : State → Prop) : Prop := ∀ (s0 : State) (volts : Option Nat) (x : State), P x → P (settle s0 volts x)

/-- Settling is the store and print input, then the Engine when a measurement came with the step, then the transmitter. -/
theorem settleKeeps_of
    (hs : ∀ s0 x, P x → P (idleTimerSettle s0 (ownerTimerSettle (arbitrate (echoSettle s0 (storeSettle x))))))
    (he : ∀ v x, P x → P (engineSettle v x)) (ht : ∀ x, P x → P (transmitNext x)) : SettleKeeps P := by
  intro s0 volts x h
  unfold settle
  split
  · exact h
  · cases volts with
    | none =>
      dsimp only
      split
      · exact hs s0 x h
      · exact ht _ (hs s0 x h)
    | some v =>
      dsimp only
      split
      · exact he v _ (hs s0 x h)
      · exact ht _ (he v _ (hs s0 x h))

theorem SettleKeeps.perform (k : SettleKeeps P) (h : P s) {volts : Option Nat} {f : State → State}
    (hf : P (f s)) : After P (perform volts f s) := by
  intro t ht
  rcases perform_cases volts f ht with ⟨-, rfl⟩ | ⟨-, rfl⟩
  · exact h
  · exact k _ _ _ hf

theorem SettleKeeps.performWhen (k : SettleKeeps P) (h : P s) {p : Bool} {volts : Option Nat} {f : State → State}
    (hf : p = true → P (f s)) : After P (performWhen p volts f s) := by
  intro t ht
  rcases performWhen_cases volts f ht with ⟨-, rfl⟩ | ⟨hp, -, rfl⟩
  · exact h
  · exact k _ _ _ (hf hp)

section LinkOnly

/-! What a request's frame does apart from its effect changes the link alone. -/

variable (link : ∀ {x : State} (l : Link), P x → P (x.setLink l))
include link

theorem formReply_keeps (r : Request) (payload : List Byte) (h : P s) : P (formReply r payload s) := by
  unfold formReply
  split
  · exact h
  · exact link _ h

theorem makeReject_keeps (reason kind : Byte) (h : P s) : P (makeReject reason kind s) := by
  unfold makeReject
  split <;> exact link _ h

theorem frameArrives_keeps (r : Request) (h : P s) : P (frameArrives r s) := by
  unfold frameArrives
  split
  · exact makeReject_keeps link _ _ h
  split
  · exact makeReject_keeps link _ _ h
  · exact link _ h

theorem standAtHead_keeps (r : Request) (h : P s) : P (standAtHead r s) := by
  obtain ⟨q, hq, -⟩ := standAtHead_eq r s
  rw [hq]
  exact link _ h

theorem SettleKeeps.request (k : SettleKeeps P) (h : P s) {volts : Option Nat} {kind : Byte} {payload : List Byte}
    {effect : State → State × List Byte} (he : ∀ x, P x → P (effect x).1) :
    After P (request volts kind payload effect s) := by
  refine k.perform h ?_
  unfold executeRequest
  split
  · exact formReply_keeps link _ _ (he _ (standAtHead_keeps link _ h))
  · exact frameArrives_keeps link _ h

end LinkOnly

/-- An invariant that every command keeps, whatever the queue of waiting commands, is kept by every step. -/
theorem step_keeps (pending : ∀ (x : State) (q : List Instr), P x → P (x.setPending q))
    (he : ∀ (c : Instr) (x : State), P x → After P (exec c x)) (h : P s) : After P (step s) := by
  unfold step
  split
  · exact he _ _ (pending _ _ h)
  · exact after_next h

end Sys2Proof.Machine
end

section
/-! PROOF. The line side of every step: the parameters that depend on one another, the Modem in IDLE, and the quiet line out of a
connection (R1, R3, R15, R49, R52, R68, R170). -/

namespace Sys2Proof.Machine

variable {s t : State}

/-- What every step keeps of the line side. -/
structure LineLegal (s : State) : Prop where
  params : ParamsAgree s.params
  modem  : ModemLegal s.modem
  quiet  : QuietLine s

theorem connected_congr (h : t.modem = s.modem) : connected t = connected s := by simp [connected, h]

/-- What touches neither the parameters, the Modem, the keyboard transmit FIFO nor the flow codes keeps the line legal. -/
theorem LineLegal.of_same (h : LineLegal s) (same : t.params = s.params ∧ t.modem = s.modem ∧
    t.kbd.txFifo = s.kbd.txFifo ∧ t.disp.flow = s.disp.flow ∧ t.disp.pendingFlow = s.disp.pendingFlow) :
    LineLegal t := by
  obtain ⟨hp, hm, hx, hf, hc⟩ := same
  have hon := connected_congr hm
  refine ⟨hp ▸ h.params, hm ▸ h.modem, ?_, ?_, ?_⟩ <;> rw [hon]
  · rw [hx]; exact h.quiet.txFifo
  · rw [hf]; exact h.quiet.flow
  · rw [hc]; exact h.quiet.pending

/-- In a connection nothing is asked of the keyboard transmit FIFO or the flow codes. -/
theorem quietLine_of_connected (h : connected s = true) : QuietLine s := by constructor <;> simp [h]

theorem LineLegal.of_connected (h : LineLegal s) (hon : connected s = true)
    (same : t.params = s.params ∧ t.modem = s.modem) : LineLegal t := by
  obtain ⟨hp, hm⟩ := same
  exact ⟨hp ▸ h.params, hm ▸ h.modem, quietLine_of_connected (by rw [connected_congr hm, hon])⟩

/-! ### Reset -/

theorem modemLegal_reset : ModemLegal {} := ⟨fun _ => rfl, fun h => absurd rfl h⟩

theorem paramsAgree_defaults : ParamsAgree {} := by constructor <;> decide

theorem resetPart_lineLegal (c : ResetCause) (s : State) : LineLegal (resetPart c s) :=
  ⟨paramsAgree_defaults, modemLegal_reset, ⟨fun _ => rfl, fun _ => rfl, fun _ => rfl⟩⟩

/-! ### Flow control and the receive FIFO -/

/-- R50, R52: out of a connection the flow conditions are not judged. -/
theorem judgeFlow_unconnected (h : connected s = false) : judgeFlow s = s := by simp [judgeFlow, h]

theorem judgeFlow_lineLegal (h : LineLegal s) : LineLegal (judgeFlow s) := by
  cases hon : connected s with
  | false => rwa [judgeFlow_unconnected hon]
  | true => exact h.of_connected hon (by simp)

theorem placeEntry_lineLegal (e : Entry) (h : LineLegal s) : LineLegal (placeEntry e s) := by
  unfold placeEntry
  split
  · exact h
  split
  · exact h.of_same (by simp)
  · exact judgeFlow_lineLegal (h.of_same (by simp))

theorem removeHead_lineLegal (h : LineLegal s) : LineLegal (removeHead s) :=
  judgeFlow_lineLegal (h.of_same (by simp))

theorem setRoute_lineLegal (r : Route) (h : LineLegal s) : LineLegal (setRoute r s) := judgeFlow_lineLegal (h.of_same (by simp))

theorem finishHead_lineLegal (h : LineLegal s) : LineLegal (finishHead s) := by
  unfold finishHead
  split
  · exact removeHead_lineLegal h
  · exact h

theorem takeOverflow_lineLegal (n : Nat) (h : LineLegal s) : LineLegal (takeOverflow n s) :=
  setRoute_lineLegal _ (h.of_same (by simp))

theorem offerTake_lineLegal (h : LineLegal s) : LineLegal (offerTake s) := by
  unfold offerTake
  split
  · split
    · split
      · exact h.of_same (by simp)
      · exact takeOverflow_lineLegal _ h
      · exact h
    · exact h
  · exact h

theorem offerHead_lineLegal (h : LineLegal s) : LineLegal (offerHead s) := finishHead_lineLegal (offerTake_lineLegal h)

theorem takeNotice_lineLegal (h : LineLegal s) : LineLegal (takeNotice s) :=
  offerHead_lineLegal (setRoute_lineLegal _ h)

theorem refuseRoute_lineLegal (n : Nat) (h : LineLegal s) : LineLegal (refuseRoute n s) := by
  unfold refuseRoute
  exact (setRoute_lineLegal .print h).of_same (by simp)

theorem enterRoute_lineLegal (r : Route) (isReset : Bool) (h : LineLegal s) : LineLegal (enterRoute r isReset s) := by
  unfold enterRoute
  split
  · exact setRoute_lineLegal _ h
  split
  · split
    · exact setRoute_lineLegal _ h
    · exact refuseRoute_lineLegal _ h
  split
  · exact setRoute_lineLegal _ h
  split
  · exact refuseRoute_lineLegal _ h
  · exact setRoute_lineLegal _ (h.of_same (by simp))

theorem changeRoute_lineLegal (r : Route) (isReset : Bool) (h : LineLegal s) : LineLegal (changeRoute r isReset s) :=
  offerHead_lineLegal (enterRoute_lineLegal r isReset (h.of_same (by simp)))

theorem resetRoute_lineLegal (h : LineLegal s) : LineLegal (resetRoute s) := changeRoute_lineLegal _ _ h

theorem designate_lineLegal (v : Nat) (h : LineLegal s) : LineLegal (designate v s) := by
  unfold designate
  split
  · split
    · exact h
    · exact changeRoute_lineLegal _ _ h
  · split
    · exact h.of_same (by simp)
    · exact (changeRoute_lineLegal .print false h).of_same (by simp)

theorem examineHead_lineLegal (h : LineLegal s) : LineLegal (examineHead s) := by
  unfold examineHead
  split
  · exact h
  split
  · exact h
  split
  case h_1 =>
    split
    · exact (removeHead_lineLegal h).of_same (by simp)
    · exact designate_lineLegal _ (removeHead_lineLegal h)
  case h_2 => exact removeHead_lineLegal (h.of_same (by simp))
  case h_3 => exact removeHead_lineLegal (h.of_same (by simp))
  case h_4 => exact removeHead_lineLegal (h.of_same (by simp))
  case h_5 => exact offerHead_lineLegal (h.of_same (by simp))

/-! ### Print input and the translator -/

theorem depositEntry_lineLegal (e : PrintEntry) (h : LineLegal s) : LineLegal (depositEntry e s) :=
  judgeFlow_lineLegal (h.of_same (by simp))

theorem freeInputIf_lineLegal {p : Prop} [Decidable p] (h : LineLegal s) : LineLegal (if p then freeInput s else s) := by
  split
  · exact h.of_same (by simp)
  · exact h

theorem connected_of_effectiveMode (h : effectiveMode s = .full ∨ effectiveMode s = .half) : connected s = true := by
  unfold effectiveMode at h
  cases hm : s.kbd.mode <;> cases hon : connected s <;> simp [hm, hon] at h ⊢

/-- R62, R68: a keystroke joins the keyboard transmit FIFO only in a connection. -/
theorem deliverChar_lineLegal (c : Code) (h : LineLegal s) : LineLegal (deliverChar c s) := by
  have sunk : LineLegal (match effectiveMode s with
      | .full | .half => s.setKbd { s.kbd with txFifo := s.kbd.txFifo ++ [c] }
      | .compose => composeAccept c s
      | .local_ | .relay => s) := by
    split
    case h_1 hm => exact h.of_connected (connected_of_effectiveMode (.inl hm)) (by simp)
    case h_2 hm => exact h.of_connected (connected_of_effectiveMode (.inr hm)) (by simp)
    case h_3 => exact h.of_same (by simp)
    case h_4 => exact h
    case h_5 => exact h
  unfold deliverChar
  dsimp only
  split
  · exact freeInputIf_lineLegal (depositEntry_lineLegal _ sunk)
  · exact sunk

theorem judgeMake_lineLegal (p : Nat) (c : Code) (h : LineLegal s) : LineLegal (judgeMake p c s) := by
  unfold judgeMake
  split
  · exact h.of_same (by simp)
  split
  · exact (deliverChar_lineLegal c h).of_same (by simp)
  · exact h.of_same (by simp)

theorem judgeRepeat_lineLegal (c : Code) (h : LineLegal s) : LineLegal (judgeRepeat c s) := by
  unfold judgeRepeat
  split
  · exact h.of_same (by simp)
  split
  · exact (deliverChar_lineLegal c h).of_same (by simp)
  · exact h.of_same (by simp)

theorem judgeHead_lineLegal (h : LineLegal s) : LineLegal (judgeHead s) := by
  unfold judgeHead
  split
  · exact h
  split
  · exact h.of_same (by simp)
  · split
    · exact judgeRepeat_lineLegal _ h
    · exact h.of_same (by simp)
  · split
    · exact h.of_same (by simp)
    · dsimp only
      split
      · exact judgeMake_lineLegal _ _ h
      · exact h.of_same (by simp)

theorem lineDeposit_lineLegal (h : LineLegal s) : LineLegal (lineDeposit s) := by
  unfold lineDeposit
  split
  · exact h
  next e _ _ =>
    have hd := depositEntry_lineLegal ⟨e.code, e.poisoned, e.gap, .line⟩ h
    exact finishHead_lineLegal (freeInputIf_lineLegal (hd.of_same (by simp)))

theorem linkDeposit_lineLegal (h : LineLegal s) : LineLegal (linkDeposit s) := by
  unfold linkDeposit
  split
  · exact h
  · exact freeInputIf_lineLegal (depositEntry_lineLegal _ (h.of_same (by simp)))

theorem reprintDeposit_lineLegal (h : LineLegal s) : LineLegal (reprintDeposit s) := by
  unfold reprintDeposit
  split
  · exact h
  next e _ =>
    have hd := depositEntry_lineLegal e h
    exact freeInputIf_lineLegal (hd.of_same (by simp))

theorem depositOf_lineLegal (c : Claimant) (h : LineLegal s) : LineLegal (depositOf c s) := by
  cases c with
  | line => exact lineDeposit_lineLegal h
  | keys => exact judgeHead_lineLegal h
  | link => exact linkDeposit_lineLegal h
  | reprint => exact reprintDeposit_lineLegal h

theorem offerNext_lineLegal (c : Claimant) (h : LineLegal s) : LineLegal (offerNext c s) := by
  unfold offerNext
  split
  · exact examineHead_lineLegal h
  · exact h.of_same (by simp)
  · exact h
  · exact h

theorem afterDeposit_lineLegal (nextFirst : Bool) (c : Claimant) (h : LineLegal s) :
    LineLegal (afterDeposit nextFirst c s) := by
  unfold afterDeposit
  split
  · exact h
  split
  · exact (offerNext_lineLegal c h).of_same (by simp)
  · exact h.of_same (by simp)

theorem takeEntry_lineLegal (e : PrintEntry) (h : LineLegal s) : LineLegal (takeEntry e s) := by
  have hj : LineLegal (judgeFlow (s.setComp { s.comp with queue := s.comp.queue.tail })) :=
    judgeFlow_lineLegal (h.of_same (by simp))
  unfold takeEntry
  exact hj.of_same (by simp)

/-! ### The store and the settling -/

theorem takeWriteFailed_lineLegal (w : DataWrite) (h : LineLegal s) : LineLegal (takeWriteFailed w s) := by
  unfold takeWriteFailed
  split
  · exact h
  · dsimp only
    split
    · exact h.of_same (by simp)
    · exact takeNotice_lineLegal (h.of_same (by simp))

theorem dataWriteFailed_lineLegal (c : PortClaimant) (w : DataWrite) (b : Option Nat) (h : LineLegal s) :
    LineLegal (dataWriteFailed c w b s) := by
  unfold dataWriteFailed
  dsimp only
  split
  · exact takeWriteFailed_lineLegal w (h.of_same (by simp))
  · exact h.of_same (by simp)
  · exact h.of_same (by simp)

theorem attemptFailed_lineLegal (c : PortClaimant) (w : DataWrite) (b : Nat) (h : LineLegal s) :
    LineLegal (attemptFailed c w b s) := by
  unfold attemptFailed
  dsimp only
  split
  · exact dataWriteFailed_lineLegal _ _ _ (h.of_same (by simp))
  · split <;> exact h.of_same (by simp)

theorem deleteFailed_lineLegal (j : DeleteJob) (b : Nat) (h : LineLegal s) : LineLegal (deleteFailed j b s) := by
  unfold deleteFailed
  dsimp only
  split
  · split
    · exact takeNotice_lineLegal (h.of_same (by simp))
    · exact h.of_same (by simp)
  · exact h.of_same (by simp)

theorem releaseFailed_lineLegal (b : Nat) (h : LineLegal s) : LineLegal (releaseFailed b s) := by
  unfold releaseFailed
  dsimp only
  split
  · split <;> exact h.of_same (by simp)
  · split
    · exact deleteFailed_lineLegal _ _ (h.of_same (by simp))
    · exact h.of_same (by simp)

theorem attemptLost_lineLegal (f : InFlight) (h : LineLegal s) : LineLegal (attemptLost f s) := by
  unfold attemptLost
  split
  · exact attemptFailed_lineLegal _ _ _ h
  · exact releaseFailed_lineLegal _ h
  · exact h
  · exact h

theorem writeOutcome_lineLegal (matched : Bool) (h : LineLegal s) : LineLegal (writeOutcome matched s) := by
  unfold writeOutcome
  split
  · exact h
  split
  · exact h.of_same (by simp)
  split
  · exact attemptLost_lineLegal _ (h.of_same (by simp))
  · exact h.of_same (by simp)

theorem takeTurn_lineLegal (h : LineLegal s) : LineLegal (takeTurn s) := by
  have ho : LineLegal (offerHead (takeSettle s)) := offerHead_lineLegal (h.of_same (by simp))
  unfold takeTurn
  exact ho.of_same (by simp)

theorem channelsSettle_lineLegal (h : LineLegal s) : LineLegal (channelsSettle s) := by
  have ht : LineLegal (takeTurn (deleteTurn (deleteTurn s))) := takeTurn_lineLegal (h.of_same (by simp))
  unfold channelsSettle
  exact ht.of_same (by simp)

theorem portTurn_lineLegal (h : LineLegal s) : LineLegal (portTurn s) := by
  unfold portTurn
  split
  · exact h
  split
  · exact h
  · exact h.of_same (by simp)
  · split
    · exact h.of_same (by simp)
    · exact dataWriteFailed_lineLegal _ _ _ h
  · exact h

theorem storeSettle_lineLegal (h : LineLegal s) : LineLegal (storeSettle s) := by
  have turn {x : State} (hx : LineLegal x) : LineLegal (portTurn (channelsSettle x)) :=
    portTurn_lineLegal (channelsSettle_lineLegal hx)
  exact channelsSettle_lineLegal (turn (turn (turn (turn (turn h)))))

/-! ### The Engine -/

theorem snapMeasure_lineLegal (v : Nat) (h : LineLegal s) : LineLegal (snapMeasure v s) := by
  unfold snapMeasure
  split
  · exact resetPart_lineLegal _ _
  · exact h.of_same (by simp)

theorem stepPaper_lineLegal (h : LineLegal s) : LineLegal (stepPaper s) := h.of_same (by simp)

theorem startDotLine_lineLegal (v : Nat) (job : Job) (h : LineLegal s) : LineLegal (startDotLine v job s) := by
  unfold startDotLine
  dsimp only
  split
  · exact snapMeasure_lineLegal _ (h.of_same (by simp))
  · exact stepPaper_lineLegal (snapMeasure_lineLegal _ (h.of_same (by simp)))

theorem atBoundary_lineLegal (v : Nat) (evs : List PrintEvent) (h : LineLegal s) : LineLegal (atBoundary v evs s) := by
  unfold atBoundary
  dsimp only
  split
  · exact h.of_same (by simp)
  · split
    · exact startDotLine_lineLegal _ _ (h.of_same (by simp))
    · exact h.of_same (by simp)

theorem engineSettle_lineLegal (v : Nat) (h : LineLegal s) : LineLegal (engineSettle v s) := by
  unfold engineSettle
  split
  · exact atBoundary_lineLegal _ _ (h.of_same (by simp))
  · exact h

theorem engineChanged_lineLegal (v : Nat) (evs : List PrintEvent) (h : LineLegal s) :
    LineLegal (engineChanged v evs s) := by
  unfold engineChanged
  split
  · exact h
  split
  · split
    · exact h.of_same (by simp)
    · exact atBoundary_lineLegal _ _ h
  · exact h.of_same (by simp)

theorem supplyReading_lineLegal (v : Nat) (r : Therm) (h : LineLegal s) : LineLegal (supplyReading v r s) := by
  unfold supplyReading
  dsimp only
  split
  · exact resetPart_lineLegal _ _
  · exact h.of_same (by simp)

theorem coincide_lineLegal (r : Coincident) (h : LineLegal s) : LineLegal (coincide r s) := by
  unfold coincide
  dsimp only
  split
  · exact supplyReading_lineLegal _ _ (h.of_same (by simp))
  · exact h.of_same (by simp)

theorem completeLine_lineLegal (v : Nat) (h : LineLegal s) : LineLegal (completeLine v s) := by
  unfold completeLine
  dsimp only
  split
  · exact h.of_same (by simp)
  · exact atBoundary_lineLegal _ _ (h.of_same (by simp))

theorem settle_lineLegal : SettleKeeps LineLegal :=
  settleKeeps_of (fun _ _ h => (storeSettle_lineLegal h).of_same (by simp)) (fun _ _ h => engineSettle_lineLegal _ h)
    (fun _ h => h.of_same (by simp))

/-! ### The supply -/

theorem powerCondition_lineLegal (h : LineLegal s) : LineLegal (powerCondition s).1 := by
  unfold powerCondition
  split
  · exact h.of_same (by simp)
  · exact h

theorem heatCondition_lineLegal (h : LineLegal s) : LineLegal (heatCondition s).1 :=
  h.of_same ⟨rfl, rfl, rfl, rfl, rfl⟩

theorem measure_lineLegal (v : Nat) (r : Therm) (snap : Nat) (paper : Option Bool) (h : LineLegal s) :
    LineLegal (measure v r snap paper s) := by
  have hr := supplyReading_lineLegal v r h
  unfold measure engineMeasured
  dsimp only
  split
  · exact hr
  have hseen : LineLegal (paperSeen paper (supplyReading v r s)) := hr.of_same (by simp)
  have hh := heatCondition_lineLegal (powerCondition_lineLegal hseen)
  split
  · exact hh
  · exact engineChanged_lineLegal _ _ hh

theorem measureHeld_lineLegal (v : Nat) (r : Therm) (h : LineLegal s) : LineLegal (measureHeld v r s) := h.of_same (by simp)

/-! ### Changes of modem state -/

/-- R1: a Modem out of IDLE needs only its role. -/
theorem modemLegal_of_role {m : Modem} (hs : m.state ≠ .idle) (hr : m.role ≠ none) : ModemLegal m :=
  ⟨fun h => absurd h hs, fun _ => hr⟩

/-- The Modem takes a state out of IDLE; from an unconnected state to an unconnected one, or into a connection. -/
theorem LineLegal.modemBecomes (h : LineLegal s) {m : Modem} (hs : m.state ≠ .idle) (hr : m.role ≠ none)
    (hc : m.state.isConnected = false → connected s = false) : LineLegal (modemBecomes m s) :=
  ⟨h.params, modemLegal_of_role hs hr,
    ⟨fun x => h.quiet.txFifo (hc x), fun x => h.quiet.flow (hc x), fun x => h.quiet.pending (hc x)⟩⟩

theorem LineLegal.setModem (h : LineLegal s) {m : Modem} (hs : m.state ≠ .idle) (hr : m.role ≠ none)
    (hc : m.state.isConnected = false → connected s = false) : LineLegal (s.setModem m) :=
  (h.modemBecomes hs hr hc).of_same ⟨rfl, rfl, rfl, rfl, rfl⟩

theorem qualifyMeasure_lineLegal (h : LineLegal s) (hs : s.modem.state = .waitCarrier) :
    LineLegal (qualifyMeasure s) :=
  h.setModem (by simp [hs]) (h.modem.role (by simp [hs])) (fun _ => by simp [connected, hs, ModemState.isConnected])

theorem dropoutMeasure_lineLegal (h : LineLegal s) (hs : s.modem.state = .connected) :
    LineLegal (dropoutMeasure s) := by
  unfold dropoutMeasure
  split
  · exact (h.modemBecomes (m := { s.modem with state := .dropout, loss := .running s.params.lossTime }) nofun
      (h.modem.role (by simp [hs])) nofun).of_same (by simp)
  · exact h

theorem recoverMeasure_lineLegal (h : LineLegal s) (hs : s.modem.state = .dropout) : LineLegal (recoverMeasure s) := by
  unfold recoverMeasure
  split
  · exact (h.modemBecomes (m := { s.modem with state := .connected, loss := .stopped }) nofun
      (h.modem.role (by simp [hs])) nofun).of_same (by simp)
  · exact h

theorem measureCarrier_lineLegal (level : Nat) (h : LineLegal s) (hs : s.modem.state ≠ .idle) :
    LineLegal (measureCarrier level s) := by
  have hl : LineLegal (s.setModem { s.modem with level := carrierLevel level }) :=
    h.setModem hs (h.modem.role hs) id
  unfold measureCarrier
  dsimp only
  split
  case h_1 => exact hl
  case h_2 hm => exact qualifyMeasure_lineLegal hl hm
  case h_3 hm => exact dropoutMeasure_lineLegal hl hm
  case h_4 hm => exact recoverMeasure_lineLegal hl hm

/-- R28, R29, R52: what a connection begins with. -/
theorem enterConnected_lineLegal (h : LineLegal s) (hs : s.modem.state = .waitCarrier) :
    LineLegal (enterConnected s) := by
  unfold enterConnected
  dsimp only
  refine resetRoute_lineLegal (judgeFlow_lineLegal ?_)
  have hm : LineLegal (Machine.modemBecomes { s.modem with state := .connected, qualify := .stopped, connect := .stopped }
      (s.setDraws (s.draws + 1))) :=
    LineLegal.modemBecomes (h.of_same (by simp)) nofun (h.modem.role (by simp [hs])) nofun
  exact hm.of_connected rfl (by simp)

/-- R28, R45, R52, R68: a connection that has ended leaves a quiet line. -/
theorem leaveConnection_lineLegal (hp : ParamsAgree s.params) (hm : ModemLegal s.modem) : LineLegal (leaveConnection s) := by
  unfold leaveConnection
  refine resetRoute_lineLegal ⟨?_, ?_, ?_⟩
  · simpa using hp
  · simpa using hm
  · constructor <;> intro _ <;> simp [resetFlow]

theorem enterIdle_lineLegal (e : ModemEvent) (h : LineLegal s) : LineLegal (enterIdle e s) := by
  unfold enterIdle
  dsimp only
  split
  · exact leaveConnection_lineLegal (by simpa using h.params) (by simpa [modemIdle, modemBecomes] using modemLegal_reset)
  next hc =>
    have hoff : connected s = false := by simpa using hc
    have hi : LineLegal (modemIdle s) := ⟨h.params, modemLegal_reset,
      ⟨fun _ => h.quiet.txFifo hoff, fun _ => h.quiet.flow hoff, fun _ => h.quiet.pending hoff⟩⟩
    exact hi.of_same (by simp)

theorem connectEffect_lineLegal (b : Byte) (h : LineLegal s) : LineLegal (connectEffect b s).1 := by
  unfold connectEffect
  split
  · exact h
  split
  next hi => exact h.modemBecomes nofun nofun (fun _ => by simp [connected, hi, ModemState.isConnected])
  · exact h

theorem dropEffect_lineLegal (h : LineLegal s) : LineLegal (dropEffect s).1 := by
  unfold dropEffect
  split
  · exact h
  · exact enterIdle_lineLegal _ h

/-! ### Parameters -/

section Parameters

variable {p q : Params} {v lo hi : Nat} {r : Stored}

theorem storeNumeric_some {f : Nat → Params} (h : storeNumeric lo hi v f = some r) : ∃ x, r.params = f x := by
  cases h
  exact ⟨_, rfl⟩

theorem storeFlag_some {f : Bool → Params} (h : storeFlag v f = some r) : ∃ b, r.params = f b := by
  unfold storeFlag at h
  split at h
  · cases h
    exact ⟨_, rfl⟩
  · cases h

theorem storeListed_some {ok : Bool} (h : storeListed ok p = some r) : ok = true ∧ r.params = p := by
  unfold storeListed at h
  split at h
  next hok =>
    cases h
    exact ⟨hok, rfl⟩
  · cases h

theorem ParamsAgree.of_same (h : ParamsAgree p)
    (same : q.offThreshold = p.offThreshold ∧ q.onThreshold = p.onThreshold ∧ q.lowWater = p.lowWater ∧
      q.highWater = p.highWater ∧ q.criticalThreshold = p.criticalThreshold ∧ q.lowThreshold = p.lowThreshold ∧
      q.pauseCode = p.pauseCode ∧ q.resumeCode = p.resumeCode) : ParamsAgree q := by
  obtain ⟨hoff, hon, hl, hh, hc, ht, hpc, hrc⟩ := same
  exact ⟨by rw [hoff, hon]; exact h.carrier, by rw [hl, hh]; exact h.water, by rw [hc, ht]; exact h.power,
    by rw [hpc, hrc]; exact h.codes⟩

/-- R49: a code stored as a value differs from another code that the value differs from. -/
theorem ofNat_ne_of_ne_toNat {c : Code} (hv : v ≤ 0x7F) (h : v ≠ c.toNat) : BitVec.ofNat 7 v ≠ c := by
  rintro rfl
  exact h (by simp; omega)

/-- R3, R49, R170: a value that is stored leaves the dependent parameters in agreement. -/
theorem store_paramsAgree (k : Param) (h : ParamsAgree p) (hs : k.store v p = some r) : ParamsAgree r.params := by
  obtain ⟨carrier, water, power, codes⟩ := id h
  cases k with
  | onThreshold =>
    cases hs
    exact ⟨by simp only [storeOn, clamp]; omega, water, power, codes⟩
  | offThreshold =>
    cases hs
    exact ⟨by simp only [storeOff]; omega, water, power, codes⟩
  | highWater =>
    cases hs
    exact ⟨carrier, by simp only [storeHigh, clamp]; omega, power, codes⟩
  | lowWater =>
    cases hs
    exact ⟨carrier, by simp only [storeLow]; omega, power, codes⟩
  | lowThreshold =>
    cases hs
    exact ⟨carrier, water, by simp only [storeLowThreshold, clamp]; omega, codes⟩
  | criticalThreshold =>
    cases hs
    exact ⟨carrier, water, by simp only [storeCritical]; omega, codes⟩
  | pauseCode =>
    obtain ⟨ok, hr⟩ := storeListed_some hs
    simp only [Bool.and_eq_true, decide_eq_true_eq] at ok
    exact hr ▸ ⟨carrier, water, power, ofNat_ne_of_ne_toNat ok.1 ok.2⟩
  | resumeCode =>
    obtain ⟨ok, hr⟩ := storeListed_some hs
    simp only [Bool.and_eq_true, decide_eq_true_eq] at ok
    exact hr ▸ ⟨carrier, water, power, (ofNat_ne_of_ne_toNat ok.1 ok.2).symm⟩
  | qualifyTime | lossTime | connectTimeout | attenuation | breakLength | repeatDelay | repeatInterval
  | ownershipTimeout | tabInterval | formLength | idleFlush | darkness | headResistance | currentBudget
  | faultThreshold | sectorThreshold | patrolInterval =>
    dsimp only [Param.store] at hs
    obtain ⟨x, hr⟩ := storeNumeric_some hs
    exact hr ▸ (h.of_same (by simp))
  | routeBit | flowControl | composeEcho | autoWrap | autoLf | elementPatrol | takeReplaces =>
    dsimp only [Param.store] at hs
    obtain ⟨b, hr⟩ := storeFlag_some hs
    exact hr ▸ (h.of_same (by simp))
  | bitRate | parity | stopBits | defaultRoute | sendEndCode | reportMask =>
    obtain ⟨-, hr⟩ := storeListed_some hs
    exact hr ▸ (h.of_same (by simp))

end Parameters

theorem paramSet_lineLegal (old : Params) (k : Param) (h : LineLegal s) : LineLegal (paramSet old k s) := by
  unfold paramSet
  split
  case h_2 => exact judgeFlow_lineLegal h
  case h_3 => exact judgeFlow_lineLegal h
  case h_9 => exact h
  all_goals exact h.of_same (by simp)

theorem setParameterEffect_lineLegal (id : Byte) (x : Half) (h : LineLegal s) :
    LineLegal (setParameterEffect id x s).1 := by
  unfold setParameterEffect
  split
  · exact h
  split
  · exact h
  split
  · exact h
  next hr =>
    refine paramSet_lineLegal _ _ ?_
    exact ⟨store_paramsAgree _ h.params hr, h.modem, ⟨h.quiet.txFifo, h.quiet.flow, h.quiet.pending⟩⟩

/-! ### Requests that leave the line side alone -/

theorem transmitTextEffect_lineLegal (text : List Byte) (h : LineLegal s) : LineLegal (transmitTextEffect text s).1 := by
  unfold transmitTextEffect
  (repeat' split) <;> exact h.of_same (by simp)

theorem sendBreakEffect_lineLegal (h : LineLegal s) : LineLegal (sendBreakEffect s).1 := by
  unfold sendBreakEffect
  (repeat' split) <;> exact h.of_same (by simp)

theorem setAnswerbackEffect_lineLegal (text : List Byte) (h : LineLegal s) : LineLegal (setAnswerbackEffect text s).1 := by
  unfold setAnswerbackEffect
  (repeat' split) <;> exact h.of_same (by simp)

theorem setKeymapEntryEffect_lineLegal (p l e : Byte) (h : LineLegal s) : LineLegal (setKeymapEntryEffect p l e s).1 := by
  unfold setKeymapEntryEffect
  dsimp only
  (repeat' split) <;> exact h.of_same (by simp)

theorem setKeyboardModeEffect_lineLegal (m : Byte) (h : LineLegal s) : LineLegal (setKeyboardModeEffect m s).1 := by
  unfold setKeyboardModeEffect
  (repeat' split) <;> exact h.of_same (by simp)

theorem lockKeyboardEffect_lineLegal (l : Byte) (h : LineLegal s) : LineLegal (lockKeyboardEffect l s).1 := by
  unfold lockKeyboardEffect
  (repeat' split) <;> exact h.of_same (by simp)

theorem printTextEffect_lineLegal (text : List Byte) (h : LineLegal s) : LineLegal (printTextEffect text s).1 := by
  unfold printTextEffect
  (repeat' split) <;> exact h.of_same (by simp)

theorem paperFeedEffect_lineLegal (n : Byte) (h : LineLegal s) : LineLegal (paperFeedEffect n s).1 := by
  unfold paperFeedEffect
  (repeat' split) <;> exact h.of_same (by simp)

theorem setHeadMarkEffect_lineLegal (b : Byte) (e : Half) (h : LineLegal s) : LineLegal (setHeadMarkEffect b e s).1 := by
  unfold setHeadMarkEffect
  (repeat' split) <;> exact h.of_same (by simp)

theorem storeInfoEffect_lineLegal (h : LineLegal s) : LineLegal (storeInfoEffect s).1 := by
  unfold storeInfoEffect
  (repeat' split) <;> exact h.of_same (by simp)

theorem docListEffect_lineLegal (h : LineLegal s) : LineLegal (docListEffect s).1 := by
  unfold docListEffect
  (repeat' split) <;> exact h.of_same (by simp)

theorem docInfoEffect_lineLegal (d : Byte) (h : LineLegal s) : LineLegal (docInfoEffect d s).1 := by
  unfold docInfoEffect
  (repeat' split) <;> exact h.of_same (by simp)

theorem deleteEffect_lineLegal (d : Byte) (h : LineLegal s) : LineLegal (deleteEffect d s).1 := by
  unfold deleteEffect
  dsimp only
  (repeat' split) <;> exact h.of_same (by simp)

theorem formatStoreEffect_lineLegal (h : LineLegal s) : LineLegal (formatStoreEffect s).1 := by
  unfold formatStoreEffect
  (repeat' split) <;> exact h.of_same (by simp)

theorem remountEffect_lineLegal (h : LineLegal s) : LineLegal (remountEffect s).1 := by
  unfold remountEffect
  (repeat' split) <;> exact h.of_same (by simp)

theorem sendEffect_lineLegal (d : Byte) (h : LineLegal s) : LineLegal (sendEffect d s).1 := by
  unfold sendEffect
  dsimp only
  (repeat' split) <;> exact h.of_same (by simp)

theorem reprintEffect_lineLegal (d m : Byte) (h : LineLegal s) : LineLegal (reprintEffect d m s).1 := by
  unfold reprintEffect
  dsimp only
  (repeat' split) <;> exact h.of_same (by simp)

theorem composeStartEffect_lineLegal (d a : Byte) (h : LineLegal s) : LineLegal (composeStartEffect d a s).1 := by
  unfold composeStartEffect
  (repeat' split) <;> exact h.of_same (by simp)

theorem composeEndEffect_lineLegal (h : LineLegal s) : LineLegal (composeEndEffect s).1 := by
  unfold composeEndEffect
  (repeat' split) <;> exact h.of_same (by simp)

theorem getStatusEffect_lineLegal (n : Byte) (h : LineLegal s) : LineLegal (getStatusEffect n s).1 := by
  unfold getStatusEffect
  (repeat' split) <;> exact h.of_same (by simp)

theorem getParameterEffect_lineLegal (id : Byte) (h : LineLegal s) : LineLegal (getParameterEffect id s).1 := by
  unfold getParameterEffect
  (repeat' split) <;> exact h.of_same (by simp)

theorem readKeysEffect_lineLegal (h : LineLegal s) : LineLegal (readKeysEffect s).1 := by
  unfold readKeysEffect
  exact h.of_same (by simp)

theorem clearHeadMapEffect_lineLegal (h : LineLegal s) : LineLegal (clearHeadMapEffect s).1 := by
  unfold clearHeadMapEffect
  exact h.of_same (by simp)

theorem stopSendEffect_lineLegal (h : LineLegal s) : LineLegal (stopSendEffect s).1 := by
  unfold stopSendEffect
  exact h.of_same (by simp)

theorem stopReprintEffect_lineLegal (h : LineLegal s) : LineLegal (stopReprintEffect s).1 := by
  unfold stopReprintEffect
  exact h.of_same (by simp)

theorem clearFaultsEffect_lineLegal (h : LineLegal s) : LineLegal (clearFaultsEffect s).1 := by
  unfold clearFaultsEffect
  exact h.of_same (by simp)

theorem clearHeadEffect_lineLegal (v : Nat) (r : Coincident) (h : LineLegal s) :
    LineLegal (clearHeadEffect v r s).1 := by
  unfold clearHeadEffect
  split
  · split
    · exact engineChanged_lineLegal _ _ (coincide_lineLegal r (h.of_same (by simp)))
    · exact h
  · exact h

/-! ### Every command -/

theorem LineLegal.setLink {x : State} (l : Link) (h : LineLegal x) : LineLegal (x.setLink l) := h.of_same (by simp)

theorem request_lineLegal (h : LineLegal s) {volts : Option Nat} {kind : Byte} {payload : List Byte}
    {effect : State → State × List Byte} (he : ∀ x, LineLegal x → LineLegal (effect x).1) :
    After LineLegal (request volts kind payload effect s) := settle_lineLegal.request LineLegal.setLink h he

theorem completeCharacter_lineLegal (sounds : List (List Sound)) (h : LineLegal s) :
    LineLegal (completeCharacter sounds s) := by
  unfold completeCharacter
  split
  · unfold characterEnds
    split
    · exact h.of_same (by simp)
    · exact placeEntry_lineLegal _ (h.of_same (by simp))
  · exact h

/-- R68: the keyboard transmit FIFO gives characters only in a connection. -/
theorem execHoldingStageRefill_lineLegal (h : LineLegal s) : After LineLegal (execHoldingStageRefill s) := by
  refine settle_lineLegal.performWhen h fun hp => ?_
  simp only [Bool.and_eq_true, transmitting] at hp
  obtain ⟨⟨⟨hon, -⟩, -⟩, -⟩ := hp
  exact h.of_connected hon (by simp)

theorem execBreakReceived_lineLegal (h : LineLegal s) : After LineLegal (execBreakReceived s) := by
  refine settle_lineLegal.performWhen h fun _ => ?_
  have hr : LineLegal (resetRoute (setSampler .markWait s)) := resetRoute_lineLegal (h.of_same (by simp))
  exact hr.of_same (by simp)

theorem execQualifyTimeExpiry_lineLegal (h : LineLegal s) : After LineLegal (execQualifyTimeExpiry s) := by
  refine settle_lineLegal.performWhen h fun hp => enterConnected_lineLegal h ?_
  simp only [Bool.and_eq_true, decide_eq_true_eq] at hp
  exact hp.1

theorem execBreakWatchMark_lineLegal (h : LineLegal s) : After LineLegal (execBreakWatchMark s) := by
  unfold execBreakWatchMark
  split
  · exact settle_lineLegal.perform h (placeEntry_lineLegal _ (h.of_same (by simp)))
  · exact after_next h

theorem execAutoRepeatExpiry_lineLegal (h : LineLegal s) : After LineLegal (execAutoRepeatExpiry s) := by
  unfold execAutoRepeatExpiry
  split
  · exact settle_lineLegal.perform h (h.of_same (by simp))
  · exact after_next h

theorem execPrintDeposit_lineLegal (nextFirst : Bool) (h : LineLegal s) :
    After LineLegal (execPrintDeposit nextFirst s) := by
  unfold execPrintDeposit
  split
  · exact settle_lineLegal.performWhen h fun _ => afterDeposit_lineLegal _ _ (depositOf_lineLegal _ h)
  · exact after_next h

theorem execComposerTakeHead_lineLegal (v : Nat) (h : LineLegal s) : After LineLegal (execComposerTakeHead v s) := by
  unfold execComposerTakeHead
  split
  · exact settle_lineLegal.performWhen h fun _ => takeEntry_lineLegal _ h
  · exact after_next h

theorem execStoreReadBlock_lineLegal (index : Half) (h : LineLegal s) : After LineLegal (execStoreReadBlock index s) := by
  unfold execStoreReadBlock
  refine settle_lineLegal.perform h ?_
  split
  · have hs := standAtHead_keeps LineLegal.setLink ⟨0x2A, halfBytes index⟩ h
    unfold askLinkRead
    (repeat' split) <;> exact hs.of_same (by simp)
  · exact frameArrives_keeps LineLegal.setLink _ h

theorem execSupplyMeasurement_lineLegal (v : Nat) (r : Therm) (m : Resumption) (h : LineLegal s) :
    After LineLegal (execSupplyMeasurement v r m s) := by
  unfold execSupplyMeasurement
  split
  · exact after_next (measureHeld_lineLegal _ _ h)
  · exact settle_lineLegal.perform h (measure_lineLegal _ _ _ _ h)

theorem execStartUp_lineLegal (v : Nat) (r : Therm) (paper : Bool) (h : LineLegal s) :
    After LineLegal (execStartUp v r paper s) := by
  unfold execStartUp
  split
  · exact after_next h
  split
  · exact after_next (settle_lineLegal _ _ _ (h.of_same (by simp)))
  · exact after_next (measureHeld_lineLegal _ _ h)

theorem execUnknownRequest_lineLegal (k : Byte) (p : List Byte) (h : LineLegal s) :
    After LineLegal (execUnknownRequest k p s) := by
  unfold execUnknownRequest
  split
  · exact after_next h
  split
  · exact settle_lineLegal.perform h (frameArrives_keeps LineLegal.setLink _ h)
  · exact request_lineLegal h fun _ hx => hx

theorem linkByte_lineLegal (b : Byte) (goodStop : Bool) (h : LineLegal s) :
    LineLegal ((if goodStop then receiveByte b else toHunt) s) := by
  split <;> exact h.of_same (by simp)

theorem execLinkFrameSent_lineLegal (h : LineLegal s) : After LineLegal (execLinkFrameSent s) := by
  unfold execLinkFrameSent
  split
  · refine settle_lineLegal.perform h ?_
    unfold frameSent
    split
    · exact resetPart_lineLegal _ _
    · exact h.of_same (by simp)
  · exact after_next h

theorem exec_lineLegal (c : Instr) (s : State) (h : LineLegal s) : After LineLegal (exec c s) := by
  cases c with
  | carrierMeasurement _ => exact settle_lineLegal.performWhen h fun hs => measureCarrier_lineLegal _ h (by simpa using hs)
  | qualifyTimeExpiry => exact execQualifyTimeExpiry_lineLegal h
  | connectTimeout => exact settle_lineLegal.performWhen h fun _ => enterIdle_lineLegal _ h
  | lossTimeExpiry => exact settle_lineLegal.performWhen h fun _ => enterIdle_lineLegal _ h
  | connect _ => exact request_lineLegal h fun _ hx => connectEffect_lineLegal _ hx
  | drop => exact request_lineLegal h fun _ hx => dropEffect_lineLegal hx
  | receiveCharacterComplete _ => exact settle_lineLegal.performWhen h fun _ => completeCharacter_lineLegal _ h
  | breakWatchMark => exact execBreakWatchMark_lineLegal h
  | breakReceived => exact execBreakReceived_lineLegal h
  | markWaitEnd => exact settle_lineLegal.performWhen h fun _ => h.of_same (by simp)
  | dispatchHead => exact settle_lineLegal.performWhen h fun _ => examineHead_lineLegal h
  | textHeadDelivery => exact settle_lineLegal.performWhen h fun _ => offerHead_lineLegal h
  | shiftStageEmpties => exact settle_lineLegal.performWhen h fun _ => by dsimp only; split <;> exact h.of_same (by simp)
  | holdingStageRefill => exact execHoldingStageRefill_lineLegal h
  | breakSpaceEnd => exact settle_lineLegal.performWhen h fun _ => h.of_same (by simp)
  | breakMarkEnd => exact settle_lineLegal.performWhen h fun _ => h.of_same (by simp)
  | transmitText _ => exact request_lineLegal h fun _ hx => transmitTextEffect_lineLegal _ hx
  | sendBreak => exact request_lineLegal h fun _ hx => sendBreakEffect_lineLegal hx
  | setAnswerback _ => exact request_lineLegal h fun _ hx => setAnswerbackEffect_lineLegal _ hx
  | keyScan _ => exact settle_lineLegal.perform h (h.of_same (by simp))
  | translateKeyHead _ => exact settle_lineLegal.performWhen h fun _ => judgeHead_lineLegal h
  | autoRepeatExpiry => exact execAutoRepeatExpiry_lineLegal h
  | feedRepeatExpiry _ _ => exact settle_lineLegal.performWhen h fun _ => h.of_same (by simp)
  | beeperToneEnd _ => exact settle_lineLegal.performWhen h fun _ => h.of_same (by simp)
  | setKeymapEntry _ _ _ => exact request_lineLegal h fun _ hx => setKeymapEntryEffect_lineLegal _ _ _ hx
  | setKeyboardMode _ => exact request_lineLegal h fun _ hx => setKeyboardModeEffect_lineLegal _ hx
  | lockKeyboard _ => exact request_lineLegal h fun _ hx => lockKeyboardEffect_lineLegal _ hx
  | readKeys => exact request_lineLegal h fun _ hx => readKeysEffect_lineLegal hx
  | printDeposit _ => exact execPrintDeposit_lineLegal _ h
  | ownershipTimeout => exact settle_lineLegal.performWhen h fun _ => h.of_same (by simp)
  | composerTakeHead _ => exact execComposerTakeHead_lineLegal _ h
  | idleFlushExpiry _ => exact settle_lineLegal.performWhen h fun _ => h.of_same (by simp)
  | printText _ => exact request_lineLegal h fun _ hx => printTextEffect_lineLegal _ hx
  | paperFeed _ _ => exact request_lineLegal h fun _ hx => paperFeedEffect_lineLegal _ hx
  | dotLineComplete _ => exact settle_lineLegal.performWhen h fun _ => completeLine_lineLegal _ h
  | coolDownExpiry => exact settle_lineLegal.performWhen h fun _ => h.of_same (by simp)
  | paperSensorReading _ => exact settle_lineLegal.perform h (h.of_same (by simp))
  | paperPresentExpiry _ =>
    exact settle_lineLegal.performWhen h fun _ =>
      engineChanged_lineLegal _ _ (coincide_lineLegal _ (h.of_same (by simp)))
  | hotTimerExpiry => exact settle_lineLegal.performWhen h fun _ => h.of_same (by simp)
  | clearHead _ => exact request_lineLegal h fun _ hx => clearHeadEffect_lineLegal _ _ hx
  | elementPatrolExpiry => exact settle_lineLegal.performWhen h fun _ => h.of_same (by simp)
  | elementMeasurementComplete _ => exact settle_lineLegal.performWhen h fun _ => h.of_same (by simp)
  | setHeadMark _ _ => exact request_lineLegal h fun _ hx => setHeadMarkEffect_lineLegal _ _ hx
  | clearHeadMap => exact request_lineLegal h fun _ hx => clearHeadMapEffect_lineLegal hx
  | readHeadMap => exact request_lineLegal h fun _ hx => hx
  | statusReadComplete _ => exact settle_lineLegal.performWhen h fun _ => h.of_same (by simp)
  | blockReadRetry => exact settle_lineLegal.performWhen h fun _ => h.of_same (by simp)
  | blockReadComplete _ => exact settle_lineLegal.performWhen h fun _ => h.of_same (by simp)
  | writeCompareMismatch => exact settle_lineLegal.performWhen h fun _ => h.of_same (by simp)
  | blockWriteAttemptComplete _ => exact settle_lineLegal.performWhen h fun _ => writeOutcome_lineLegal _ h
  | storePatrolExpiry => exact settle_lineLegal.performWhen h fun _ => h.of_same (by simp)
  | delete _ => exact request_lineLegal h fun _ hx => deleteEffect_lineLegal _ hx
  | formatStore => exact request_lineLegal h fun _ hx => formatStoreEffect_lineLegal hx
  | remount => exact request_lineLegal h fun _ hx => remountEffect_lineLegal hx
  | storeReadBlock _ => exact execStoreReadBlock_lineLegal _ h
  | storeInfo => exact request_lineLegal h fun _ hx => storeInfoEffect_lineLegal hx
  | docList => exact request_lineLegal h fun _ hx => docListEffect_lineLegal hx
  | docInfo _ => exact request_lineLegal h fun _ hx => docInfoEffect_lineLegal _ hx
  | send _ => exact request_lineLegal h fun _ hx => sendEffect_lineLegal _ hx
  | stopSend => exact request_lineLegal h fun _ hx => stopSendEffect_lineLegal hx
  | reprint _ _ => exact request_lineLegal h fun _ hx => reprintEffect_lineLegal _ _ hx
  | stopReprint => exact request_lineLegal h fun _ hx => stopReprintEffect_lineLegal hx
  | composeStart _ _ => exact request_lineLegal h fun _ hx => composeStartEffect_lineLegal _ _ hx
  | composeEnd => exact request_lineLegal h fun _ hx => composeEndEffect_lineLegal hx
  | supplyMeasurement _ _ _ => exact execSupplyMeasurement_lineLegal _ _ _ h
  | powerOn => exact after_next (resetPart_lineLegal _ _)
  | startUp _ _ _ => exact execStartUp_lineLegal _ _ _ h
  | reset => exact request_lineLegal h fun _ hx => hx
  | identify => exact request_lineLegal h fun _ hx => hx
  | getStatus _ => exact request_lineLegal h fun _ hx => getStatusEffect_lineLegal _ hx
  | setParameter _ _ => exact request_lineLegal h fun _ hx => setParameterEffect_lineLegal _ _ hx
  | getParameter _ => exact request_lineLegal h fun _ hx => getParameterEffect_lineLegal _ hx
  | readFaults => exact request_lineLegal h fun _ hx => hx
  | clearFaults => exact request_lineLegal h fun _ hx => clearFaultsEffect_lineLegal hx
  | unknownRequest _ _ => exact execUnknownRequest_lineLegal _ _ h
  | linkByteReceived _ _ => exact settle_lineLegal.perform h (linkByte_lineLegal _ _ h)
  | gapTimeout => exact settle_lineLegal.performWhen h fun _ => h.of_same (by simp)
  | linkFrameSent => exact execLinkFrameSent_lineLegal h
  | candidateStartBit => exact settle_lineLegal.performWhen h fun _ => h.of_same (by simp)
  | falseStart => exact settle_lineLegal.performWhen h fun _ => h.of_same (by simp)

/-- Settles O57: every operation keeps the line side legal, and a reset makes it so. -/
theorem everyStepKeepsTheLineLegal : Obligations.EveryStepKeepsTheLineLegal := by
  unfold Obligations.EveryStepKeepsTheLineLegal
  intro s t hp hm hq ht
  obtain ⟨hp, hm, hq⟩ := step_keeps (fun _ _ h => LineLegal.of_same h (by simp)) exec_lineLegal ⟨hp, hm, hq⟩ t ht
  exact ⟨hp, hm, hq⟩

end Sys2Proof.Machine
end
section
/-! PROOF. Commands that answer a state given whole: a performed command and a request in its turn. -/

namespace Sys2Proof.Machine

variable {s x y : State}

theorem Keeps.refl (x : State) : Keeps x x := by constructor <;> rfl

/-- A command whose own effect is `x`. -/
theorem Answers.of_eq {c : Instr} {s0 : State} (h : exec c s = .next (settle s0 none x)) : Answers c s x :=
  .of_settle h (.refl x)

theorem recordModem_keeps (e : ModemEvent) (x : State) : Keeps x (recordModem e x) := by constructor <;> simp

/-- R179: a request in its turn answers its effect with its reply formed, when the effect is the same whatever the queue. -/
theorem exec_request_answered {c : Instr} {r : Request} {e : State → State × List Byte} {o : ReplyCode}
    {fields : List Byte} (ht : Turn c s) (hr : requestOf c = some r) (he : exec c s = request none r.kind r.payload e s)
    (hx : ∀ l, e (s.setLink l) = replies o fields (x.setLink l)) (hl : x.link = s.link) (hh : x.held = none) :
    exec c s = .next (settle s none (answered c o fields x)) := by
  obtain ⟨q, hq, htail⟩ := standAtHead_eq r s
  rw [he, request_inTurn none _ _ _ ht.runs (ht.inTurn hr), hq, hx, replies_state, replies_payload,
    formReply_queue _ (by simpa using hh)]
  simp [answered, hr, hl, htail, State.setLink]

end Sys2Proof.Machine
end

section
/-! PROOF. The Modem and the sampler: carrier measurements and received characters (chapters 1 and 2). -/

namespace Sys2Proof.Machine

variable {s : State} {l : Nat}

/-! ### Carrier measurements -/

theorem carrierLevel_of_le (h : l ≤ 63) : carrierLevel l = l := Nat.min_eq_left h

theorem exec_carrierMeasurement (h : s.held = none) (hs : s.modem.state ≠ .idle) :
    exec (.carrierMeasurement l) s = .next (settle s none (measureCarrier l s)) :=
  performWhen_runs _ _ (by simpa using hs) h

theorem Timer.isRunning_iff (t : Timer) : t.isRunning = true ↔ t ≠ .stopped := by cases t <;> simp [Timer.isRunning]

section Measure

variable (hl : l ≤ 63)
include hl

theorem measureCarrier_waitCarrier (hs : s.modem.state = .waitCarrier) :
    measureCarrier l s = s.setModem { s.modem with
      level := l
      qualify := if s.params.onThreshold ≤ l then
          if s.modem.qualify = .stopped then .running s.params.qualifyTime else s.modem.qualify
        else .stopped } := by
  have hq : (if s.modem.qualify.isRunning = true then s.modem.qualify else .running s.params.qualifyTime) =
      if s.modem.qualify = .stopped then .running s.params.qualifyTime else s.modem.qualify := by
    cases s.modem.qualify <;> rfl
  simp [measureCarrier, hs, carrierLevel_of_le hl, qualifyMeasure, hq, State.setModem]

theorem measureCarrier_connected_below (hs : s.modem.state = .connected) (h : l < s.params.offThreshold) :
    measureCarrier l s = recordModem .dropoutBegan
      (modemBecomes { s.modem with level := l, state := .dropout, loss := .running s.params.lossTime } s) := by
  simp [measureCarrier, hs, carrierLevel_of_le hl, dropoutMeasure, h, modemBecomes, State.setModem]

theorem measureCarrier_connected_above (hs : s.modem.state = .connected) (h : s.params.offThreshold ≤ l) :
    measureCarrier l s = s.setModem { s.modem with level := l } := by
  simp [measureCarrier, hs, carrierLevel_of_le hl, dropoutMeasure, Nat.not_lt.mpr h]

theorem measureCarrier_dropout_above (hs : s.modem.state = .dropout) (h : s.params.onThreshold ≤ l) :
    measureCarrier l s = recordModem .dropoutEnded
      (modemBecomes { s.modem with level := l, state := .connected, loss := .stopped } s) := by
  simp [measureCarrier, hs, carrierLevel_of_le hl, recoverMeasure, h, modemBecomes, State.setModem]

theorem measureCarrier_dropout_below (hs : s.modem.state = .dropout) (h : l < s.params.onThreshold) :
    measureCarrier l s = s.setModem { s.modem with level := l } := by
  simp [measureCarrier, hs, carrierLevel_of_le hl, recoverMeasure, Nat.not_le.mpr h]

end Measure

/-- Settles O6, by the modem state and the thresholds. -/
theorem carrierMeasurementActsByModemState : Obligations.CarrierMeasurementActsByModemState := by
  unfold Obligations.CarrierMeasurementActsByModemState
  intro l s hh hl becomes
  have run (hs : s.modem.state ≠ .idle) := exec_carrierMeasurement (l := l) hh hs
  refine ⟨fun hs h => ?_, fun hs h => ?_, fun hs h => ?_, fun hs h => ?_, fun hs h => ?_, fun hs h => ?_⟩ <;>
    have run := run (by simp [hs])
  · rw [measureCarrier_waitCarrier hl hs, if_pos h] at run
    exact .of_eq run
  · rw [measureCarrier_waitCarrier hl hs, if_neg (Nat.not_le.mpr h)] at run
    exact .of_eq run
  · rw [measureCarrier_connected_below hl hs h] at run
    exact ⟨.of_settle run (recordModem_keeps _ _), run⟩
  · rw [measureCarrier_connected_above hl hs h] at run
    exact .of_eq run
  · rw [measureCarrier_dropout_above hl hs h] at run
    exact ⟨.of_settle run (recordModem_keeps _ _), run⟩
  · rw [measureCarrier_dropout_below hl hs h] at run
    exact .of_eq run

/-! ### Received characters and breaks -/

/-- R12: a decision that is forced is made out of CONNECTED, and only there. -/
theorem decisionForced_decisionIn (m : ModemState) (x : Sound) :
    decisionForced (decisionIn m x) = decide (m ≠ .connected) := by cases m <;> rfl

/-- R21, R22: a character of which some modem state was out of CONNECTED is poisoned. -/
theorem entryOf_poisoned_of_disconnected {f : LineFormat} {states : List ModemState} {sounds : List (List Sound)}
    (hc : isCharacter f states sounds = true) (hm : ∃ m ∈ states, m ≠ .connected) :
    (entryOf f (decisionsOf states sounds)).poisoned = true := by
  obtain ⟨m, hm, hne⟩ := hm
  simp only [isCharacter, Bool.and_eq_true, Bool.or_eq_true] at hc
  rcases hc.2 with hall | hany
  · exact absurd (by simpa using List.all_eq_true.mp hall m hm) hne
  · simp [entryOf, hany]

theorem exec_receiveCharacterComplete {f : LineFormat} {states : List ModemState} {sounds : List (List Sound)}
    (hh : s.held = none) (hs : s.framer.sampler = .character f states) (hc : isCharacter f states sounds = true) :
    exec (.receiveCharacterComplete sounds) s =
      .next (settle s none (characterEnds f (decisionsOf states sounds) s)) := by
  have hcomplete : completeCharacter sounds s = characterEnds f (decisionsOf states sounds) s := by
    simp only [completeCharacter, hs]
  rw [← hcomplete]
  exact performWhen_runs _ _ (by simp [completes, hs, hc]) hh

theorem exec_breakWatchMark {f : LineFormat} {e : Entry} {forced : Bool} (hh : s.held = none)
    (hs : s.framer.sampler = .breakWatch f e forced) :
    exec .breakWatchMark s = .next (settle s none (placeEntry e (setSampler .hunting s))) := by
  show execBreakWatchMark s = _
  simp [execBreakWatchMark, hs, Sampler.heldEntry, perform_runs _ _ hh]

/-- Settles O9, clause by clause along the sampler's states. -/
theorem samplerReceivesCharactersAndBreaks : Obligations.SamplerReceivesCharactersAndBreaks := by
  unfold Obligations.SamplerReceivesCharactersAndBreaks
  refine ⟨fun m x => ⟨by rintro rfl; rfl, by rintro rfl; rfl, by rintro (rfl | rfl) <;> rfl⟩, ?_⟩
  intro sounds f states e forced s hh samples i hunting
  refine ⟨fun hs hm => ?_, fun hs => ?_, fun hs hc ha => ?_, fun hs hc ha => ?_, entryOf_poisoned_of_disconnected,
    fun hs => exec_breakWatchMark hh hs, fun hs hm => ?_, fun hs => ?_, fun m hm => ?_, fun hs => ?_⟩
  · exact .of_eq (performWhen_runs _ _ (by simp [hs, hm, Sampler.isHunting]) hh)
  · exact .of_eq (performWhen_runs _ _ (by simp [hs, Sampler.isCharacter]) hh)
  · have run := exec_receiveCharacterComplete hh hs hc
    rw [characterEnds, if_pos ha] at run
    exact .of_eq run
  · have run := exec_receiveCharacterComplete hh hs hc
    rwa [characterEnds, if_neg (by simp [samples] at ha; simp [ha])] at run
  · exact performWhen_runs _ _ (by simp [hs, hm, Sampler.watches]) hh
  · exact performWhen_not _ _ (by simp [hs, Sampler.watches])
  · simp [Sampler.follow, hm]
  · exact .of_eq (performWhen_runs _ _ (by simp [hs]) hh)

end Sys2Proof.Machine
end

section
/-! PROOF. Commands out of place, and what a reset leaves. -/

namespace Sys2Proof.Machine

/-! ### Commands out of place -/

/-- Settles O4: each command's event needs what the state lacks. -/
theorem idleStepsAndCommandsOutOfPlaceChangeNothing : Obligations.IdleStepsAndCommandsOutOfPlaceChangeNothing := by
  unfold Obligations.IdleStepsAndCommandsOutOfPlaceChangeNothing
  intro s
  refine ⟨fun h => ?_, fun h l => ?_, fun h => ⟨?_, ?_⟩, fun h => ?_, fun h => ⟨?_, ?_, ?_, ?_⟩, fun h => ⟨?_, ?_⟩,
    fun h v => ?_, fun h v => ?_, fun h b => ?_, fun h v => ?_, fun h b d => ⟨?_, ?_, ?_, ?_, ?_⟩, fun h => ?_⟩
  · simp [step, h]
  · exact performWhen_not _ _ (by simp [h])
  · exact performWhen_not _ _ (by simp [h])
  · exact performWhen_not _ _ (by simp [h])
  · exact performWhen_not _ _ (by simp [h])
  · exact performWhen_not _ _ (by simp [transmitting, h])
  · exact performWhen_not _ _ (by simp [transmitting, h])
  · exact performWhen_not _ _ (by simp [transmitting, h])
  · exact performWhen_not _ _ (by simp [transmitting, h])
  · exact performWhen_not _ _ (by simp [h])
  · exact performWhen_not _ _ (by simp [deliveryDue, h])
  · exact performWhen_not _ _ (by simp [h])
  · show execComposerTakeHead v s = _
    simp [execComposerTakeHead, h]
  · show execPrintDeposit b s = _
    simp [execPrintDeposit, h]
  · exact performWhen_not _ _ h
  · exact performWhen_not _ _ (by simp [statusInFlight, h])
  · exact performWhen_not _ _ (by simp [readInFlight, h])
  · exact performWhen_not _ _ (by simp [readInFlight, h])
  · exact performWhen_not _ _ (by simp [writeInFlight, h])
  · exact performWhen_not _ _ (by simp [writeInFlight, h])
  · show execLinkFrameSent s = _
    simp [execLinkFrameSent, h]

/-! ### Reset -/

theorem holdsContent_resetPart (c : ResetCause) (s : State) : holdsContent (resetPart c s) = false := by
  simp [holdsContent, resetPart]

/-- Settles O5: a reset makes every block afresh and keeps the readings. -/
theorem resetLeavesTheResetValues : Obligations.ResetLeavesTheResetValues := by
  unfold Obligations.ResetLeavesTheResetValues
  intro c s t
  refine ⟨rfl, ?_, ?_, ?_, ?_, ?_, ⟨rfl, rfl, rfl, rfl, holdsContent_resetPart c s, rfl, rfl, rfl, rfl⟩, ?_, ?_, ?_, ?_,
    (by simp : (abandonWrite s).supply = s.supply)⟩
  all_goals and_intros <;> rfl

theorem reset_record (b : Nat) : nth State.reset.head.records b {} = {} := by
  simp only [nth, State.reset]
  by_cases h : b < 8 <;> simp [h]

theorem reset_entry (n : Nat) : dirEntry State.reset n = {} := by
  simp only [dirEntry, nth, State.reset]
  by_cases h : n - 1 < 31 <;> simp [h]

theorem reset_not_inState (n : Nat) {st : DocState} (h : st ≠ .free) : ¬ inState State.reset n st := by
  rintro ⟨-, hs⟩
  rw [reset_entry] at hs
  exact h hs.symm

theorem reset_blocksLegal : BlocksLegal State.reset where
  once b := by
    have hlists : State.reset.store.dir.toList.flatMap (·.blocks) = [] := by simp [State.reset]
    rw [hlists]
    simp only [State.reset, List.count_nil, List.map_nil, Nat.add_zero, (List.nodup_range' (step := 1)).count,
      List.mem_range'_1]
    exact ite_congr (propext (by omega)) (fun _ => rfl) (fun _ => rfl)
  freeOrder := List.pairwise_lt_range'
  badOrder := .nil
  listOrder n := by rw [reset_entry]; exact .nil
  strays n b h := by rw [reset_entry] at h; cases h

theorem reset_holdersAgree : HoldersAgree State.reset where
  sending n := iff_of_false (reset_not_inState n nofun) (by simp [State.reset])
  staged h := absurd rfl h
  reprinting n := iff_of_false (reset_not_inState n nofun) (by simp [State.reset])
  composing n := iff_of_false (reset_not_inState n nofun) (by simp [State.reset])
  taking n := iff_of_false (reset_not_inState n nofun) (by simp [State.reset])
  deleting n := iff_of_false (reset_not_inState n nofun) (by simp [State.reset])
  awaited := nofun
  docsOnce := .nil
  jobsOnce := .nil
  idle _ := ⟨rfl, rfl, rfl, rfl, rfl⟩

theorem reset_writersFresh : WritersFresh State.reset where
  free h := nomatch h
  takeDocs := nofun
  takeBufs := nofun
  takeWrite := nofun
  phase := ⟨nofun, nofun⟩
  top h := absurd rfl h
  loading h := absurd rfl h
  newest h := absurd rfl h
  loaded h := absurd rfl h
  retried h := absurd rfl h

theorem reset_portLegal : PortLegal State.reset where
  write := nofun
  data := nofun
  free := nofun
  load := nofun
  mount := nofun
  status := nofun
  found _ n b h := by simp [reset_entry] at h
  next _ := nofun
  format := nofun
  held _ := ⟨rfl, rfl⟩

/-- Settles O60: at reset every queue is empty, every document FREE and every block in the free set. -/
theorem resetMeetsTheInvariants : Obligations.ResetMeetsTheInvariants := by
  unfold Obligations.ResetMeetsTheInvariants
  refine ⟨by constructor <;> simp [State.reset], rfl, paramsAgree_defaults, modemLegal_reset,
    ⟨fun _ => rfl, fun _ => rfl, fun _ => rfl⟩, ⟨nofun, fun _ => rfl⟩, ⟨?_, ?_⟩,
    reset_blocksLegal, reset_holdersAgree, reset_writersFresh, reset_portLegal⟩
  · intro b e h
    rw [reset_record] at h
    cases h
  · intro b
    rw [reset_record]
    exact Nat.zero_le _

end Sys2Proof.Machine
end
section
/-! PROOF. Reports, faults and the transmitter (chapter 12). -/

namespace Sys2Proof.Machine

variable {s : State}

/-! ### The transmitter -/

theorem transmitNext_sending {f : TxFrame} (h : s.link.sending = some f) : transmitNext s = s := by
  simp [transmitNext, h]

theorem transmitNext_reply {a : Reply} (h : s.link.sending = none) (ha : s.link.reply = some a) :
    transmitNext s = s.setLink { s.link with sending := some ⟨.reply, a.request + 0x80, a.payload⟩ } := by
  simp [transmitNext, h, ha]

theorem transmitNext_reject {j : Reject} (h : s.link.sending = none) (ha : s.link.reply = none)
    (hj : s.link.reject = some j) :
    transmitNext s = s.setLink { s.link with
      reject := none, sending := some ⟨.reject, 0xFE, [j.reason, j.kind, if j.further then 1 else 0]⟩ } := by
  cases hf : j.further <;> simp [transmitNext, h, ha, hj, Reject.bytes, flag1, byte1, hf]

section Idle

variable (h : s.link.sending = none) (ha : s.link.reply = none) (hj : s.link.reject = none)
include h ha hj

theorem transmitNext_report {k : Byte} {p : List Byte} {rest : Reports} (hr : s.reports.first = some (k, p, rest)) :
    transmitNext s = (s.setReports rest).setLink { s.link with sending := some ⟨.report, k, p⟩ } := by
  simp [transmitNext, h, ha, hj, hr]

theorem transmitNext_quiet (hr : s.reports.first = none) : transmitNext s = s := by
  simp [transmitNext, h, ha, hj, hr]

end Idle

/-! ### Recording -/

/-- R152, R167: documents join a set one by one as they do all at once. -/
theorem foldl_documents (ns : List Nat) (old : DocSet) :
    ns.foldl (fun a n => a ||| BitVec.twoPow 32 n) old = old ||| docSet ns := by
  have h : ∀ (ns : List Nat) (a b : DocSet),
      ns.foldl (fun a n => a ||| BitVec.twoPow 32 n) (a ||| b) = a ||| ns.foldl (fun a n => a ||| BitVec.twoPow 32 n) b := by
    intro ns
    induction ns with
    | nil => exact fun _ _ => rfl
    | cons n ns ih => exact fun a b => by rw [List.foldl_cons, List.foldl_cons, BitVec.or_assoc, ih]
  have h0 := h ns old 0#32
  rwa [BitVec.or_zero] at h0

theorem recordFault_first (k : FaultKind) (d : FaultDetail) (h : s.faults = none) :
    recordFault k d s = if reportEnabled 9 s then
      (s.setFaults (some ⟨k, d, bitSet 8 (k.code - 1)⟩)).setReports
        { s.reports with fault := some ⟨k, d, bitSet 8 (k.code - 1)⟩ }
    else s.setFaults (some ⟨k, d, bitSet 8 (k.code - 1)⟩) := by
  simp [recordFault, h, reportEnabled]

theorem recordFault_further (k : FaultKind) (d : FaultDetail) {x : FaultRecord} (h : s.faults = some x) :
    recordFault k d s = s.setFaults (some { x with kinds := x.kinds ||| bitSet 8 (k.code - 1) }) := by
  simp [recordFault, h]

/-- Settles O54, rule by rule: the slot, the order of the transmitter, each report, the fault record. -/
theorem rejectsReportsAndFaults : Obligations.RejectsReportsAndFaults := by
  unfold Obligations.RejectsReportsAndFaults
  intro s on off r docs
  refine ⟨fun reason kind => ⟨fun h => ?_, fun j h => ?_⟩, fun f h => transmitNext_sending h,
    fun a h ha => transmitNext_reply h ha, fun j h ha hj => transmitNext_reject h ha hj, fun h ha hj => ?_, ?_⟩
  · simp [makeReject, h]
  · simp [makeReject, h]
  · intro sends before first
    have send {k : Byte} {p : List Byte} {rest : Reports} : s.reports.first = some (k, p, rest) → sends k p rest :=
      transmitNext_report h ha hj
    refine ⟨fun x hx => send ?_, fun x hf hx => send ?_, fun x hf hx => send ?_, fun x hf hx => send ?_,
      fun x hf hx => send ?_, fun x hf hx => send ?_, fun x hf hx => send ?_, fun x hf hx => send ?_,
      fun x hf hx => send ?_, fun x hf hx => send ?_, fun hf => transmitNext_quiet h ha hj ?_⟩
    case refine_1 => simp [Reports.first, r, hx]
    all_goals
      simp only [first, before, r, List.take_succ_cons, List.take_zero, List.replicate_succ, List.replicate_zero,
        List.cons.injEq, Option.isSome_eq_false_iff, Option.isNone_iff_eq_none, and_true] at hf
      simp_all [Reports.first, r]
  · refine ⟨fun e => ⟨fun h => ?_, fun h => ?_⟩, fun e d => ⟨fun h => ?_, fun h => ?_⟩,
      fun es => ⟨fun h => ?_, ?_, fun h hes => ?_⟩, fun e b => ⟨fun h => ?_, fun h => ?_⟩,
      fun ns damage o => ⟨fun h => ?_, fun h => ⟨_, ?_, (foldl_documents ns _).symm⟩⟩,
      fun c o ns => ⟨fun h => ?_, fun h => ?_⟩,
      fun b => ⟨fun h => ?_, fun h => ?_⟩, fun h => ?_, fun h => ?_,
      fun k d hs => ⟨fun h => ?_, fun h => ?_⟩, fun k d x hx => recordFault_further k d hx, fun ht => ?_⟩
    · exact if_neg (Bool.eq_false_iff.mp h)
    · exact if_pos h
    · exact if_neg (Bool.eq_false_iff.mp h)
    · exact if_pos h
    · exact if_neg fun x => Bool.eq_false_iff.mp h x.1
    · exact if_neg fun x => x.2 rfl
    · exact if_pos ⟨h, hes⟩
    · exact if_neg (Bool.eq_false_iff.mp h)
    · exact if_pos h
    · exact if_neg (Bool.eq_false_iff.mp h)
    · exact if_pos h
    · exact if_neg (Bool.eq_false_iff.mp h)
    · intro was slot
      have hslot : slot = DoneSlot.record o ns :=
        funext fun x => by simp only [slot, docs, foldl_documents, DoneSlot.record]
      rw [hslot]
      cases c <;> exact if_pos h
    · exact if_neg (Bool.eq_false_iff.mp h)
    · exact if_pos h
    · exact if_neg (Bool.eq_false_iff.mp h)
    · exact if_pos h
    · exact (recordFault_first k d hs).trans (if_neg (Bool.eq_false_iff.mp h))
    · exact (recordFault_first k d hs).trans (if_pos h)
    · exact exec_request_answered ht rfl rfl (fun _ => rfl) rfl ht.runs

end Sys2Proof.Machine
end
section
/-! PROOF. What the state's link does not touch: operations that do not read it do the same whatever it holds. -/

namespace Sys2Proof.Machine

variable {s x y : State}

/-- Two states that agree as `Keeps` says agree so when a request has been answered in both. -/
theorem Keeps.answered (k : Keeps x y) (c : Instr) (o : ReplyCode) (fields : List Byte) :
    Keeps (answered c o fields x) (answered c o fields y) := by
  unfold Machine.answered
  split
  · constructor <;> simp [k.held, k.params, k.modem, k.sampler, k.shift, k.holding, k.brk, k.linkText, k.remotePause,
      k.answerback, k.progress, k.kbd, k.queue, k.linkPrint, k.output, k.cells, k.column, k.wrapPending, k.lineSource,
      k.formCount, k.strobe, k.engine, k.head, k.storeState, k.mountNext, k.formatNext, k.free, k.bad, k.sectors,
      k.patrolPos, k.patrolTimer, k.patrolRead, k.linkRead, k.supply, k.rx, k.gapTimer, k.requests, k.mem,
      k.draws, k.pending]
  · exact k

theorem judgeFlow_keeps (x : State) : Keeps x (judgeFlow x) := by constructor <;> simp

theorem setLink_ite (c : Prop) [Decidable c] (a b : State) (l : Link) :
    (if c then a else b).setLink l = if c then a.setLink l else b.setLink l := apply_ite (State.setLink · l) c a b

theorem judgeFlow_setLink (l : Link) (s : State) : judgeFlow (s.setLink l) = (judgeFlow s).setLink l := by
  unfold judgeFlow
  simp only [show connected (s.setLink l) = connected s from rfl, State.setLink_params, State.setLink_disp,
    show pauseCondition (s.setLink l) = pauseCondition s from rfl,
    show resumeCondition (s.setLink l) = resumeCondition s from rfl]
  (repeat' split) <;> rfl

end Sys2Proof.Machine
end

section
/-! PROOF. SetParameter (R181): what is stored, what is refused, and what a stored value does at once. -/

namespace Sys2Proof.Machine

variable {s t : State} {id : Byte} {x : Half} {k : Param} {p : Params}

/-! ### The request -/

theorem paramSet_setLink (old : Params) (k : Param) (l : Link) (s : State) :
    paramSet old k (s.setLink l) = (paramSet old k s).setLink l := by
  cases k with
  | highWater => exact judgeFlow_setLink l s
  | lowWater => exact judgeFlow_setLink l s
  | elementPatrol =>
    simp only [paramSet, patrolSet, setLink_ite]
    rfl
  | patrolInterval =>
    simp only [paramSet, intervalSet, setLink_ite]
    rfl
  | _ => rfl

section Answers

variable (ht : Turn (.setParameter id x) s)
include ht

theorem setParameter_noSuch (hk : Param.ofId id.toNat = none) :
    Answers (.setParameter id x) s (answered (.setParameter id x) .noSuch [] s) :=
  .of_eq (exec_request_answered ht rfl rfl (fun _ => by simp [setParameterEffect, hk, replies]) rfl ht.runs)

theorem setParameter_busy (hk : Param.ofId id.toNat = some k) (hl : k.isLine = true) (hm : s.modem.state ≠ .idle) :
    Answers (.setParameter id x) s (answered (.setParameter id x) .busy [] s) :=
  .of_eq (exec_request_answered ht rfl rfl (fun _ => by simp [setParameterEffect, hk, hl, hm, replies]) rfl ht.runs)

variable (hk : Param.ofId id.toNat = some k) (hl : k.isLine = true → s.modem.state = .idle)
include hk hl

theorem setParameter_refuses (hs : k.store x.toNat s.params = none) :
    Answers (.setParameter id x) s (answered (.setParameter id x) .badValue [] s) :=
  .of_eq (exec_request_answered ht rfl rfl
    (fun _ => by simp +contextual [setParameterEffect, hk, hl, hs, replies]) rfl ht.runs)

theorem exec_setParameter {adjusted : Bool} (hs : k.store x.toNat s.params = some ⟨p, adjusted⟩) :
    exec (.setParameter id x) s = .next (settle s none (answered (.setParameter id x)
      (if adjusted then .doneClamped else .done) ([id] ++ byte2 (k.get p)) (paramSet s.params k (s.setParams p)))) := by
  refine exec_request_answered ht rfl rfl (fun l => ?_) (by simp) (by simpa using ht.runs)
  have hset : paramSet s.params k ((s.setLink l).setParams p) = (paramSet s.params k (s.setParams p)).setLink l :=
    paramSet_setLink _ _ l (s.setParams p)
  simp +contextual [setParameterEffect, hk, hl, hs, hset, paramFields]

/-- A value is stored: `t` is what the statement makes of the state. -/
theorem setParameter_stores {stored : Stored} {value : Nat} {adjusted : Bool}
    (hs : k.store x.toNat s.params = some stored) (hv : k.get stored.params = value) (ha : stored.adjusted = adjusted)
    (hy : Keeps t (paramSet s.params k (s.setParams stored.params))) :
    Answers (.setParameter id x) s
      (answered (.setParameter id x) (if adjusted then .doneClamped else .done) ([id] ++ byte2 value) t) := by
  subst hv ha
  exact .of_settle (exec_setParameter ht hk hl hs) (hy.answered _ _ _)

end Answers

/-! ### On-off values -/

theorem storeFlag_zero (f : Bool → Params) {v : Nat} (h : v = 0) : storeFlag v f = some ⟨f false, false⟩ := by
  subst h; rfl

theorem storeFlag_one (f : Bool → Params) {v : Nat} (h : v = 1) : storeFlag v f = some ⟨f true, false⟩ := by
  subst h; rfl

theorem storeFlag_none (f : Bool → Params) {v : Nat} (h : 1 < v) : storeFlag v f = none := if_neg (by omega)

theorem storeListed_true {ok : Bool} (h : ok = true) : storeListed ok p = some ⟨p, false⟩ := if_pos h

theorem storeListed_false {ok : Bool} (h : ok = false) : storeListed ok p = none := if_neg (by simp [h])

/-- R123, R124: the element patrol set on. -/
theorem paramSet_elementPatrol_on (s : State) :
    paramSet s.params .elementPatrol (s.setParams { s.params with elementPatrol := true }) =
      (s.setParams { s.params with elementPatrol := true }).setHead { s.head with
        timer := if s.params.elementPatrol = false ∧ s.engine.state = .idle then .running 50 else s.head.timer } := by
  cases he : s.params.elementPatrol <;> by_cases hi : s.engine.state = .idle <;>
    simp [paramSet, patrolSet, he, hi, State.setHead, State.setParams]

/-- R146: a patrol interval set. -/
theorem paramSet_patrolInterval (s : State) (n : Nat) :
    paramSet s.params .patrolInterval (s.setParams { s.params with patrolInterval := n }) =
      (s.setParams { s.params with patrolInterval := n }).setStore { s.store with
        patrolTimer := if n = 0 then .stopped
          else if s.params.patrolInterval = 0 ∧ s.store.state = .ready then .running n else s.store.patrolTimer } := by
  have same : s.setStore { s.store with patrolTimer := s.store.patrolTimer } = s := rfl
  by_cases hn : n = 0
  · simp [paramSet, intervalSet, hn]
  by_cases hi : s.params.patrolInterval = 0
  · by_cases hr : s.store.state = .ready <;> simp [paramSet, intervalSet, hn, hi, hr]
    rfl
  · simp only [paramSet, intervalSet, State.setParams_params, hn, hi, if_false, false_and, decide_false, Bool.false_and,
      Bool.false_eq_true]
    rfl

/-- R184: the reports that a new mask keeps. -/
theorem paramSet_reportMask (old : Params) (s : State) (mask : Half) :
    paramSet old .reportMask (s.setParams { s.params with reportMask := mask }) =
      (s.setParams { s.params with reportMask := mask }).setReports (s.reports.keep mask) := rfl

/-! ### The families of parameters -/

section Families

variable (ht : Turn (.setParameter id x) s) (hk : Param.ofId id.toNat = some k)
  (hl : k.isLine = true → s.modem.state = .idle)

/-- R181: the value is stored as `value`, and `t` is the state it leaves. -/
def Stores (id : Byte) (x : Half) (s : State) (value : Nat) (adjusted : Bool) (t : State) : Prop :=
  Answers (.setParameter id x) s
    (answered (.setParameter id x) (if adjusted then .doneClamped else .done) ([id] ++ byte2 value) t)

/-- R181: the value is refused. -/
def Refuses (id : Byte) (x : Half) (s : State) : Prop :=
  Answers (.setParameter id x) s (answered (.setParameter id x) .badValue [] s)

include ht hk hl

/-- R181: a numeric parameter that does nothing beside. -/
theorem stores_number {lo hi : Nat} (f : Nat → Params) (hs : k.store x.toNat s.params = storeNumeric lo hi x.toNat f)
    (hg : ∀ n, k.get (f n) = n) (hy : ∀ n, paramSet s.params k (s.setParams (f n)) = s.setParams (f n)) :
    Stores id x s (max lo (min hi x.toNat)) (max lo (min hi x.toNat) ≠ x.toNat)
      (s.setParams (f (max lo (min hi x.toNat)))) :=
  setParameter_stores ht hk hl hs (hg _) rfl ((hy _).symm ▸ .refl _)

/-- R181: an on-off parameter that does nothing beside. -/
theorem stores_flag (f : Bool → Params) (hs : k.store x.toNat s.params = storeFlag x.toNat f)
    (hg : ∀ b, k.get (f b) = flagValue b) (hy : ∀ b, paramSet s.params k (s.setParams (f b)) = s.setParams (f b)) :
    (1 < x.toNat → Refuses id x s) ∧ (x.toNat = 0 → Stores id x s 0 false (s.setParams (f false))) ∧
      (x.toNat = 1 → Stores id x s 1 false (s.setParams (f true))) :=
  ⟨fun h => setParameter_refuses ht hk hl (hs.trans (storeFlag_none f h)),
    fun h => setParameter_stores ht hk hl (hs.trans (storeFlag_zero f h)) (hg _) rfl ((hy _).symm ▸ .refl _),
    fun h => setParameter_stores ht hk hl (hs.trans (storeFlag_one f h)) (hg _) rfl ((hy _).symm ▸ .refl _)⟩

/-- R181: a value of the parameter's list. -/
theorem stores_listed {ok : Bool} {value : Nat} (hs : k.store x.toNat s.params = storeListed ok p) (hok : ok = true)
    (hg : k.get p = value) (hy : paramSet s.params k (s.setParams p) = s.setParams p) :
    Stores id x s value false (s.setParams p) :=
  setParameter_stores ht hk hl (hs.trans (storeListed_true hok)) hg rfl (hy.symm ▸ .refl _)

/-- R181: a value that is not in the parameter's list. -/
theorem refuses_unlisted {ok : Bool} (hs : k.store x.toNat s.params = storeListed ok p) (hok : ok = false) :
    Refuses id x s := setParameter_refuses ht hk hl (hs.trans (storeListed_false hok))

end Families

/-- Settles O50, id by id. -/
theorem parametersAreClampedStoredOrRefused : Obligations.ParametersAreClampedStoredOrRefused := by
  unfold Obligations.ParametersAreClampedStoredOrRefused
  intro id x s ht c v stored refused with_ numeric onOff
  have hv : v = x.toNat := rfl
  refine ⟨setParameter_noSuch ht, fun k => setParameter_busy ht, fun hm => ?_, ?_⟩
  · have on {k : Param} : k.isLine = true → s.modem.state = .idle := fun _ => hm
    refine ⟨fun hi => ⟨fun h1 h2 h3 => ?_, fun h => ?_⟩, fun hi => ?_, fun hi => ?_, fun hi => ?_, fun hi => ?_,
      fun hi => ?_, fun hi => ?_, fun hi => ⟨fun h => ?_, fun h => ?_, fun h => ?_, fun h => ?_⟩,
      fun hi => ⟨fun h1 h2 => ?_, fun h => ?_⟩, fun hi => ?_, fun hi => ?_, fun hi => ⟨fun h => ?_, fun h1 h2 => ?_⟩,
      fun hi => ⟨fun h => ?_, fun h1 h2 => ?_⟩⟩
    · exact refuses_unlisted (k := .bitRate) ht (hi ▸ rfl) on rfl (by simp; omega)
    · exact stores_listed (k := .bitRate) ht (hi ▸ rfl) on rfl (by simp; omega) rfl rfl
    · exact setParameter_stores (k := .onThreshold) ht (hi ▸ rfl) on rfl rfl (Bool.decide_or ..).symm (.refl _)
    · exact setParameter_stores (k := .offThreshold) ht (hi ▸ rfl) on rfl rfl rfl (.refl _)
    · exact stores_number (k := .qualifyTime) ht (hi ▸ rfl) on (fun n => { s.params with qualifyTime := n }) rfl
        (fun _ => rfl) fun _ => rfl
    · exact stores_number (k := .lossTime) ht (hi ▸ rfl) on (fun n => { s.params with lossTime := n }) rfl
        (fun _ => rfl) fun _ => rfl
    · exact stores_number (k := .connectTimeout) ht (hi ▸ rfl) on (fun n => { s.params with connectTimeout := n }) rfl
        (fun _ => rfl) fun _ => rfl
    · exact stores_number (k := .attenuation) ht (hi ▸ rfl) on (fun n => { s.params with attenuation := n }) rfl
        (fun _ => rfl) fun _ => rfl
    · exact refuses_unlisted (k := .parity) ht (hi ▸ rfl) on rfl (by simp; omega)
    · exact stores_listed (k := .parity) ht (hi ▸ rfl) on (by rw [← hv, h]; rfl) rfl rfl rfl
    · exact stores_listed (k := .parity) ht (hi ▸ rfl) on (by rw [← hv, h]; rfl) rfl rfl rfl
    · exact stores_listed (k := .parity) ht (hi ▸ rfl) on (by rw [← hv, h]; rfl) rfl rfl rfl
    · exact refuses_unlisted (k := .stopBits) ht (hi ▸ rfl) on rfl (by simp; omega)
    · exact stores_listed (k := .stopBits) ht (hi ▸ rfl) on rfl (by simp; omega) rfl rfl
    · exact stores_flag (k := .routeBit) ht (hi ▸ rfl) on (fun b => { s.params with routeBit := b }) rfl
        (fun _ => rfl) fun _ => rfl
    · exact stores_flag (k := .flowControl) ht (hi ▸ rfl) on (fun b => { s.params with flowControl := b }) rfl
        (fun _ => rfl) fun _ => rfl
    · exact refuses_unlisted (k := .pauseCode) ht (hi ▸ rfl) on rfl (by simp; omega)
    · exact stores_listed (k := .pauseCode) ht (hi ▸ rfl) on rfl (by simp; omega) (by simp [Param.get]; omega) rfl
    · exact refuses_unlisted (k := .resumeCode) ht (hi ▸ rfl) on rfl (by simp; omega)
    · exact stores_listed (k := .resumeCode) ht (hi ▸ rfl) on rfl (by simp; omega) (by simp [Param.get]; omega) rfl
  · refine ⟨fun hi => ?_, fun hi => ⟨fun h => ?_, fun h1 h2 => ?_⟩, fun hi => ?_, fun hi => ?_, fun hi => ?_,
      fun hi => ?_, fun hi => ?_, fun hi => ?_, fun hi => ?_, fun hi => ?_, fun hi => ?_, fun hi => ?_, fun hi => ?_, fun hi => ?_,
      fun hi => ?_, fun hi => ?_, fun hi => ?_, fun hi => ⟨fun h => ?_, fun h => ?_, fun h => ?_⟩, fun hi => ?_,
      fun hi => ?_, fun hi => ?_, fun hi => ⟨fun h => ?_, fun h => ?_⟩, fun hi => ?_, fun hi => ?_,
      fun hi => ⟨fun h => ?_, fun h => ?_⟩⟩
    · exact stores_number (k := .breakLength) ht (hi ▸ rfl) nofun (fun n => { s.params with breakLength := n }) rfl
        (fun _ => rfl) fun _ => rfl
    · exact refuses_unlisted (k := .defaultRoute) ht (hi ▸ rfl) nofun rfl (by simp; omega)
    · exact stores_listed (k := .defaultRoute) ht (hi ▸ rfl) nofun rfl (by simp; omega) rfl rfl
    · exact setParameter_stores (k := .highWater) ht (hi ▸ rfl) nofun rfl rfl (Bool.decide_or ..).symm (judgeFlow_keeps _)
    · exact setParameter_stores (k := .lowWater) ht (hi ▸ rfl) nofun rfl rfl rfl (judgeFlow_keeps _)
    · exact stores_flag (k := .composeEcho) ht (hi ▸ rfl) nofun (fun b => { s.params with composeEcho := b }) rfl
        (fun _ => rfl) fun _ => rfl
    · exact stores_number (k := .repeatDelay) ht (hi ▸ rfl) nofun (fun n => { s.params with repeatDelay := n }) rfl
        (fun _ => rfl) fun _ => rfl
    · exact stores_number (k := .repeatInterval) ht (hi ▸ rfl) nofun (fun n => { s.params with repeatInterval := n }) rfl
        (fun _ => rfl) fun _ => rfl
    · exact stores_number (k := .ownershipTimeout) ht (hi ▸ rfl) nofun
        (fun n => { s.params with ownershipTimeout := n }) rfl (fun _ => rfl) fun _ => rfl
    · exact stores_flag (k := .autoWrap) ht (hi ▸ rfl) nofun (fun b => { s.params with autoWrap := b }) rfl
        (fun _ => rfl) fun _ => rfl
    · exact stores_flag (k := .autoLf) ht (hi ▸ rfl) nofun (fun b => { s.params with autoLf := b }) rfl
        (fun _ => rfl) fun _ => rfl
    · exact stores_number (k := .tabInterval) ht (hi ▸ rfl) nofun (fun n => { s.params with tabInterval := n }) rfl
        (fun _ => rfl) fun _ => rfl
    · exact stores_number (k := .idleFlush) ht (hi ▸ rfl) nofun (fun n => { s.params with idleFlush := n }) rfl
        (fun _ => rfl) fun _ => rfl
    · exact stores_number (k := .currentBudget) ht (hi ▸ rfl) nofun (fun n => { s.params with currentBudget := n }) rfl
        (fun _ => rfl) fun _ => rfl
    · exact stores_flag (k := .takeReplaces) ht (hi ▸ rfl) nofun (fun b => { s.params with takeReplaces := b }) rfl
        (fun _ => rfl) fun _ => rfl
    · exact setParameter_stores (k := .formLength) ht (hi ▸ rfl) nofun rfl (Nat.zero_max _) rfl (.refl _)
    · exact setParameter_stores (k := .darkness) ht (hi ▸ rfl) nofun rfl (Nat.zero_max _) rfl (.refl _)
    · exact setParameter_stores (k := .headResistance) ht (hi ▸ rfl) nofun rfl rfl rfl (.refl _)
    · exact setParameter_refuses (k := .elementPatrol) ht (hi ▸ rfl) nofun
        (storeFlag_none (fun b => { s.params with elementPatrol := b }) h)
    · exact setParameter_stores (k := .elementPatrol) ht (hi ▸ rfl) nofun
        (storeFlag_zero (fun b => { s.params with elementPatrol := b }) h) rfl rfl (.refl _)
    · exact setParameter_stores (k := .elementPatrol) ht (hi ▸ rfl) nofun
        (storeFlag_one (fun b => { s.params with elementPatrol := b }) h) rfl rfl
        (by rw [paramSet_elementPatrol_on]; exact .refl _)
    · exact setParameter_stores (k := .faultThreshold) ht (hi ▸ rfl) nofun rfl rfl rfl (.refl _)
    · exact setParameter_stores (k := .sectorThreshold) ht (hi ▸ rfl) nofun rfl rfl rfl (.refl _)
    · exact setParameter_stores (k := .patrolInterval) ht (hi ▸ rfl) nofun rfl (Nat.zero_max _) rfl
        (by rw [paramSet_patrolInterval, clamp, Nat.zero_max]; exact .refl _)
    · exact refuses_unlisted (k := .sendEndCode) ht (hi ▸ rfl) nofun rfl (by simp; omega)
    · exact stores_listed (k := .sendEndCode) ht (hi ▸ rfl) nofun rfl (by simp; omega) (by simp [Param.get]; omega) rfl
    · exact setParameter_stores (k := .lowThreshold) ht (hi ▸ rfl) nofun rfl rfl (Bool.decide_or ..).symm (.refl _)
    · exact setParameter_stores (k := .criticalThreshold) ht (hi ▸ rfl) nofun rfl rfl rfl (.refl _)
    · exact refuses_unlisted (k := .reportMask) ht (hi ▸ rfl) nofun rfl (by simp; omega)
    · have hs : Param.reportMask.store x.toNat s.params = some ⟨{ s.params with reportMask := x }, false⟩ := by
        simp [Param.store, storeListed]
        omega
      have run := exec_setParameter (k := .reportMask) ht (hi ▸ rfl) nofun hs
      rw [paramSet_reportMask] at run
      exact run

end Sys2Proof.Machine
end
section
/-! PROOF. Operations that do not read a part of the state do the same whatever it holds: recording and the end of SEND beside
the line side, and the Dispatcher beside the link. -/

namespace Sys2Proof.Machine

variable {s : State} {u : State → State}

/-! ### Recording and SEND -/

/-- An update of what recording, the directory and SEND neither read nor write. -/
structure Outside (u : State → State) : Prop where
  params     : ∀ s, (u s).params = s.params
  modem      : ∀ s, (u s).modem = s.modem
  store      : ∀ s, (u s).store = s.store
  send       : ∀ s, (u s).send = s.send
  reports    : ∀ s, (u s).reports = s.reports
  setStore   : ∀ s x, u (s.setStore x) = (u s).setStore x
  setSend    : ∀ s x, u (s.setSend x) = (u s).setSend x
  setReports : ∀ s x, u (s.setReports x) = (u s).setReports x

theorem outside_setLink (l : Link) : Outside fun s => s.setLink l := by constructor <;> intros <;> rfl

theorem outside_setFramer (f : Framer) : Outside fun s => s.setFramer f := by constructor <;> intros <;> rfl

theorem outside_resetFlow : Outside resetFlow := by constructor <;> intros <;> rfl

namespace Outside

variable (h : Outside u)
include h

theorem reportEnabled (k : Nat) (s : State) : reportEnabled k (u s) = Machine.reportEnabled k s := by
  simp [Machine.reportEnabled, h.params]

theorem dirEntry (s : State) (n : Nat) : dirEntry (u s) n = Machine.dirEntry s n := by
  simp [Machine.dirEntry, h.store]

theorem recordModem (e : ModemEvent) (s : State) : recordModem e (u s) = u (Machine.recordModem e s) := by
  simp only [Machine.recordModem, h.reportEnabled, h.reports, h.modem]
  rw [apply_ite u, h.setReports]

theorem recordStore (docs : List Nat) (damage : Bool) (o : Option StoreOutcome) (s : State) :
    recordStore docs damage o (u s) = u (Machine.recordStore docs damage o s) := by
  simp only [Machine.recordStore, h.reportEnabled, h.reports, h.store]
  rw [apply_ite u, h.setReports]

theorem recordDone (c : DoneChannel) (o : ChannelOutcome) (docs : List Nat) (s : State) :
    recordDone c o docs (u s) = u (Machine.recordDone c o docs s) := by
  simp only [Machine.recordDone, h.reportEnabled, h.reports]
  rw [apply_ite u, h.setReports]

theorem setDirEntry (n : Nat) (e : DirEntry) (s : State) :
    setDirEntry n e (u s) = u (Machine.setDirEntry n e s) := by
  simp only [Machine.setDirEntry, h.store]
  rw [apply_ite u, h.setStore]

theorem closeDoc (n : Nat) (f : DocFlags → DocFlags) (s : State) : closeDoc n f (u s) = u (Machine.closeDoc n f s) := by
  simp only [Machine.closeDoc, h.dirEntry, h.setDirEntry, h.recordStore]

theorem discardRead (c : PortClaimant) (s : State) : discardRead c (u s) = u (Machine.discardRead c s) := by
  simp only [Machine.discardRead, h.store]
  split
  · rw [apply_ite u, h.setStore]
  · rfl

theorem closeDocs (docs : List Nat) (s : State) :
    docs.foldl (fun s n => Machine.closeDoc n id s) (u s) = u (docs.foldl (fun s n => Machine.closeDoc n id s) s) := by
  induction docs generalizing s with
  | nil => rfl
  | cons n docs ih => rw [List.foldl_cons, List.foldl_cons, h.closeDoc, ih]

theorem endSend (o : ChannelOutcome) (s : State) : endSend o (u s) = u (Machine.endSend o s) := by
  simp only [Machine.endSend, h.send]
  split
  · rfl
  · rw [h.discardRead, ← h.setSend, h.closeDocs, h.recordDone]

end Outside

/-! ### The Dispatcher -/

section SetLink

variable (l : Link) (s : State)

theorem setRoute_setLink (r : Route) : setRoute r (s.setLink l) = (setRoute r s).setLink l :=
  judgeFlow_setLink l (s.setDisp { s.disp with route := r })

theorem recordLine_setLink (e : LineEvent) (d : Option Nat) :
    recordLine e d (s.setLink l) = (recordLine e d s).setLink l := by
  simp only [recordLine, setLink_ite]
  rfl

theorem takeEnd_setLink (i : Bool) (o : ChannelOutcome) : takeEnd i o (s.setLink l) = (takeEnd i o s).setLink l := by
  simp only [takeEnd, State.setLink_take]
  split <;> rfl

theorem holdDoc_setLink (n : Nat) (st : DocState) : holdDoc n st (s.setLink l) = (holdDoc n st s).setLink l :=
  (outside_setLink l).setDirEntry n _ s

theorem takeAccept_setLink (n : Nat) : takeAccept n (s.setLink l) = (takeAccept n s).setLink l := by
  simp only [takeAccept, show dirEntry (s.setLink l) n = dirEntry s n from rfl, holdDoc_setLink]
  split <;> rfl

theorem recoverOverrun_setLink : recoverOverrun (s.setLink l) = (recoverOverrun s).setLink l := by
  simp only [recoverOverrun, setLink_ite, ← recordLine_setLink]
  rfl

theorem removeHead_setLink : removeHead (s.setLink l) = (removeHead s).setLink l := by
  simp only [removeHead, ← judgeFlow_setLink, ← recoverOverrun_setLink]
  rfl

theorem finishHead_setLink : finishHead (s.setLink l) = (finishHead s).setLink l := by
  simp only [finishHead, setLink_ite, ← removeHead_setLink]
  rfl

theorem takeOverflow_setLink (n : Nat) : takeOverflow n (s.setLink l) = (takeOverflow n s).setLink l := by
  simp only [takeOverflow, ← setRoute_setLink, ← takeEnd_setLink]
  rfl

theorem offerTake_setLink : offerTake (s.setLink l) = (offerTake s).setLink l := by
  simp only [offerTake, State.setLink_framer, State.setLink_disp,
    show ∀ n, takeAnswer n (s.setLink l) = takeAnswer n s from fun _ => rfl, takeOverflow_setLink]
  (repeat' split) <;> rfl

theorem offerHead_setLink : offerHead (s.setLink l) = (offerHead s).setLink l := by
  simp only [offerHead, offerTake_setLink, finishHead_setLink]

theorem endRouteHold_setLink (r : Route) (isReset : Bool) :
    endRouteHold r isReset (s.setLink l) = (endRouteHold r isReset s).setLink l := by
  simp only [endRouteHold, State.setLink_disp, State.setLink_take, takeEnd_setLink]
  (repeat' split) <;> rfl

theorem refuseRoute_setLink (n : Nat) : refuseRoute n (s.setLink l) = (refuseRoute n s).setLink l := by
  simp only [refuseRoute, setRoute_setLink, recordLine_setLink]

theorem enterRoute_setLink (r : Route) (isReset : Bool) :
    enterRoute r isReset (s.setLink l) = (enterRoute r isReset s).setLink l := by
  simp only [enterRoute, show connected (s.setLink l) = connected s from rfl, State.setLink_take,
    show ∀ n, takeRefuses n (s.setLink l) = takeRefuses n s from fun _ => rfl, setRoute_setLink, refuseRoute_setLink,
    takeAccept_setLink]
  (repeat' split) <;> rfl

theorem changeRoute_setLink (r : Route) (isReset : Bool) :
    changeRoute r isReset (s.setLink l) = (changeRoute r isReset s).setLink l := by
  simp only [changeRoute, endRouteHold_setLink, enterRoute_setLink, offerHead_setLink]

theorem resetRoute_setLink : resetRoute (s.setLink l) = (resetRoute s).setLink l := changeRoute_setLink l s _ _

end SetLink

end Sys2Proof.Machine
end
section
/-! PROOF. How an attempt or a call ends: the connect timeout, the loss of the carrier and Drop (chapter 1). -/

namespace Sys2Proof.Machine

variable {s : State}

/-- The end of a call with the flow state reset but the route not yet: `callEnded` says the rest. -/
def lineQuiet (s : State) : State :=
  (callEnded s).setDisp { (callEnded s).disp with flow := .running, pendingFlow := none }

/-- R28, R45, R68: what a call's end clears of the transmitter, the keyboard transmit FIFO and the answerback. -/
def clearSources (s : State) : State :=
  let t := clearTransmitter s
  let t := t.setKbd { t.kbd with txFifo := [] }
  t.setDisp { t.disp with progress := none }

theorem outside_clearSources : Outside clearSources := by constructor <;> intros <;> rfl

theorem lineQuiet_eq (s : State) : lineQuiet s = resetFlow (clearSources (modemIdle s)) := rfl

theorem enterIdle_connected (e : ModemEvent) (h : connected s = true) :
    enterIdle e s = resetRoute (endSend .lineLost (recordModem e (lineQuiet s))) := by
  have leave : enterIdle e s = resetRoute (resetFlow (endSend .lineLost (clearSources (recordModem e (modemIdle s))))) := by
    simp only [enterIdle, h, if_true]
    rfl
  rw [leave, lineQuiet_eq, outside_resetFlow.recordModem, outside_clearSources.recordModem, outside_resetFlow.endSend]

theorem enterIdle_unconnected (e : ModemEvent) (h : connected s = false) :
    enterIdle e s = recordModem e (modemIdle s) := by
  simp [enterIdle, h]

theorem enterIdle_setLink (e : ModemEvent) (l : Link) (s : State) :
    enterIdle e (s.setLink l) = (enterIdle e s).setLink l := by
  have hl := outside_setLink l
  cases h : connected s with
  | false => rw [enterIdle_unconnected e h, enterIdle_unconnected e (s := s.setLink l) h]; exact hl.recordModem e (modemIdle s)
  | true =>
    rw [enterIdle_connected e h, enterIdle_connected e (s := s.setLink l) h, ← resetRoute_setLink]
    exact congrArg resetRoute ((congrArg (endSend .lineLost) (hl.recordModem e (lineQuiet s))).trans (hl.endSend _ _))

/-- What is recorded of a call's end, SEND's end and the route reset are not in what `Keeps` lists. -/
theorem callEnded_keeps (e : ModemEvent) (s : State) :
    Keeps (callEnded s) (resetRoute (endSend .lineLost (recordModem e (lineQuiet s)))) := by
  constructor <;> simp [lineQuiet, callEnded]

theorem exec_connectTimeout (hh : s.held = none) (hs : s.modem.state = .waitCarrier) (hc : s.modem.connect ≠ .stopped) :
    exec .connectTimeout s = .next (settle s none (enterIdle .connectFailed s)) :=
  performWhen_runs _ _ (by simp [hs, Timer.isRunning_iff, hc]) hh

theorem exec_lossTimeExpiry (hh : s.held = none) (hs : s.modem.state = .dropout) (hc : s.modem.loss ≠ .stopped) :
    exec .lossTimeExpiry s = .next (settle s none (enterIdle .carrierLost s)) :=
  performWhen_runs _ _ (by simp [hs, Timer.isRunning_iff, hc]) hh

theorem exec_drop_idle (ht : Turn .drop s) (hs : s.modem.state = .idle) :
    exec .drop s = .next (settle s none (answered .drop .done [] s)) :=
  exec_request_answered ht rfl rfl (fun _ => by simp [dropEffect, hs, replies]) rfl ht.runs

theorem exec_drop (ht : Turn .drop s) (hs : s.modem.state ≠ .idle) :
    exec .drop s = .next (settle s none (answered .drop .done [] (enterIdle .dropped s))) :=
  exec_request_answered ht rfl rfl (fun _ => by simp [dropEffect, hs, enterIdle_setLink])
    (by cases h : connected s <;> simp [enterIdle_connected, enterIdle_unconnected, h, lineQuiet, callEnded])
    (by cases h : connected s <;> simp [enterIdle_connected, enterIdle_unconnected, h, lineQuiet, callEnded, ht.runs])

/-- Settles O8, by what the end of an attempt and the end of a call leave. -/
theorem callEnds : Obligations.CallEnds := by
  unfold Obligations.CallEnds
  intro s idle quiet gone gives
  refine ⟨fun hh hs hc => ?_, fun hh hs hc => ?_, fun ht hs => ?_, fun ht hs => ?_, fun ht hs => ?_⟩
  · have run := exec_connectTimeout hh hs hc
    rw [enterIdle_unconnected _ (by simp [connected, hs, ModemState.isConnected])] at run
    exact ⟨.of_settle run (recordModem_keeps _ _), run⟩
  · have run := exec_lossTimeExpiry hh hs hc
    rw [enterIdle_connected _ (by simp [connected, hs, ModemState.isConnected])] at run
    exact ⟨.of_settle run (callEnded_keeps _ _), run⟩
  · exact .of_eq (exec_drop_idle ht hs)
  · have run := exec_drop ht (by simp [hs])
    rw [enterIdle_unconnected _ (by simp [connected, hs, ModemState.isConnected])] at run
    exact ⟨.of_settle run ((recordModem_keeps _ _).answered _ _ _), run⟩
  · have run := exec_drop ht (by rcases hs with hs | hs <;> simp [hs])
    rw [enterIdle_connected _ (by rcases hs with hs | hs <;> simp [connected, hs, ModemState.isConnected])] at run
    exact ⟨.of_settle run ((callEnded_keeps _ _).answered _ _ _), run⟩

end Sys2Proof.Machine
end
section
/-! PROOF. How a call is made: Connect, and the connection at the end of the qualify time (chapters 1 and 2). -/

namespace Sys2Proof.Machine

variable {s t : State} {b : Byte} {c d : Code}

/-! ### Connect -/

theorem Role.ofByte_of_gt (h : 1 < b.toNat) : Role.ofByte b = none := by
  unfold Role.ofByte
  split
  · omega
  · omega
  · rfl

theorem Role.ofByte_of_le (h : b.toNat ≤ 1) : Role.ofByte b = some (if b = 0 then .originate else .answer) := by
  have hb : b = 0 ∨ b = 1 := by bv_omega
  rcases hb with rfl | rfl <;> rfl

section Connect

variable (ht : Turn (.connect b) s)
include ht

theorem connect_badValue (hb : 1 < b.toNat) :
    Answers (.connect b) s (answered (.connect b) .badValue [] s) :=
  .of_eq (exec_request_answered ht rfl rfl (fun _ => by simp [connectEffect, Role.ofByte_of_gt hb, replies]) rfl ht.runs)

theorem connect_busy (hb : b.toNat ≤ 1) (hs : s.modem.state ≠ .idle) :
    Answers (.connect b) s (answered (.connect b) .busy [] s) :=
  .of_eq (exec_request_answered ht rfl rfl
    (fun _ => by simp [connectEffect, Role.ofByte_of_le hb, hs, replies]) rfl ht.runs)

theorem connect_begins (hb : b.toNat ≤ 1) (hs : s.modem.state = .idle) :
    Answers (.connect b) s (answered (.connect b) .done [] (modemBecomes { s.modem with
      state := .waitCarrier, role := some (if b = 0 then .originate else .answer), level := 0,
      connect := .running s.params.connectTimeout } s)) :=
  .of_eq (exec_request_answered ht rfl rfl
    (fun _ => by simp only [connectEffect, Role.ofByte_of_le hb, State.setLink_modem, hs, if_true]; rfl) rfl ht.runs)

end Connect

/-! ### What the transmitter takes first -/

theorem enterHolding_of_shift (h : s.framer.shift ≠ none) :
    enterHolding c s = s.setFramer { s.framer with holding := some c } := by
  simp [enterHolding, Option.isSome_iff_ne_none, h]

theorem enterHolding_of_empty (h : s.framer.shift = none) :
    enterHolding c s = s.setFramer { s.framer with shift := some ⟨c, lineStates s.params.format c⟩, holding := none } := by
  simp [enterHolding, h, fillShift, startShift, State.setFramer]

/-- R29: a character that is taken leaves no empty shift stage. -/
theorem enterHolding_shift (c : Code) (s : State) : (enterHolding c s).framer.shift ≠ none := by
  by_cases h : s.framer.shift = none
  · simp [enterHolding_of_empty h]
  · simpa [enterHolding_of_shift h] using h

theorem takeFirst_idle_or_shift (s : State) : takeFirst s = s ∨ (takeFirst s).framer.shift ≠ none := by
  unfold takeFirst refill
  (repeat' split)
  · exact .inr (enterHolding_shift _ _)
  · exact .inl rfl
  · exact .inl rfl

theorem startTransmitter_idle_or_shift (n : Nat) (s : State) :
    startTransmitter n s = s ∨ (startTransmitter n s).framer.shift ≠ none := by
  unfold startTransmitter
  split
  · exact .inl rfl
  · exact takeFirst_idle_or_shift s
  · rcases takeFirst_idle_or_shift s with h | h
    · rw [h]; exact takeFirst_idle_or_shift s
    · rcases takeFirst_idle_or_shift (takeFirst s) with h' | h'
      · exact .inr (by rwa [h'])
      · exact .inr h'

/-- The transmitter's stages and the link text, as they are left when characters of the link text have been taken. -/
def taken (shift : Option TxChar) (holding : Option Code) (text : List Code) (s : State) : State :=
  s.setFramer { s.framer with shift := shift, holding := holding, linkText := text }

/-- R31: one character of the link text taken, its line states beginning. -/
def shifted (c : Code) (text : List Code) (s : State) : State :=
  taken (some ⟨c, lineStates s.params.format c⟩) none text s

/-- R30: link text is the only source that may have a character. -/
structure OnlyLinkText (s : State) : Prop where
  pendingFlow : s.disp.pendingFlow = none
  progress    : s.disp.progress = none
  txFifo      : s.kbd.txFifo = []
  remotePause : s.disp.remotePause = false
  sendOffer   : sendOffer s = none

namespace OnlyLinkText

variable (h : OnlyLinkText s)
include h

theorem setFramer (f : Framer) : OnlyLinkText (s.setFramer f) :=
  ⟨h.pendingFlow, h.progress, h.txFifo, h.remotePause, h.sendOffer⟩

theorem takeFirst_nil (hl : s.framer.linkText = []) : takeFirst s = s := by
  simp [takeFirst, refill, txChoice, h.pendingFlow, h.progress, h.txFifo, h.sendOffer, hl]

theorem refill_cons {rest : List Code} (hl : s.framer.linkText = d :: rest) :
    refill s = enterHolding d (s.setFramer { s.framer with linkText := rest }) := by
  simp [refill, txChoice, h.pendingFlow, h.progress, h.txFifo, h.remotePause, h.sendOffer, hl, TxChoice.code, takeFrom]

/-- R29: the first character passes through the holding stage into the shift stage. -/
theorem takeFirst_toShift {rest : List Code} (hl : s.framer.linkText = d :: rest) (hs : s.framer.shift = none)
    (hh : s.framer.holding = none) : takeFirst s = shifted d rest s := by
  rw [takeFirst, if_pos hh, h.refill_cons hl, enterHolding_of_empty (by simpa using hs)]
  rfl

/-- R29: the next character stays in the holding stage. -/
theorem takeFirst_toHolding {rest : List Code} (hl : s.framer.linkText = d :: rest) (hs : s.framer.shift ≠ none)
    (hh : s.framer.holding = none) :
    takeFirst s = taken s.framer.shift (some d) rest s := by
  rw [takeFirst, if_pos hh, h.refill_cons hl, enterHolding_of_shift (by simpa using hs)]
  rfl

theorem startTransmitter_nil (n : Nat) (hl : s.framer.linkText = []) : startTransmitter n s = s := by
  unfold startTransmitter
  split
  · rfl
  · exact h.takeFirst_nil hl
  · rw [h.takeFirst_nil hl, h.takeFirst_nil hl]

theorem startTransmitter_cons (n : Nat) {rest : List Code} (hl : s.framer.linkText = d :: rest)
    (hs : s.framer.shift = none) (hh : s.framer.holding = none) :
    startTransmitter n s = s ∨ startTransmitter n s = shifted d rest s ∨
      startTransmitter n s = takeFirst (shifted d rest s) := by
  unfold startTransmitter
  split
  · exact .inl rfl
  · exact .inr (.inl (h.takeFirst_toShift hl hs hh))
  · exact .inr (.inr (by rw [h.takeFirst_toShift hl hs hh]))

theorem takeFirst_shifted_nil : takeFirst (shifted d [] s) = shifted d [] s :=
  (h.setFramer _).takeFirst_nil rfl

theorem takeFirst_shifted_cons {e : Code} {rest : List Code} : takeFirst (shifted d (e :: rest) s) =
    taken (some ⟨d, lineStates s.params.format d⟩) (some e) rest s :=
  (h.setFramer _).takeFirst_toHolding rfl nofun rfl

end OnlyLinkText

/-! ### The connection -/

/-- R7, R28, R52: the connection as it begins, before the transmitter takes a character. -/
def callBegun (s : State) : State :=
  resetFlow (clearTransmitter (modemBecomes
    { s.modem with state := .connected, qualify := .stopped, connect := .stopped } (s.setDraws (s.draws + 1))))

@[simp] theorem callBegun_fields (s : State) :
    (callBegun s).held = s.held ∧ (callBegun s).params = s.params ∧
    (callBegun s).modem = { s.modem with state := .connected, qualify := .stopped, connect := .stopped } ∧
    (callBegun s).framer = { s.framer with
      sampler := s.framer.sampler.follow .connected, shift := none, holding := none, brk := .none } ∧
    (callBegun s).disp = { s.disp with flow := .running, pendingFlow := none, remotePause := false } ∧
    (callBegun s).kbd = s.kbd ∧ (callBegun s).comp = s.comp ∧ (callBegun s).engine = s.engine :=
  ⟨rfl, rfl, rfl, rfl, rfl, rfl, rfl, rfl⟩

theorem outside_clearLine : Outside fun s => resetFlow (clearTransmitter s) := by constructor <;> intros <;> rfl

theorem enterConnected_eq (s : State) : enterConnected s =
    resetRoute (judgeFlow (startTransmitter (takenFirst s) (recordModem .connected (callBegun s)))) := by
  rw [callBegun, outside_clearLine.recordModem]
  rfl

theorem exec_qualifyTimeExpiry (hh : s.held = none) (hs : s.modem.state = .waitCarrier)
    (hq : s.modem.qualify ≠ .stopped) : exec .qualifyTimeExpiry s = .next (settle s none (enterConnected s)) :=
  performWhen_runs _ _ (by simp [hs, Timer.isRunning_iff, hq]) hh

theorem sendOffer_recordModem (e : ModemEvent) (s : State) : sendOffer (recordModem e s) = sendOffer s := by
  unfold recordModem
  split <;> rfl

/-- R52: remote-pause has cleared, so link text is the only source when the answerback, the keyboard and SEND have nothing. -/
theorem callBegun_onlyLinkText (hp : s.disp.progress = none) (hk : s.kbd.txFifo = []) (ho : sendOffer s = none) :
    OnlyLinkText (recordModem .connected (callBegun s)) where
  pendingFlow := by simp
  progress := by simpa using hp
  txFifo := by simpa using hk
  remotePause := by simp
  sendOffer := (sendOffer_recordModem _ _).trans ho

/-- What is recorded, the flow conditions and the route reset are not in what `Keeps` lists. -/
theorem connected_keeps (x : State) : Keeps x (resetRoute (judgeFlow (recordModem .connected x))) := by
  constructor <;> simp

theorem recordModem_taken (e : ModemEvent) (shift : Option TxChar) (holding : Option Code) (text : List Code) (s : State) :
    taken shift holding text (recordModem e s) = recordModem e (taken shift holding text s) := by
  rw [taken, taken, (outside_setFramer _).recordModem]
  simp

section Qualified

variable (hh : s.held = none) (hs : s.modem.state = .waitCarrier) (hq : s.modem.qualify ≠ .stopped)
include hh hs hq

/-- Where the transmitter has only taken link text, the connection is `x` with its event recorded. -/
theorem qualifyTimeExpiry_makes {x : State}
    (hx : startTransmitter (takenFirst s) (recordModem .connected (callBegun s)) = recordModem .connected x) :
    Answers .qualifyTimeExpiry s x ∧
      exec .qualifyTimeExpiry s = .next (settle s none (resetRoute (judgeFlow (recordModem .connected x)))) := by
  have run := exec_qualifyTimeExpiry hh hs hq
  rw [enterConnected_eq, hx] at run
  exact ⟨.of_settle run (connected_keeps x), run⟩

theorem qualifyTimeExpiry_any : ∃ t, exec .qualifyTimeExpiry s = .next t ∧ t.held = none ∧ t.params = s.params ∧
    t.modem = { s.modem with state := .connected, qualify := .stopped, connect := .stopped } ∧
    t.framer.sampler = s.framer.sampler.follow .connected ∧ t.framer.brk = .none ∧ t.disp.remotePause = false ∧
    t.comp.queue = s.comp.queue ∧ t.engine = s.engine ∧
    (t.framer.shift = none →
      t.framer.holding = none ∧ t.framer.linkText = s.framer.linkText ∧ t.kbd = s.kbd) := by
  have run := exec_qualifyTimeExpiry hh hs hq
  rw [enterConnected_eq] at run
  have k := settle_keeps s
    (resetRoute (judgeFlow (startTransmitter (takenFirst s) (recordModem .connected (callBegun s)))))
  refine ⟨_, run, ?_⟩
  rw [k.held, k.params, k.modem, k.sampler, k.brk, k.remotePause, k.queue, k.engine, k.shift, k.holding, k.linkText, k.kbd]
  refine ⟨by simpa using hh, by simp, by simp, by simp, by simp, by simp, by simp, by simp, fun hshift => ?_⟩
  simp only [resetRoute_frame, judgeFlow_frame] at hshift ⊢
  rcases startTransmitter_idle_or_shift (takenFirst s) (recordModem .connected (callBegun s)) with hidle | hsent
  · simp [hidle]
  · exact absurd hshift hsent

end Qualified

/-- Settles O7: Connect by its argument and the modem state, the connection by what the transmitter takes first. -/
theorem callIsMade : Obligations.CallIsMade := by
  unfold Obligations.CallIsMade
  refine ⟨fun b s ht => ⟨connect_badValue ht, connect_busy ht, connect_begins ht⟩, ?_⟩
  intro s hh hs hq c modem sampler sent begun makes
  refine ⟨qualifyTimeExpiry_any hh hs hq, fun hp hk ho => ?_⟩
  have only := callBegun_onlyLinkText hp hk ho
  have makes_of {shift holding text} (hx : startTransmitter (takenFirst s) (recordModem .connected (callBegun s)) =
      taken shift holding text (recordModem .connected (callBegun s))) : makes (begun shift holding text) :=
    qualifyTimeExpiry_makes hh hs hq (hx.trans (recordModem_taken _ _ _ _ _))
  have untaken {text} (hl : s.framer.linkText = text) : recordModem .connected (callBegun s) =
      taken none none text (recordModem .connected (callBegun s)) := by
    subst hl
    rw [recordModem_taken]
    rfl
  have one (d : Code) (text) : shifted d text (recordModem .connected (callBegun s)) =
      taken (sent d) none text (recordModem .connected (callBegun s)) := by
    simp [shifted, sent, Params.format]
  have both (d e : Code) (text) : takeFirst (shifted d (e :: text) (recordModem .connected (callBegun s))) =
      taken (sent d) (some e) text (recordModem .connected (callBegun s)) := by
    simp [only.takeFirst_shifted_cons, sent, Params.format]
  have first {d rest} (hl : s.framer.linkText = d :: rest) :=
    only.startTransmitter_cons (takenFirst s) (d := d) (rest := rest) (by simpa using hl) (by simp) (by simp)
  refine ⟨fun hl => ?_, fun d hl => ?_, fun d e rest hl => ?_⟩
  · exact makes_of ((only.startTransmitter_nil _ (by simpa using hl)).trans (untaken hl))
  · rcases first hl with hx | hx | hx
    · exact .inl (makes_of (hx.trans (untaken hl)))
    · exact .inr (makes_of (hx.trans (one _ _)))
    · exact .inr (makes_of (hx.trans (only.takeFirst_shifted_nil.trans (one _ _))))
  · rcases first hl with hx | hx | hx
    · exact .inl (makes_of (hx.trans (untaken hl)))
    · exact .inr (.inl (makes_of (hx.trans (one _ _))))
    · exact .inr (.inr (makes_of (hx.trans (both _ _ _))))

end Sys2Proof.Machine
end

section
/-! PROOF. The capacities: no operation takes a queue or FIFO over what it may hold (R25, R32, R46, R57, R68, R69, R72, R78, R79,
R179). -/

namespace Sys2Proof.Machine

variable {s t : State}

/-- What makes no queue and no FIFO longer keeps them all within their capacities. -/
theorem WithinCapacity.mono (h : WithinCapacity s) (le : t.framer.rxFifo.length ≤ s.framer.rxFifo.length ∧
    t.framer.linkText.length ≤ s.framer.linkText.length ∧ t.disp.answerback.length ≤ s.disp.answerback.length ∧
    t.kbd.events.length ≤ s.kbd.events.length ∧ t.kbd.txFifo.length ≤ s.kbd.txFifo.length ∧
    t.kbd.relay.length ≤ s.kbd.relay.length ∧ t.comp.queue.length ≤ s.comp.queue.length ∧
    t.comp.linkPrint.length ≤ s.comp.linkPrint.length ∧ t.comp.output.length ≤ s.comp.output.length ∧
    t.link.queue.length ≤ s.link.queue.length) : WithinCapacity t := by
  obtain ⟨rx, text, ab, ev, tx, rel, pq, lp, out, req⟩ := le
  exact ⟨Nat.le_trans rx h.rxFifo, Nat.le_trans text h.linkText, Nat.le_trans ab h.answerback,
    Nat.le_trans ev h.events, Nat.le_trans tx h.txFifo, Nat.le_trans rel h.relay, Nat.le_trans pq h.queue,
    Nat.le_trans lp h.linkPrint, Nat.le_trans out h.output, Nat.le_trans req h.requests⟩

/-- One more element fits where there is room. -/
theorem length_concat_le {α : Type} {xs : List α} {y : α} {n : Nat} (h : xs.length < n) : (xs ++ [y]).length ≤ n := by
  rw [List.length_append, List.length_singleton]
  exact h

theorem resetPart_capacity (c : ResetCause) (s : State) : WithinCapacity (resetPart c s) := by
  constructor <;> exact Nat.zero_le _

/-! ### The receive FIFO -/

/-- R25, R26: an entry is placed only where the receive FIFO has room. -/
theorem placeEntry_capacity (e : Entry) (h : WithinCapacity s) : WithinCapacity (placeEntry e s) := by
  unfold placeEntry
  split
  · exact h
  split
  · exact h.mono (by simp)
  next hroom =>
    have placed : WithinCapacity (s.setFramer { s.framer with rxFifo := s.framer.rxFifo ++ [e] }) :=
      { h with rxFifo := length_concat_le (Nat.not_le.mp hroom) }
    exact placed.mono (by simp)

/-- R27: the gap entry joins a receive FIFO of 12 entries or fewer. -/
theorem recoverOverrun_capacity (h : WithinCapacity s) : WithinCapacity (recoverOverrun s) := by
  unfold recoverOverrun
  split
  next hover =>
    simp only [Bool.and_eq_true, decide_eq_true_eq] at hover
    have placed : WithinCapacity (s.setFramer { s.framer with rxFifo := s.framer.rxFifo ++ [gapEntry], overrun := false }) :=
      { h with rxFifo := by simp [rxCapacity]; omega }
    exact placed.mono (by simp)
  · exact h

theorem removeHead_capacity (h : WithinCapacity s) : WithinCapacity (removeHead s) := by
  have removed : WithinCapacity (recoverOverrun ((s.setFramer { s.framer with rxFifo := s.framer.rxFifo.tail }).setDisp
      { s.disp with headExamined := false, record := [] })) := recoverOverrun_capacity (h.mono (by simp))
  exact removed.mono (by simp [removeHead])

theorem finishHead_capacity (h : WithinCapacity s) : WithinCapacity (finishHead s) := by
  unfold finishHead
  split
  · exact removeHead_capacity h
  · exact h

theorem offerHead_capacity (h : WithinCapacity s) : WithinCapacity (offerHead s) :=
  finishHead_capacity (h.mono (by simp))

theorem takeNotice_capacity (h : WithinCapacity s) : WithinCapacity (takeNotice s) :=
  offerHead_capacity (h.mono (by simp))

theorem changeRoute_capacity (r : Route) (isReset : Bool) (h : WithinCapacity s) :
    WithinCapacity (changeRoute r isReset s) := offerHead_capacity (h.mono (by simp))

theorem resetRoute_capacity (h : WithinCapacity s) : WithinCapacity (resetRoute s) := changeRoute_capacity _ _ h

theorem designate_capacity (v : Nat) (h : WithinCapacity s) : WithinCapacity (designate v s) := by
  unfold designate
  split
  · split
    · exact h
    · exact changeRoute_capacity _ _ h
  · split
    · exact h.mono (by simp)
    · exact (changeRoute_capacity .print false h).mono (by simp)

theorem examineHead_capacity (h : WithinCapacity s) : WithinCapacity (examineHead s) := by
  unfold examineHead
  split
  · exact h
  split
  · exact h
  split
  case h_1 =>
    split
    · exact (removeHead_capacity h).mono (by simp)
    · exact designate_capacity _ (removeHead_capacity h)
  case h_2 | h_3 | h_4 => exact removeHead_capacity (h.mono (by simp))
  case h_5 => exact offerHead_capacity (h.mono (by simp))

theorem completeCharacter_capacity (sounds : List (List Sound)) (h : WithinCapacity s) :
    WithinCapacity (completeCharacter sounds s) := by
  unfold completeCharacter characterEnds
  split
  · split
    · exact h.mono (by simp)
    · exact placeEntry_capacity _ (h.mono (by simp))
  · exact h

/-! ### The transmitter and changes of modem state -/

theorem takeFrom_capacity (c : TxChoice) (h : WithinCapacity s) : WithinCapacity (takeFrom c s) := by
  cases c <;> exact h.mono (by simp [takeFrom])

theorem refill_capacity (h : WithinCapacity s) : WithinCapacity (refill s) := by
  unfold refill
  split
  next c _ => exact (takeFrom_capacity c h).mono (by simp)
  · exact h

theorem takeFirst_capacity (h : WithinCapacity s) : WithinCapacity (takeFirst s) := by
  unfold takeFirst
  split
  · exact refill_capacity h
  · exact h

theorem startTransmitter_capacity (n : Nat) (h : WithinCapacity s) : WithinCapacity (startTransmitter n s) := by
  unfold startTransmitter
  split
  · exact h
  · exact takeFirst_capacity h
  · exact takeFirst_capacity (takeFirst_capacity h)

theorem enterConnected_capacity (h : WithinCapacity s) : WithinCapacity (enterConnected s) := by
  rw [enterConnected_eq]
  have started : WithinCapacity (startTransmitter (takenFirst s) (recordModem .connected (callBegun s))) :=
    startTransmitter_capacity _ (h.mono (by simp [show (callBegun s).link = s.link from rfl]))
  exact resetRoute_capacity (started.mono (by simp))

theorem enterIdle_capacity (e : ModemEvent) (h : WithinCapacity s) : WithinCapacity (enterIdle e s) := by
  cases hon : connected s with
  | false =>
    rw [enterIdle_unconnected e hon]
    exact h.mono (by simp)
  | true =>
    rw [enterIdle_connected e hon]
    exact resetRoute_capacity (h.mono (by simp [lineQuiet, callEnded]))

/-! ### The key event queue -/

/-- R57: an event is placed only where the key event queue has room. -/
theorem pushEvent_capacity (p : Nat) (k : KeyKind) (h : WithinCapacity s) (hroom : eventRoom s = true) :
    WithinCapacity (pushEvent p k s) := by
  simp only [eventRoom, Bool.and_eq_true, decide_eq_true_eq] at hroom
  exact { h with events := length_concat_le hroom.1 }

/-- R58: a BREAK owed takes the place that the head has left. -/
theorem removeEvent_capacity (h : WithinCapacity s) : WithinCapacity (removeEvent s) := by
  have hevents := h.events
  have gone : (removeEvent s).kbd.events.length ≤ eventCapacity := by
    simp only [removeEvent, placeOwed]
    split <;> simp [pushEvent, setKey, eventCapacity] at hevents ⊢ <;> omega
  exact { h.mono (t := (removeEvent s).setKbd { (removeEvent s).kbd with events := [] }) (by simp) with events := gone }

theorem keyUp_capacity (p : Nat) (h : WithinCapacity s) : WithinCapacity (keyUp p s) := by
  have ended : WithinCapacity (endRepeatOf p s) := h.mono (by simp)
  unfold keyUp
  dsimp only
  split
  · exact ended.mono (by simp)
  split
  next hroom => exact (pushEvent_capacity p .brk ended hroom).mono (by simp)
  · exact ended.mono (by simp)

theorem keyDown_capacity (p : Nat) (h : WithinCapacity s) : WithinCapacity (keyDown p s) := by
  unfold keyDown
  dsimp only
  split
  · exact h.mono (by simp)
  split
  next hroom => exact (pushEvent_capacity p .make h hroom).mono (by simp)
  · exact h.mono (by simp)

theorem upPass_capacity (p : Nat) (h : WithinCapacity s) : WithinCapacity (upPass p s) := by
  unfold upPass
  dsimp only
  split
  · exact keyUp_capacity p h
  · exact h

theorem downPass_capacity (p : Nat) (h : WithinCapacity s) : WithinCapacity (downPass p s) := by
  unfold downPass
  dsimp only
  split
  · exact keyDown_capacity p h
  · exact h

theorem scan_capacity (snapshot : KeyMatrix) (h : WithinCapacity s) : WithinCapacity (scan snapshot s) := by
  unfold scan
  dsimp only
  refine List.foldlRecOn _ _ (List.foldlRecOn _ _ (h.mono (by simp)) ?_) ?_
  · exact fun _ hx p _ => upPass_capacity p hx
  · exact fun _ hx p _ => downPass_capacity p hx

theorem repeatDue_capacity (a : AutoRepeat) (h : WithinCapacity s) : WithinCapacity (repeatDue a s) := by
  unfold repeatDue
  dsimp only
  split
  next hroom => exact (pushEvent_capacity a.position .rep h hroom).mono (by simp)
  · exact h.mono (by simp)

/-! ### The print queue and the output queue -/

/-- R72: a deposit joins a print queue with room. -/
theorem depositEntry_capacity (e : PrintEntry) (h : WithinCapacity s) (hroom : s.comp.queue.length < printCapacity) :
    WithinCapacity (depositEntry e s) := by
  have joined : WithinCapacity (s.setComp { s.comp with queue := s.comp.queue ++ [e], ownerTimer := .stopped }) :=
    { h with queue := length_concat_le hroom }
  unfold depositEntry
  exact joined.mono (by simp)

theorem freeInputIf_capacity {p : Prop} [Decidable p] (h : WithinCapacity s) :
    WithinCapacity (if p then freeInput s else s) := by
  split
  · exact h.mono (by simp)
  · exact h

theorem placeJob_capacity (j : Job) (h : WithinCapacity s) (hroom : 1 ≤ outputRoom s) :
    WithinCapacity (placeJob j s) := by
  simp only [outputRoom] at hroom
  exact { h with output := by simp [placeJob]; omega }

theorem printLine_output (s : State) : (printLine s).comp.output = s.comp.output ++ [.text s.comp.cells] := rfl

theorem printLine_capacity (h : WithinCapacity s) (hroom : 1 ≤ outputRoom s) : WithinCapacity (printLine s) :=
  (placeJob_capacity (.text s.comp.cells) h hroom).mono (by simp [printLine])

/-- R80: a feed is placed only with room for all its jobs. -/
theorem placeFeed_capacity (n : Nat) (key : Option Nat) (h : WithinCapacity s) (hroom : feedFits s = true) :
    WithinCapacity (placeFeed n key s) := by
  simp only [feedFits, decide_eq_true_eq] at hroom
  unfold placeFeed
  split at hroom
  next hc =>
    rw [if_pos hc]
    refine placeJob_capacity _ (printLine_capacity h (by omega)) ?_
    simp only [outputRoom, printLine_output, List.length_append, List.length_singleton] at hroom ⊢
    omega
  next hc =>
    rw [if_neg hc]
    exact placeJob_capacity _ h hroom

theorem keyFeed_capacity (p : Nat) (h : WithinCapacity s) : WithinCapacity (keyFeed p s) := by
  have untagged : WithinCapacity (s.setComp { s.comp with output := s.comp.output.map (Job.untag p) }) :=
    h.mono (by simp)
  unfold keyFeed
  dsimp only
  split
  next hroom => exact placeFeed_capacity _ _ untagged hroom
  · exact untagged

/-! ### The translator -/

/-- R69: the relay key queue takes an event only while it holds fewer than 8. -/
theorem relayEvent_capacity (p : Nat) (k : KeyKind) (h : WithinCapacity s) : WithinCapacity (relayEvent p k s) := by
  unfold relayEvent
  split
  next hroom =>
    have joined : WithinCapacity (s.setKbd { s.kbd with relay := s.kbd.relay ++ [⟨p, k⟩] }) :=
      { h with relay := length_concat_le hroom }
    exact joined.mono (by simp)
  · exact h.mono (by simp)

theorem relayMake_capacity (p : Nat) (h : WithinCapacity s) : WithinCapacity (relayMake p s) :=
  removeEvent_capacity ((relayEvent_capacity p .make h).mono (by simp))

theorem takeBreak_capacity (p : Nat) (h : WithinCapacity s) : WithinCapacity (takeBreak p s) := by
  unfold takeBreak
  dsimp only
  split
  · exact removeEvent_capacity ((relayEvent_capacity p .brk h).mono (by simp))
  · exact removeEvent_capacity (h.mono (by simp))
  · exact removeEvent_capacity (h.mono (by simp))

/-- R61, R68, R72: a character is delivered only when the keyboard transmit FIFO and the print queue, where its mode needs
them, have room. -/
theorem deliverChar_capacity (c : Code) (h : WithinCapacity s) (hp : printTakes s = true)
    (ho : otherSinksTake c s = true) : WithinCapacity (deliverChar c s) := by
  have sent (hroom : s.kbd.txFifo.length < keyFifoCapacity) :
      WithinCapacity (s.setKbd { s.kbd with txFifo := s.kbd.txFifo ++ [c] }) :=
    { h with txFifo := length_concat_le hroom }
  have sunk : WithinCapacity (match effectiveMode s with
      | .full | .half => s.setKbd { s.kbd with txFifo := s.kbd.txFifo ++ [c] }
      | .compose => composeAccept c s
      | .local_ | .relay => s) := by
    unfold otherSinksTake at ho
    cases hm : effectiveMode s <;> simp only [hm, decide_eq_true_eq] at ho ⊢
    case full | half => exact sent ho
    case compose => exact h.mono (by simp)
    case local_ | relay => exact h
  unfold deliverChar
  dsimp only
  split
  next hprints =>
    have hroom : s.comp.queue.length < printCapacity := by simp [printTakes, hprints] at hp; exact hp.2
    refine freeInputIf_capacity (depositEntry_capacity _ sunk (Nat.lt_of_le_of_lt (Nat.le_of_eq ?_) hroom))
    split <;> simp
  · exact sunk

theorem judgeMake_capacity (p : Nat) (c : Code) (h : WithinCapacity s) : WithinCapacity (judgeMake p c s) := by
  unfold judgeMake
  split
  · exact removeEvent_capacity (h.mono (by simp))
  split
  next hsinks =>
    rw [Bool.and_eq_true] at hsinks
    exact removeEvent_capacity ((deliverChar_capacity c h hsinks.1 hsinks.2).mono (by simp))
  · exact h.mono (by simp)

theorem judgeRepeat_capacity (c : Code) (h : WithinCapacity s) : WithinCapacity (judgeRepeat c s) := by
  unfold judgeRepeat
  split
  · exact removeEvent_capacity (h.mono (by simp))
  split
  next hsinks =>
    rw [Bool.and_eq_true] at hsinks
    exact removeEvent_capacity (deliverChar_capacity c h hsinks.1 hsinks.2)
  · exact h.mono (by simp)

theorem functionKey_capacity (p : Nat) (entry : Byte) (h : WithinCapacity s) : WithinCapacity (functionKey p entry s) := by
  unfold functionKey
  dsimp only
  split
  case h_5 =>
    have fed := keyFeed_capacity p (h.mono (t := s.setKbd { s.kbd with
      feedRepeats := s.kbd.feedRepeats ++ [⟨p, .running s.params.repeatDelay⟩] }) (by simp))
    exact removeEvent_capacity (fed.mono (by simp))
  case h_6 => split <;> exact removeEvent_capacity (h.mono (by simp))
  case h_7 => exact relayMake_capacity p h
  all_goals exact removeEvent_capacity (h.mono (by simp))

theorem judgeHead_capacity (h : WithinCapacity s) : WithinCapacity (judgeHead s) := by
  unfold judgeHead
  split
  · exact h
  split
  · exact takeBreak_capacity _ h
  · split
    · exact judgeRepeat_capacity _ h
    · exact removeEvent_capacity h
  · split
    · exact relayMake_capacity _ h
    · dsimp only
      split
      · exact judgeMake_capacity _ _ h
      · exact functionKey_capacity _ _ h

/-! ### Print input and the line composer -/

theorem lineDeposit_capacity (h : WithinCapacity s) (hroom : s.comp.queue.length < printCapacity) :
    WithinCapacity (lineDeposit s) := by
  unfold lineDeposit
  split
  · exact h
  next e _ _ =>
    have hd := depositEntry_capacity ⟨e.code, e.poisoned, e.gap, .line⟩ h hroom
    exact finishHead_capacity (freeInputIf_capacity (hd.mono (by simp)))

theorem linkDeposit_capacity (h : WithinCapacity s) (hroom : s.comp.queue.length < printCapacity) :
    WithinCapacity (linkDeposit s) := by
  unfold linkDeposit
  split
  · exact h
  next hl => exact freeInputIf_capacity (depositEntry_capacity _ (h.mono (by simp [hl])) hroom)

theorem reprintDeposit_capacity (h : WithinCapacity s) (hroom : s.comp.queue.length < printCapacity) :
    WithinCapacity (reprintDeposit s) := by
  unfold reprintDeposit
  split
  · exact h
  next e _ => exact freeInputIf_capacity ((depositEntry_capacity e h hroom).mono (by simp))

theorem depositOf_capacity (c : Claimant) (h : WithinCapacity s) (hroom : s.comp.queue.length < printCapacity) :
    WithinCapacity (depositOf c s) := by
  cases c with
  | line => exact lineDeposit_capacity h hroom
  | keys => exact judgeHead_capacity h
  | link => exact linkDeposit_capacity h hroom
  | reprint => exact reprintDeposit_capacity h hroom

theorem offerNext_capacity (c : Claimant) (h : WithinCapacity s) : WithinCapacity (offerNext c s) := by
  cases c with
  | line => exact examineHead_capacity h
  | keys => exact h.mono (by simp [offerNext])
  | link | reprint => exact h

theorem afterDeposit_capacity (nextFirst : Bool) (c : Claimant) (h : WithinCapacity s) :
    WithinCapacity (afterDeposit nextFirst c s) := by
  unfold afterDeposit
  split
  · exact h
  split
  · exact (offerNext_capacity c h).mono (by simp)
  · exact h.mono (by simp)

/-- R74: only an owner with room in the print queue deposits. -/
theorem room_of_canDeposit (h : canDeposit s = true) : s.comp.queue.length < printCapacity := by
  unfold canDeposit at h
  split at h
  · simp only [Bool.and_eq_true, decide_eq_true_eq] at h
    exact h.2
  · cases h

/-- R83: a break or a wrap prints the line only where the buffer holds content. -/
theorem breakLine_output (e : PrintEntry) (s : State) : (breakLine e s).comp.output.length ≤ s.comp.output.length +
    if sourceBreak e s || (s.comp.wrapPending && holdsContent s) then 1 else 0 := by
  unfold breakLine
  dsimp only
  split
  next hbreak =>
    cases hc : holdsContent s
    · simp
    · simp at hbreak ⊢
      simp [hbreak, printLine_output]
  · exact Nat.le_add_right _ _

theorem lineFeed_output (s : State) : (lineFeed s).comp.output.length = s.comp.output.length + 1 := by
  simp [lineFeed, printLine_output]

theorem formFeed_output (s : State) : (formFeed s).comp.output.length ≤ s.comp.output.length +
    if s.params.formLength = 0 then 1 else 2 := by
  unfold formFeed
  split
  · exact Nat.le_of_eq (lineFeed_output s)
  · dsimp only
    (repeat' split) <;> simp [placeJob, printLine_output]

theorem carriageReturn_output (s : State) : (carriageReturn s).comp.output.length ≤ s.comp.output.length +
    if s.params.autoLf then 1 else 0 := by
  unfold carriageReturn
  cases h : s.params.autoLf <;> simp [h, lineFeed_output]

/-- R82: the line composer places no more jobs than the places its head may need. -/
theorem handleEntry_output (e : PrintEntry) (s : State) :
    (handleEntry e s).comp.output.length ≤ s.comp.output.length + placesNeeded e s := by
  unfold handleEntry placesNeeded
  split
  · exact breakLine_output e s
  split
  case h_1 hc => simp [hc, lineFeed_output]
  case h_2 hc => simpa only [hc] using formFeed_output s
  case h_3 hc => simpa only [hc] using carriageReturn_output s
  all_goals simp

theorem takeEntry_capacity (e : PrintEntry) (h : WithinCapacity s) (hroom : placesNeeded e s ≤ outputRoom s) :
    WithinCapacity (takeEntry e s) := by
  have hout := handleEntry_output e (judgeFlow (s.setComp { s.comp with queue := s.comp.queue.tail }))
  have hneeds : placesNeeded e (judgeFlow (s.setComp { s.comp with queue := s.comp.queue.tail })) = placesNeeded e s := by
    simp [placesNeeded, sourceBreak, holdsContent]
  have hcap := h.output
  simp only [hneeds, judgeFlow_frame, State.setComp_comp, outputRoom] at hout hroom
  have rest := h.mono (t := (takeEntry e s).setComp { (takeEntry e s).comp with output := [] }) (by simp [takeEntry])
  exact { rest with output := Nat.le_trans hout (by omega) }

theorem flush_capacity (h : WithinCapacity s) : WithinCapacity (flush s) := by
  have stopped : WithinCapacity (s.setComp { s.comp with idleTimer := .stopped }) := h.mono (by simp)
  unfold flush
  dsimp only
  split
  next hroom => exact printLine_capacity stopped hroom
  · exact stopped.mono (by simp)

theorem dueFlush_capacity (h : WithinCapacity s) : WithinCapacity (dueFlush s) := by
  unfold dueFlush
  dsimp only
  split
  next hdue =>
    simp only [Bool.and_eq_true, decide_eq_true_eq] at hdue
    exact (printLine_capacity h hdue.2).mono (by simp)
  · exact h

theorem feedDue_capacity (p : Nat) (h : WithinCapacity s) : WithinCapacity (feedDue p s) := by
  unfold feedDue
  dsimp only
  split
  · exact h.mono (by simp)
  · exact (keyFeed_capacity p h).mono (by simp)

/-! ### The store and the settling -/

theorem takeWriteFailed_capacity (w : DataWrite) (h : WithinCapacity s) : WithinCapacity (takeWriteFailed w s) := by
  unfold takeWriteFailed
  split
  · exact h
  · dsimp only
    split
    · exact h.mono (by simp)
    · exact takeNotice_capacity (h.mono (by simp))

theorem dataWriteFailed_capacity (c : PortClaimant) (w : DataWrite) (b : Option Nat) (h : WithinCapacity s) :
    WithinCapacity (dataWriteFailed c w b s) := by
  unfold dataWriteFailed
  dsimp only
  split
  · exact takeWriteFailed_capacity w (h.mono (by simp))
  · exact h.mono (by simp)
  · exact h.mono (by simp)

theorem attemptFailed_capacity (c : PortClaimant) (w : DataWrite) (b : Nat) (h : WithinCapacity s) :
    WithinCapacity (attemptFailed c w b s) := by
  unfold attemptFailed
  dsimp only
  split
  · exact dataWriteFailed_capacity _ _ _ (h.mono (by simp))
  · split <;> exact h.mono (by simp)

theorem deleteFailed_capacity (j : DeleteJob) (b : Nat) (h : WithinCapacity s) : WithinCapacity (deleteFailed j b s) := by
  unfold deleteFailed
  dsimp only
  split
  · split
    · exact takeNotice_capacity (h.mono (by simp))
    · exact h.mono (by simp)
  · exact h.mono (by simp)

theorem releaseFailed_capacity (b : Nat) (h : WithinCapacity s) : WithinCapacity (releaseFailed b s) := by
  unfold releaseFailed
  dsimp only
  split
  · split <;> exact h.mono (by simp)
  · split
    · exact deleteFailed_capacity _ _ (h.mono (by simp))
    · exact h.mono (by simp)

theorem attemptLost_capacity (f : InFlight) (h : WithinCapacity s) : WithinCapacity (attemptLost f s) := by
  unfold attemptLost
  split
  · exact attemptFailed_capacity _ _ _ h
  · exact releaseFailed_capacity _ h
  · exact h
  · exact h

theorem writeOutcome_capacity (matched : Bool) (h : WithinCapacity s) : WithinCapacity (writeOutcome matched s) := by
  unfold writeOutcome
  split
  · exact h
  split
  · exact h.mono (by simp)
  split
  · exact attemptLost_capacity _ (h.mono (by simp))
  · exact h.mono (by simp)

/-- R151, R179: of the reads that complete, the link read's alone touches a queue: its request leaves it. -/
theorem readOutcome_capacity (data : ReadData) (h : WithinCapacity s) : WithinCapacity (readOutcome data s) := by
  have handed (c : PortClaimant) (r : ReadResult) (bytes : List Byte) (b : Nat) {x : State} (hx : WithinCapacity x) :
      WithinCapacity (handRead c r bytes b x) := by
    cases c <;> exact hx.mono (by simp [handRead, linkReadDone])
  have done (f : InFlight) (r : ReadResult) (bytes : List Byte) : WithinCapacity (readDone f r bytes s) := by
    unfold readDone
    dsimp only
    split
    · split <;> exact h.mono (by simp)
    · refine handed _ _ _ _ ?_
      split <;> exact h.mono (by simp)
  unfold readOutcome
  split
  · exact h
  · dsimp only
    split
    · exact done _ _ _
    split
    · exact done _ _ _
    · exact h.mono (by simp)

theorem channelsSettle_capacity (h : WithinCapacity s) : WithinCapacity (channelsSettle s) := by
  have offered : WithinCapacity (offerHead (takeSettle (deleteTurn (deleteTurn s)))) :=
    offerHead_capacity (h.mono (by simp))
  unfold channelsSettle takeTurn
  exact offered.mono (by simp)

theorem portTurn_capacity (h : WithinCapacity s) : WithinCapacity (portTurn s) := by
  unfold portTurn
  split
  · exact h
  split
  · exact h
  · exact h.mono (by simp)
  · split
    · exact h.mono (by simp)
    · exact dataWriteFailed_capacity _ _ _ h
  · exact h

theorem storeSettle_capacity (h : WithinCapacity s) : WithinCapacity (storeSettle s) := by
  have turn {x : State} (hx : WithinCapacity x) : WithinCapacity (portTurn (channelsSettle x)) :=
    portTurn_capacity (channelsSettle_capacity hx)
  exact channelsSettle_capacity (turn (turn (turn (turn (turn h)))))

/-! ### The Engine and the supply -/

theorem snapMeasure_capacity (v : Nat) (h : WithinCapacity s) : WithinCapacity (snapMeasure v s) := by
  unfold snapMeasure
  split
  · exact resetPart_capacity _ _
  · exact h.mono (by simp)

theorem startDotLine_capacity (v : Nat) (job : Job) (h : WithinCapacity s) : WithinCapacity (startDotLine v job s) := by
  have measured (x : State) (hx : WithinCapacity x) (w : Nat) :
      WithinCapacity (if (snapMeasure w x).held.isSome then snapMeasure w x else stepPaper (snapMeasure w x)) := by
    have hm := snapMeasure_capacity w hx
    split
    · exact hm
    · exact hm.mono (by simp)
  exact measured _ (h.mono (by simp)) _

theorem atBoundary_capacity (v : Nat) (evs : List PrintEvent) (h : WithinCapacity s) :
    WithinCapacity (atBoundary v evs s) := by
  unfold atBoundary
  dsimp only
  split
  · exact h.mono (by simp)
  · split
    · exact startDotLine_capacity _ _ (h.mono (by simp))
    · exact h.mono (by simp)

theorem engineSettle_capacity (v : Nat) (h : WithinCapacity s) : WithinCapacity (engineSettle v s) := by
  unfold engineSettle
  split
  · exact atBoundary_capacity _ _ (h.mono (by simp))
  · exact h

theorem engineChanged_capacity (v : Nat) (evs : List PrintEvent) (h : WithinCapacity s) :
    WithinCapacity (engineChanged v evs s) := by
  unfold engineChanged
  split
  · exact h
  split
  · split
    · exact h.mono (by simp)
    · exact atBoundary_capacity _ _ h
  · exact h.mono (by simp)

theorem supplyReading_capacity (v : Nat) (r : Therm) (h : WithinCapacity s) : WithinCapacity (supplyReading v r s) := by
  unfold supplyReading
  dsimp only
  split
  · exact resetPart_capacity _ _
  · exact h.mono (by simp)

theorem coincide_capacity (r : Coincident) (h : WithinCapacity s) : WithinCapacity (coincide r s) := by
  unfold coincide
  dsimp only
  split
  · exact supplyReading_capacity _ _ (h.mono (by simp))
  · exact h.mono (by simp)

/-- R79: a job that leaves makes room before a due flush places its line. -/
theorem advancePosition_capacity (h : WithinCapacity s) : WithinCapacity (advancePosition s) := by
  unfold advancePosition
  split
  · exact h.mono (by simp)
  next job rest hout =>
    have left : WithinCapacity (dueFlush (s.setComp { s.comp with output := rest })) :=
      dueFlush_capacity (h.mono (by simp [hout]))
    dsimp only
    split
    · exact h.mono (by simp)
    · exact left.mono (by simp)

theorem completeLine_capacity (v : Nat) (h : WithinCapacity s) : WithinCapacity (completeLine v s) := by
  unfold completeLine
  dsimp only
  have advanced {x : State} (hx : WithinCapacity x) : WithinCapacity (if (advancePosition x).comp.output = [] then
      engineIdle [] (advancePosition x) else atBoundary v [] (advancePosition x)) := by
    have ha := advancePosition_capacity hx
    split
    · exact ha.mono (by simp)
    · exact atBoundary_capacity _ _ ha
  exact advanced (h.mono (by simp))

theorem measure_capacity (v : Nat) (r : Therm) (snap : Nat) (paper : Option Bool) (h : WithinCapacity s) :
    WithinCapacity (measure v r snap paper s) := by
  have hr := supplyReading_capacity v r h
  have hh : WithinCapacity (heatCondition (powerCondition (paperSeen paper (supplyReading v r s))).1).1 :=
    hr.mono (by simp)
  unfold measure engineMeasured
  dsimp only
  split
  · exact hr
  split
  · exact hh
  · exact engineChanged_capacity _ _ hh

theorem settle_capacity : SettleKeeps WithinCapacity :=
  settleKeeps_of (fun _ _ h => (storeSettle_capacity h).mono (by simp)) (fun _ _ h => engineSettle_capacity _ h)
    (fun _ h => h.mono (by simp))

/-! ### Requests -/

theorem standAtHead_capacity (r : Request) (h : WithinCapacity s) : WithinCapacity (standAtHead r s) := by
  unfold standAtHead
  split
  · exact { h with requests := Nat.le_succ 1 }
  · exact h

theorem formReply_capacity (r : Request) (payload : List Byte) (h : WithinCapacity s) :
    WithinCapacity (formReply r payload s) := by
  unfold formReply
  split <;> exact h.mono (by simp)

/-- R179: a request joins a queue of at most one. -/
theorem frameArrives_capacity (r : Request) (h : WithinCapacity s) : WithinCapacity (frameArrives r s) := by
  unfold frameArrives
  split
  · exact h.mono (by simp)
  split
  · exact h.mono (by simp)
  next hroom => exact { h with requests := by simp; omega }

theorem request_capacity (h : WithinCapacity s) {volts : Option Nat} {kind : Byte} {payload : List Byte}
    {effect : State → State × List Byte} (he : ∀ x, WithinCapacity x → WithinCapacity (effect x).1) :
    After WithinCapacity (request volts kind payload effect s) := by
  refine settle_capacity.perform h ?_
  unfold executeRequest
  split
  · exact formReply_capacity _ _ (he _ (standAtHead_capacity _ h))
  · exact frameArrives_capacity _ h

/-- R32: the link text FIFO takes a text only whole. -/
theorem transmitTextEffect_capacity (text : List Byte) (h : WithinCapacity s) :
    WithinCapacity (transmitTextEffect text s).1 := by
  unfold transmitTextEffect
  split
  · exact h
  split
  · exact h
  split
  next hroom => exact { h with linkText := by simpa [textCodes, linkTextCapacity] using hroom }
  · exact h

theorem setAnswerbackEffect_capacity (text : List Byte) (h : WithinCapacity s) :
    WithinCapacity (setAnswerbackEffect text s).1 := by
  unfold setAnswerbackEffect
  split
  · exact h
  next hlen =>
    split
    · exact h
    split
    · exact h
    · exact { h with answerback := by simpa [textCodes] using hlen }

/-- R78: the link print FIFO takes a text only whole. -/
theorem printTextEffect_capacity (text : List Byte) (h : WithinCapacity s) :
    WithinCapacity (printTextEffect text s).1 := by
  unfold printTextEffect
  split
  · exact h
  split
  · exact h
  split
  next hroom => exact { h with linkPrint := by simpa [textCodes, linkPrintCapacity] using hroom }
  · exact h

theorem paperFeedEffect_capacity (n : Byte) (h : WithinCapacity s) : WithinCapacity (paperFeedEffect n s).1 := by
  unfold paperFeedEffect
  split
  · exact h
  split
  next hroom => exact placeFeed_capacity _ _ h hroom
  · exact h

theorem clearHeadEffect_capacity (v : Nat) (r : Coincident) (h : WithinCapacity s) :
    WithinCapacity (clearHeadEffect v r s).1 := by
  unfold clearHeadEffect
  split
  · split
    · exact engineChanged_capacity _ _ (coincide_capacity r (h.mono (by simp)))
    · exact h
  · exact h

theorem dropEffect_capacity (h : WithinCapacity s) : WithinCapacity (dropEffect s).1 := by
  unfold dropEffect
  split
  · exact h
  · exact enterIdle_capacity _ h

/-! ### Every command -/

theorem execBreakWatchMark_capacity (h : WithinCapacity s) : After WithinCapacity (execBreakWatchMark s) := by
  unfold execBreakWatchMark
  split
  · exact settle_capacity.perform h (placeEntry_capacity _ (h.mono (by simp)))
  · exact after_next h

theorem execBreakReceived_capacity (h : WithinCapacity s) : After WithinCapacity (execBreakReceived s) := by
  refine settle_capacity.performWhen h fun _ => ?_
  have hr : WithinCapacity (resetRoute (setSampler .markWait s)) := resetRoute_capacity (h.mono (by simp))
  exact hr.mono (by simp)

theorem execAutoRepeatExpiry_capacity (h : WithinCapacity s) : After WithinCapacity (execAutoRepeatExpiry s) := by
  unfold execAutoRepeatExpiry
  split
  · exact settle_capacity.perform h (repeatDue_capacity _ h)
  · exact after_next h

theorem execPrintDeposit_capacity (nextFirst : Bool) (h : WithinCapacity s) :
    After WithinCapacity (execPrintDeposit nextFirst s) := by
  unfold execPrintDeposit
  split
  · exact settle_capacity.performWhen h fun hd => afterDeposit_capacity _ _ (depositOf_capacity _ h (room_of_canDeposit hd))
  · exact after_next h

theorem execComposerTakeHead_capacity (v : Nat) (h : WithinCapacity s) :
    After WithinCapacity (execComposerTakeHead v s) := by
  unfold execComposerTakeHead
  split
  · exact settle_capacity.performWhen h fun hroom => takeEntry_capacity _ h (by simpa using hroom)
  · exact after_next h

theorem execStoreReadBlock_capacity (index : Half) (h : WithinCapacity s) :
    After WithinCapacity (execStoreReadBlock index s) := by
  unfold execStoreReadBlock
  refine settle_capacity.perform h ?_
  split
  · have hs := standAtHead_capacity ⟨0x2A, halfBytes index⟩ h
    unfold askLinkRead
    split
    · exact formReply_capacity _ _ hs
    split
    · exact formReply_capacity _ _ hs
    · exact hs.mono (by simp)
  · exact frameArrives_capacity _ h

theorem execSupplyMeasurement_capacity (v : Nat) (r : Therm) (m : Resumption) (h : WithinCapacity s) :
    After WithinCapacity (execSupplyMeasurement v r m s) := by
  unfold execSupplyMeasurement
  split
  · exact after_next (h.mono (by simp))
  · exact settle_capacity.perform h (measure_capacity _ _ _ _ h)

theorem execStartUp_capacity (v : Nat) (r : Therm) (paper : Bool) (h : WithinCapacity s) :
    After WithinCapacity (execStartUp v r paper s) := by
  unfold execStartUp
  split
  · exact after_next h
  split
  · exact after_next (settle_capacity _ _ _ (h.mono (by simp)))
  · exact after_next (h.mono (by simp))

theorem execUnknownRequest_capacity (k : Byte) (p : List Byte) (h : WithinCapacity s) :
    After WithinCapacity (execUnknownRequest k p s) := by
  unfold execUnknownRequest
  split
  · exact after_next h
  split
  · exact settle_capacity.perform h (frameArrives_capacity _ h)
  · exact request_capacity h fun _ hx => hx

theorem receiveByte_capacity (b : Byte) (h : WithinCapacity s) : WithinCapacity (receiveByte b s) := by
  have hunting : WithinCapacity (toHunt s) := h.mono (by simp [toHunt, setRx])
  unfold receiveByte
  split
  case h_5 =>
    unfold judgeFrame
    split
    · exact frameArrives_capacity _ hunting
    · exact hunting.mono (by simp)
  all_goals (repeat' split) <;> exact h.mono (by simp [toHunt, setRx])

theorem execLinkFrameSent_capacity (h : WithinCapacity s) : After WithinCapacity (execLinkFrameSent s) := by
  unfold execLinkFrameSent
  split
  · refine settle_capacity.perform h ?_
    unfold frameSent
    split
    · exact resetPart_capacity _ _
    · exact h.mono (by simp)
  · exact after_next h

theorem exec_capacity (c : Instr) (s : State) (h : WithinCapacity s) : After WithinCapacity (exec c s) := by
  cases c with
  -- The line side
  | connectTimeout | lossTimeExpiry => exact settle_capacity.performWhen h fun _ => enterIdle_capacity _ h
  | qualifyTimeExpiry => exact settle_capacity.performWhen h fun _ => enterConnected_capacity h
  | drop => exact request_capacity h fun _ hx => dropEffect_capacity hx
  | receiveCharacterComplete _ => exact settle_capacity.performWhen h fun _ => completeCharacter_capacity _ h
  | breakWatchMark => exact execBreakWatchMark_capacity h
  | breakReceived => exact execBreakReceived_capacity h
  | dispatchHead => exact settle_capacity.performWhen h fun _ => examineHead_capacity h
  | textHeadDelivery => exact settle_capacity.performWhen h fun _ => offerHead_capacity h
  | holdingStageRefill => exact settle_capacity.performWhen h fun _ => refill_capacity h
  | transmitText _ => exact request_capacity h fun _ hx => transmitTextEffect_capacity _ hx
  | setAnswerback _ => exact request_capacity h fun _ hx => setAnswerbackEffect_capacity _ hx
  -- The keyboard
  | keyScan _ => exact settle_capacity.perform h (scan_capacity _ h)
  | translateKeyHead _ => exact settle_capacity.performWhen h fun _ => judgeHead_capacity h
  | autoRepeatExpiry => exact execAutoRepeatExpiry_capacity h
  | feedRepeatExpiry _ _ => exact settle_capacity.performWhen h fun _ => feedDue_capacity _ h
  -- Print input, the line composer and the Engine
  | printDeposit _ => exact execPrintDeposit_capacity _ h
  | composerTakeHead _ => exact execComposerTakeHead_capacity _ h
  | idleFlushExpiry _ => exact settle_capacity.performWhen h fun _ => flush_capacity h
  | printText _ => exact request_capacity h fun _ hx => printTextEffect_capacity _ hx
  | paperFeed _ _ => exact request_capacity h fun _ hx => paperFeedEffect_capacity _ hx
  | dotLineComplete _ => exact settle_capacity.performWhen h fun _ => completeLine_capacity _ h
  | paperPresentExpiry _ =>
    exact settle_capacity.performWhen h fun _ =>
      engineChanged_capacity _ _ (coincide_capacity _ (h.mono (by simp)))
  | clearHead _ => exact request_capacity h fun _ hx => clearHeadEffect_capacity _ _ hx
  -- The store, the supply and the link
  | blockReadComplete _ => exact settle_capacity.performWhen h fun _ => readOutcome_capacity _ h
  | blockWriteAttemptComplete _ => exact settle_capacity.performWhen h fun _ => writeOutcome_capacity _ h
  | storeReadBlock _ => exact execStoreReadBlock_capacity _ h
  | supplyMeasurement _ _ _ => exact execSupplyMeasurement_capacity _ _ _ h
  | powerOn => exact after_next (resetPart_capacity _ _)
  | startUp _ _ _ => exact execStartUp_capacity _ _ _ h
  | unknownRequest _ _ => exact execUnknownRequest_capacity _ _ h
  | linkByteReceived _ goodStop =>
    cases goodStop with
    | true => exact settle_capacity.perform h (receiveByte_capacity _ h)
    | false => exact settle_capacity.perform h (h.mono (by simp [toHunt, setRx]))
  | linkFrameSent => exact execLinkFrameSent_capacity h
  -- Events that make no queue longer
  | paperSensorReading _ => exact settle_capacity.perform h (h.mono (by simp))
  | carrierMeasurement _ | markWaitEnd | breakSpaceEnd | breakMarkEnd | beeperToneEnd _ | ownershipTimeout | coolDownExpiry
  | hotTimerExpiry | elementPatrolExpiry | elementMeasurementComplete _ | statusReadComplete _ | blockReadRetry
  | writeCompareMismatch | storePatrolExpiry | gapTimeout | candidateStartBit | falseStart =>
    exact settle_capacity.performWhen h fun _ => h.mono (by simp)
  | shiftStageEmpties => exact settle_capacity.performWhen h fun _ => by dsimp only; split <;> exact h.mono (by simp)
  -- Requests that make no queue longer
  | connect _ | sendBreak | setKeymapEntry _ _ _ | setKeyboardMode _ | lockKeyboard _ | readKeys | setHeadMark _ _
  | clearHeadMap | readHeadMap | delete _ | formatStore | remount | storeInfo | docList | docInfo _ | send _ | stopSend
  | reprint _ _ | stopReprint | composeStart _ _ | composeEnd | reset | identify | getStatus _ | setParameter _ _
  | getParameter _ | readFaults | clearFaults =>
    refine request_capacity h fun x hx => ?_
    simp only [connectEffect, sendBreakEffect, setKeymapEntryEffect, setKeyboardModeEffect, lockKeyboardEffect,
      readKeysEffect, setHeadMarkEffect, clearHeadMapEffect, readHeadMapEffect, deleteEffect, formatStoreEffect,
      remountEffect, storeInfoEffect, docListEffect, docInfoEffect, sendEffect, stopSendEffect, reprintEffect,
      stopReprintEffect, composeStartEffect, composeEndEffect, resetEffect, identifyEffect, getStatusEffect,
      setParameterEffect, getParameterEffect, readFaultsEffect, clearFaultsEffect]
    (repeat' split) <;> exact hx.mono (by simp)

/-- Settles O55: every operation keeps every queue and FIFO within its capacity, and a reset empties them. -/
theorem everyStepKeepsCapacities : Obligations.EveryStepKeepsCapacities := by
  unfold Obligations.EveryStepKeepsCapacities
  intro s t h ht
  exact step_keeps (fun _ _ h => WithinCapacity.mono h (by simp)) exec_capacity h t ht

end Sys2Proof.Machine
end

section
/-! PROOF. The receive FIFO (R25 to R27): where an entry is placed, and how an overrun ends. -/

namespace Sys2Proof.Machine

variable {s t : State} {e : Entry}

theorem placeEntry_overrun (h : s.framer.overrun = true) : placeEntry e s = s := by simp [placeEntry, h]

theorem placeEntry_full (h : s.framer.overrun = false) (hfull : 16 ≤ s.framer.rxFifo.length) :
    placeEntry e s = s.setFramer { s.framer with overrun := true } := by
  simp [placeEntry, h, rxCapacity, hfull]

theorem placeEntry_framer (h : s.framer.overrun = false) (hroom : s.framer.rxFifo.length < 16) :
    (placeEntry e s).framer = { s.framer with rxFifo := s.framer.rxFifo ++ [e] } := by
  simp [placeEntry, h, rxCapacity, Nat.not_le.mpr hroom]

/-- R27: an overrun ends, with a gap entry, where 12 entries or fewer are left. -/
theorem recoverOverrun_framer (s : State) : (recoverOverrun s).framer =
    if s.framer.overrun = true ∧ s.framer.rxFifo.length ≤ 12 then
      { s.framer with rxFifo := s.framer.rxFifo ++ [gapEntry], overrun := false }
    else s.framer := by
  unfold recoverOverrun
  simp only [Bool.and_eq_true, decide_eq_true_eq]
  split <;> simp

theorem removeHead_framer (s : State) : (removeHead s).framer =
    if s.framer.overrun = true ∧ s.framer.rxFifo.length ≤ 13 then
      { s.framer with rxFifo := s.framer.rxFifo.tail ++ [gapEntry], overrun := false }
    else { s.framer with rxFifo := s.framer.rxFifo.tail } := by
  simp [removeHead, recoverOverrun_framer]

/-- Settles O10: an entry by the overrun flag and the room, a removal by what it leaves of an overrun. -/
theorem receiveFifoPlacesDiscardsAndRecovers : Obligations.ReceiveFifoPlacesDiscardsAndRecovers := by
  unfold Obligations.ReceiveFifoPlacesDiscardsAndRecovers
  intro e s
  refine ⟨placeEntry_overrun, placeEntry_full, placeEntry_framer, fun h hl => ?_, fun h hl => ?_, fun h => ?_, ?_⟩
  · rw [removeHead_framer, if_pos ⟨h, hl⟩, gapEntry]
  · rw [removeHead_framer, if_neg fun hc => by omega]
  · rw [removeHead_framer, if_neg fun hc => by simp [h] at hc]
  · rintro t (rfl | rfl) <;> simp

end Sys2Proof.Machine
end

section
/-! PROOF. A character sent and received (R19 to R21, R31): three samples decide a bit, so one wrong decision is outvoted. -/

namespace Sys2Proof.Machine

variable {f : LineFormat} {c : Code} {i j k : Nat} {samples : List Decision}

/-! ### The samples of a character sent -/

theorem getElem?_flatMap_replicate {α β : Type} (n : Nat) (hn : 0 < n) (g : α → β) (l : List α) (i : Nat) :
    (l.flatMap fun m => List.replicate n (g m))[i]? = l[i / n]?.map g := by
  induction l generalizing i with
  | nil => simp
  | cons a l ih =>
    rw [List.flatMap_cons, List.getElem?_append, List.length_replicate]
    split
    next h => simp [Nat.div_eq_of_lt h, h]
    next h =>
      obtain ⟨m, rfl⟩ := Nat.exists_eq_add_of_le (Nat.not_lt.mp h)
      simp [ih, Nat.add_div_left m hn]

theorem lineStates_length (f : LineFormat) (c : Code) : (lineStates f c).length = f.stopIndex + f.stopBits := by
  simp only [lineStates, LineFormat.stopIndex, LineFormat.parityBits, LineFormat.routeBits]
  split <;> split <;> simp <;> omega

/-- R31: the line state of bit `k`. -/
def lineBit (f : LineFormat) (c : Code) (k : Nat) : Bool := (lineStates f c).getD k true

theorem sampled_length (hf : 1 ≤ f.stopBits) : (sampled f c).length = f.samples := by
  simp only [sampled, List.length_take, List.length_flatMap, List.length_replicate, List.map_const', List.sum_replicate_nat,
    lineStates_length, LineFormat.samples]
  omega

/-- R20, R31: a sample of a character sent is a real decision of its bit time. -/
theorem sampled_getElem? (hf : 1 ≤ f.stopBits) (hi : i < f.samples) :
    (sampled f c)[i]? = some (.real (lineBit f c (i / 16))) := by
  have hbit : i / 16 < (lineStates f c).length := by
    rw [lineStates_length]
    simp only [LineFormat.samples] at hi
    omega
  rw [sampled, List.getElem?_take_of_lt hi, getElem?_flatMap_replicate 16 (by decide), lineBit]
  simp [hbit]

theorem markAt_sampled (hf : 1 ≤ f.stopBits) (hi : i < f.samples) :
    markAt (sampled f c) i = lineBit f c (i / 16) := by
  simp [markAt, sampled_getElem? hf hi, decisionMark]

theorem markAt_flipped (hj : j < samples.length) :
    markAt (flipped samples i) j = if i = j then !markAt samples j else markAt samples j := by
  simp only [flipped, markAt, List.getD_eq_getElem?_getD, List.getElem?_set]
  split
  next h => simp [h, hj, decisionMark]
  · rfl

/-! ### The entry they are formed into -/

/-- Every bit is decided as it was sent, and no decision was forced. -/
structure DecidedAs (f : LineFormat) (c : Code) (samples : List Decision) : Prop where
  bits   : ∀ k, k ≤ f.stopIndex → bitAt samples k = lineBit f c k
  forced : samples.any decisionForced = false

/-- The seven data bits of a code, summed by their weights, are the code. -/
theorem ofNat_sum_bits (c : Code) :
    BitVec.ofNat 7 ((List.range 7).foldl (fun a i => a + if c.getLsbD i then 2 ^ i else 0) 0) = c := by
  revert c
  decide

theorem lineBit_data (hi : i < 7) : lineBit f c (i + 1) = c.getLsbD i := by
  simp [lineBit, lineStates, List.getD_eq_getElem?_getD, List.getElem?_append, hi]

theorem lineBit_start : lineBit f c 0 = false := rfl

theorem lineBit_parity (h : f.parity ≠ .none) : lineBit f c 8 = parityBit f.parity (onesIn c) := by
  simp [lineBit, lineStates, List.getD_eq_getElem?_getD, h]

theorem lineBit_route (h : f.routeBit = true) : lineBit f c (8 + f.parityBits) = false := by
  cases hp : f.parity <;>
    simp [lineBit, lineStates, LineFormat.parityBits, List.getD_eq_getElem?_getD, List.getElem?_append, h, hp]

theorem replicate_head_getD (n : Nat) : (List.replicate n true)[0]?.getD true = true := by
  cases n <;> rfl

theorem lineBit_stop : lineBit f c f.stopIndex = true := by
  cases hp : f.parity <;> cases hr : f.routeBit <;>
    simp [lineBit, lineStates, LineFormat.stopIndex, LineFormat.parityBits, LineFormat.routeBits,
      List.getD_eq_getElem?_getD, List.getElem?_append, hr, hp, replicate_head_getD]

namespace DecidedAs

variable (d : DecidedAs f c samples)
include d

theorem code : codeOf samples = c := by
  have hbit (i : Nat) (hi : i ∈ List.range 7) : bitAt samples (i + 1) = c.getLsbD i := by
    have hi := List.mem_range.mp hi
    rw [d.bits _ (by simp only [LineFormat.stopIndex]; omega), lineBit_data hi]
  refine Eq.trans (congrArg (BitVec.ofNat 7) (List.foldl_rel rfl fun i hi a b hab => ?_)) (ofNat_sum_bits c)
  rw [hbit i hi, hab]

theorem route : routeOf f samples = false := by
  unfold routeOf
  cases hr : f.routeBit with
  | false => rfl
  | true =>
    rw [d.bits _ (by simp only [LineFormat.stopIndex]; omega), lineBit_route hr]
    rfl

theorem parity : parityError f samples = false := by
  unfold parityError
  by_cases hp : f.parity = .none
  · simp [hp]
  · rw [d.bits 8 (by simp only [LineFormat.stopIndex]; omega), lineBit_parity hp, d.code, d.route]
    simp

theorem entry : entryOf f samples = ⟨c, false, false, false⟩ := by
  have stop : stopIsMark f samples = true := (d.bits _ (Nat.le_refl _)).trans lineBit_stop
  simp only [entryOf, d.code, d.route, d.parity, stop, d.forced]
  rfl

end DecidedAs

/-- R20: two of three samples that read the bit decide it, whatever the third. -/
theorem majority_one_flipped (b : Bool) (p q r : Prop) [Decidable p] [Decidable q] [Decidable r]
    (hpq : ¬ (p ∧ q)) (hpr : ¬ (p ∧ r)) (hqr : ¬ (q ∧ r)) :
    majority (if p then !b else b) (if q then !b else b) (if r then !b else b) = b := by
  by_cases hp : p <;> by_cases hq : q <;> by_cases hr : r <;> simp_all [majority]

theorem real_of_mem_sampled {d : Decision} (h : d ∈ sampled f c) : ∃ m, d = .real m := by
  obtain ⟨m, -, hd⟩ := List.mem_flatMap.mp (List.mem_of_mem_take h)
  exact ⟨m, List.eq_of_mem_replicate hd⟩

theorem real_of_mem_flipped {d : Decision} (h : d ∈ flipped (sampled f c) i) : ∃ m, d = .real m := by
  rcases List.mem_or_eq_of_mem_set h with h | h
  · exact real_of_mem_sampled h
  · exact ⟨_, h⟩

theorem none_forced (h : ∀ d ∈ samples, ∃ m, d = .real m) : samples.any decisionForced = false := by
  refine List.any_eq_false.mpr fun d hd => ?_
  obtain ⟨m, rfl⟩ := h d hd
  simp [decisionForced, decisionIndication]

section Sent

variable (hf : 1 ≤ f.stopBits)
include hf

/-- R20, R31: the samples of one bit time read the bit. -/
theorem markAt_sampled_bit (hk : k ≤ f.stopIndex) (hj : j < 10) : markAt (sampled f c) (16 * k + j) = lineBit f c k := by
  rw [markAt_sampled hf (by simp only [LineFormat.samples]; omega), show (16 * k + j) / 16 = k by omega]

theorem markAt_flipped_bit (hk : k ≤ f.stopIndex) (hj : j < 10) : markAt (flipped (sampled f c) i) (16 * k + j) =
    if i = 16 * k + j then !lineBit f c k else lineBit f c k := by
  rw [markAt_flipped (by rw [sampled_length hf, LineFormat.samples]; omega), markAt_sampled_bit hf hk hj]

theorem sampled_decidedAs : DecidedAs f c (sampled f c) where
  bits k hk := by simp [bitAt, markAt_sampled_bit hf hk, majority]
  forced := none_forced fun _ => real_of_mem_sampled

theorem flipped_decidedAs (i : Nat) : DecidedAs f c (flipped (sampled f c) i) where
  bits k hk := by
    simp only [bitAt, markAt_flipped_bit hf hk (show 7 < 10 by decide), markAt_flipped_bit hf hk (show 8 < 10 by decide),
      markAt_flipped_bit hf hk (show 9 < 10 by decide)]
    exact majority_one_flipped _ _ _ _ (by omega) (by omega) (by omega)
  forced := none_forced fun _ => real_of_mem_flipped

theorem flipped_length : (flipped (sampled f c) i).length = f.samples := by
  rw [flipped, List.length_set, sampled_length hf]

end Sent

/-- R20, R23: a sample that reads mark makes it no break. -/
theorem allSpace_of_mark (hj : j < samples.length) (hm : markAt samples j = true) : allSpace samples = false := by
  refine List.all_eq_false.mpr ⟨samples[j], List.getElem_mem hj, ?_⟩
  simpa [markAt, List.getD_eq_getElem?_getD, hj] using hm

theorem sampled_not_allSpace (hf : 1 ≤ f.stopBits) : allSpace (sampled f c) = false := by
  refine allSpace_of_mark (j := 16 * f.stopIndex + 0) ?_ ?_
  · rw [sampled_length hf, LineFormat.samples]
    omega
  · rw [markAt_sampled_bit hf (Nat.le_refl _) (by decide), lineBit_stop]

/-- R20: the first stop bit is sampled more than once, so one wrong decision leaves a mark. -/
theorem flipped_not_allSpace (hf : 1 ≤ f.stopBits) (i : Nat) : allSpace (flipped (sampled f c) i) = false := by
  obtain ⟨j, hj, hne⟩ : ∃ j < 10, i ≠ 16 * f.stopIndex + j := by
    by_cases h : i = 16 * f.stopIndex
    · exact ⟨1, by decide, by omega⟩
    · exact ⟨0, by decide, by omega⟩
  refine allSpace_of_mark (j := 16 * f.stopIndex + j) ?_ ?_
  · rw [flipped_length hf, LineFormat.samples]
    omega
  · rw [markAt_flipped_bit hf (Nat.le_refl _) hj, if_neg hne, lineBit_stop]

/-! ### When they are those of a character -/

/-- R19: decisions made in CONNECTED, as many as the format has samples, are those of a character when samples 0 and 8 are
space. -/
theorem isCharacter_iff {sounds : List Sound} (hd : decisionsOf [.connected] [sounds] = samples)
    (hl : samples.length = f.samples) : isCharacter f [.connected] [sounds] = true ↔
      samples[0]? = some (.real false) ∧ samples[8]? = some (.real false) := by
  have hheard : sounds ≠ [] := by
    rintro rfl
    subst hd
    simp [decisionsOf, LineFormat.samples] at hl
  have h0 : 0 < samples.length := by rw [hl, LineFormat.samples]; omega
  have h8 : 8 < samples.length := by rw [hl, LineFormat.samples]; omega
  simp [isCharacter, hd, hl, hheard, List.getD_eq_getElem?_getD, List.getElem?_eq_getElem h0, List.getElem?_eq_getElem h8]

theorem samples_gt_eight (f : LineFormat) : 8 < f.samples := by
  simp only [LineFormat.samples]
  omega

theorem sampled_start (hf : 1 ≤ f.stopBits) (hi : i ≤ 8) : (sampled f c)[i]? = some (.real false) := by
  rw [sampled_getElem? hf (Nat.lt_of_le_of_lt hi (samples_gt_eight f)), show i / 16 = 0 by omega, lineBit_start]

/-- R19: a wrong decision at a sample of the start bit is mark. -/
theorem flipped_start (hf : 1 ≤ f.stopBits) (hj : j ≤ 8) :
    (flipped (sampled f c) i)[j]? = some (.real false) ↔ i ≠ j := by
  have hlt := Nat.lt_of_le_of_lt hj (samples_gt_eight f)
  have hspace : markAt (sampled f c) j = false := by
    rw [markAt_sampled hf hlt, show j / 16 = 0 by omega, lineBit_start]
  rw [flipped, List.getElem?_set]
  split
  next h =>
    subst h
    simp [sampled_length hf, hlt, hspace]
  next h => simp [sampled_start hf hj, h]

/-- Settles O11, by what the three samples of each bit decide. -/
theorem oneWrongDecisionIsOutvoted : Obligations.OneWrongDecisionIsOutvoted := by
  unfold Obligations.OneWrongDecisionIsOutvoted
  intro f c sounds hf
  refine ⟨fun hd => ?_, sampled_not_allSpace hf, (sampled_decidedAs hf).entry, fun i =>
    ⟨(flipped_decidedAs hf i).entry, flipped_not_allSpace hf i, fun hd => ?_⟩⟩
  · exact (isCharacter_iff hd (sampled_length hf)).mpr ⟨sampled_start hf (by decide), sampled_start hf (Nat.le_refl _)⟩
  · rw [isCharacter_iff hd (flipped_length hf), flipped_start hf (by decide), flipped_start hf (Nat.le_refl _)]

end Sys2Proof.Machine
end

section
/-! PROOF. The requests of the line side: TransmitText, SendBreak and SetAnswerback (R32, R33, R46). -/

namespace Sys2Proof.Machine

variable {s : State} {text : List Byte}

theorem getLsbD_seven (b : Byte) : b.getLsbD 7 = true ↔ 0x7F < b.toNat := by
  rw [← BitVec.msb_eq_getLsbD_last b, BitVec.msb_eq_true_iff_two_mul_ge]
  omega

theorem textOk_eq_true (h : ∀ b ∈ text, b.toNat ≤ 0x7F) : textOk text = true := by
  refine List.all_eq_true.mpr fun b hb => ?_
  have := h b hb
  rw [Bool.not_eq_true', Bool.eq_false_iff, ne_eq, getLsbD_seven]
  omega

theorem textOk_eq_false (h : ∃ b ∈ text, 0x7F < b.toNat) : textOk text = false := by
  obtain ⟨b, hb, hbit⟩ := h
  exact List.all_eq_false.mpr ⟨b, hb, by simp [(getLsbD_seven b).mpr hbit]⟩

/-! ### TransmitText -/

section TransmitText

variable (ht : Turn (.transmitText text) s) (h1 : 1 ≤ text.length) (h240 : text.length ≤ 240)
include ht h1 h240

theorem transmitText_badValue (hbad : ∃ b ∈ text, 0x7F < b.toNat) :
    Answers (.transmitText text) s (answered (.transmitText text) .badValue [] s) :=
  .of_eq (exec_request_answered ht rfl rfl
    (fun _ => by simp [transmitTextEffect, textLengthOk, h1, h240, textOk_eq_false hbad, replies]) rfl ht.runs)

theorem transmitText_full (hok : ∀ b ∈ text, b.toNat ≤ 0x7F) (hfull : 256 < s.framer.linkText.length + text.length) :
    Answers (.transmitText text) s (answered (.transmitText text) .full [] s) :=
  .of_eq (exec_request_answered ht rfl rfl
    (fun _ => by simp [transmitTextEffect, textLengthOk, h1, h240, textOk_eq_true hok, linkTextCapacity,
      Nat.not_le.mpr hfull, replies]) rfl ht.runs)

theorem transmitText_done (hok : ∀ b ∈ text, b.toNat ≤ 0x7F) (hroom : s.framer.linkText.length + text.length ≤ 256) :
    Answers (.transmitText text) s (answered (.transmitText text) .done []
      (s.setFramer { s.framer with linkText := s.framer.linkText ++ text.map (·.setWidth 7) })) :=
  .of_eq (exec_request_answered ht rfl rfl
    (fun _ => by
      simp only [transmitTextEffect, textLengthOk, h1, h240, textOk_eq_true hok, linkTextCapacity, State.setLink_framer,
        hroom]
      rfl) rfl ht.runs)

end TransmitText

/-! ### SendBreak -/

theorem askBreak_of_break (h : s.framer.brk ≠ .none) : askBreak s = s := by simp [askBreak, h]

theorem askBreak_unconnected (h : connected s = false) : askBreak s = s := by simp [askBreak, transmitting, h]

section AskBreak

variable (hc : connected s = true) (hb : s.framer.brk = .none)
include hc hb

theorem askBreak_space (h : s.framer.shift = none) :
    askBreak s = s.setFramer { s.framer with brk := .space s.params.breakLength } := by
  simp [askBreak, transmitting, hc, hb, beginBreak, h]

theorem askBreak_wait (h : s.framer.shift ≠ none) : askBreak s = s.setFramer { s.framer with brk := .wait } := by
  simp [askBreak, transmitting, hc, hb, beginBreak, Option.isSome_iff_ne_none, h]

end AskBreak

theorem askBreak_setLink (l : Link) (s : State) : askBreak (s.setLink l) = (askBreak s).setLink l := by
  simp only [askBreak, setLink_ite]
  rfl

theorem sendBreak_notReady (ht : Turn .sendBreak s) (hc : connected s = false) :
    Answers .sendBreak s (answered .sendBreak .notReady [] s) :=
  .of_eq (exec_request_answered ht rfl rfl (fun l => by
    simp [sendBreakEffect, transmitting, show connected (s.setLink l) = false from hc, replies]) rfl ht.runs)

theorem sendBreak_done (ht : Turn .sendBreak s) (hc : connected s = true) :
    Answers .sendBreak s (answered .sendBreak .done [] (askBreak s)) :=
  .of_eq (exec_request_answered ht rfl rfl (fun l => by
    simp [sendBreakEffect, transmitting, show connected (s.setLink l) = true from hc, askBreak_setLink])
    (by simp) (by simp [ht.runs]))

/-! ### SetAnswerback -/

section SetAnswerback

variable (ht : Turn (.setAnswerback text) s) (h24 : text.length ≤ 24)
include ht h24

theorem setAnswerback_badValue (hbad : ∃ b ∈ text, 0x7F < b.toNat) :
    Answers (.setAnswerback text) s (answered (.setAnswerback text) .badValue [] s) :=
  .of_eq (exec_request_answered ht rfl rfl
    (fun _ => by simp [setAnswerbackEffect, Nat.not_lt.mpr h24, textOk_eq_false hbad, replies]) rfl ht.runs)

theorem setAnswerback_busy (hok : ∀ b ∈ text, b.toNat ≤ 0x7F) (hp : s.disp.progress ≠ none) :
    Answers (.setAnswerback text) s (answered (.setAnswerback text) .busy [] s) :=
  .of_eq (exec_request_answered ht rfl rfl
    (fun _ => by simp [setAnswerbackEffect, Nat.not_lt.mpr h24, textOk_eq_true hok, Option.isSome_iff_ne_none, hp,
      replies]) rfl ht.runs)

theorem setAnswerback_done (hok : ∀ b ∈ text, b.toNat ≤ 0x7F) (hp : s.disp.progress = none) :
    Answers (.setAnswerback text) s (answered (.setAnswerback text) .done []
      (s.setDisp { s.disp with answerback := text.map (·.setWidth 7) })) :=
  .of_eq (exec_request_answered ht rfl rfl
    (fun _ => by
      simp only [setAnswerbackEffect, Nat.not_lt.mpr h24, textOk_eq_true hok, State.setLink_disp, hp]
      rfl) rfl ht.runs)

end SetAnswerback

/-- Settles O16, request by request: a text by its bytes and the room, a break by the line, the answerback by its progress. -/
theorem lineRequestsAreAnswered : Obligations.LineRequestsAreAnswered := by
  unfold Obligations.LineRequestsAreAnswered
  refine fun text s => ⟨fun ht h1 h240 =>
      ⟨transmitText_badValue ht h1 h240, transmitText_full ht h1 h240, transmitText_done ht h1 h240⟩,
    fun ht => ⟨sendBreak_notReady ht, fun hc hb => ?_, fun hc hb h => ?_, fun hc hb h => ?_⟩,
    fun ht h24 => ⟨setAnswerback_badValue ht h24, setAnswerback_busy ht h24, setAnswerback_done ht h24⟩⟩
  · simpa only [askBreak_of_break hb] using sendBreak_done ht hc
  · simpa only [askBreak_space hc hb h] using sendBreak_done ht hc
  · simpa only [askBreak_wait hc hb h] using sendBreak_done ht hc

end Sys2Proof.Machine
end

section
/-! PROOF. The transmitter: its stages, the phases of a break, and the sources of the holding stage (R29 to R34, R157). -/

namespace Sys2Proof.Machine

variable {s : State} {c : Code}

/-! ### The stages -/

theorem fillShift_none (h : s.framer.holding = none) : fillShift s = s.setFramer { s.framer with shift := none } := by
  simp [fillShift, h]

theorem fillShift_some (h : s.framer.holding = some c) : fillShift s =
    s.setFramer { s.framer with shift := some ⟨c, lineStates s.params.format c⟩, holding := none } := by
  simp [fillShift, h, startShift, State.setFramer]

theorem exec_shiftStageEmpties (hh : s.held = none) (hc : connected s = true) (hs : s.framer.shift ≠ none)
    (hb : s.framer.brk = .none ∨ s.framer.brk = .wait) :
    exec .shiftStageEmpties s = .next (settle s none (if s.framer.brk = .none then fillShift s
      else s.setFramer { s.framer with shift := none, brk := .space s.params.breakLength })) :=
  performWhen_runs _ _ (by simp [transmitting, hc, Option.isSome_iff_ne_none, hs, hb]) hh

theorem exec_breakSpaceEnd {n : Nat} (hh : s.held = none) (hc : connected s = true) (hb : s.framer.brk = .space n) :
    exec .breakSpaceEnd s = .next (settle s none (s.setFramer { s.framer with brk := .mark s.params.format.bits })) :=
  performWhen_runs _ _ (by simp [transmitting, hc, hb, BreakPhase.isSpace]) hh

theorem exec_breakMarkEnd {n : Nat} (hh : s.held = none) (hc : connected s = true) (hb : s.framer.brk = .mark n) :
    exec .breakMarkEnd s = .next (settle s none (fillShift (s.setFramer { s.framer with brk := .none }))) :=
  performWhen_runs _ _ (by simp [transmitting, hc, hb, BreakPhase.isMark]) hh

/-- Settles O17, by the phase of the break and what the holding stage has. -/
theorem transmitterStagesAndBreakPhases : Obligations.TransmitterStagesAndBreakPhases := by
  unfold Obligations.TransmitterStagesAndBreakPhases
  intro s hh hc sent
  refine ⟨fun hs hb h => ?_, fun c hs hb h => ?_, fun hs hb => ?_, fun n hb => ?_, fun n hb h => ?_, fun n c hb h => ?_⟩
  · have run := exec_shiftStageEmpties hh hc hs (.inl hb)
    rw [if_pos hb, fillShift_none h] at run
    exact .of_eq run
  · have run := exec_shiftStageEmpties hh hc hs (.inl hb)
    rw [if_pos hb, fillShift_some h] at run
    exact .of_eq run
  · have run := exec_shiftStageEmpties hh hc hs (.inr hb)
    rw [if_neg (by simp [hb])] at run
    exact .of_eq run
  · exact .of_eq (exec_breakSpaceEnd hh hc hb)
  · have run := exec_breakMarkEnd hh hc hb
    rw [fillShift_none (by simpa using h)] at run
    exact .of_eq run
  · have run := exec_breakMarkEnd hh hc hb
    rw [fillShift_some (by simpa using h)] at run
    exact .of_eq run

/-! ### The sources of the holding stage -/

section Sources

variable (hflow : s.disp.pendingFlow = none) (hprog : s.disp.progress = none)

theorem txChoice_flow {p : FlowCode} (h : s.disp.pendingFlow = some p) : txChoice s = some (.flow p) := by
  simp [txChoice, h]

include hflow in
theorem txChoice_answerback {k : Nat} (hk : s.disp.progress = some k) (hc : s.disp.answerback[k]? = some c) :
    txChoice s = some (.answerback k c) := by
  simp [txChoice, hflow, hk, hc]

include hflow hprog

theorem txChoice_keyboard {rest : List Code} (h : s.kbd.txFifo = c :: rest) : txChoice s = some (.keyboard c) := by
  simp [txChoice, hflow, hprog, h]

variable (hkeys : s.kbd.txFifo = [])
include hkeys

theorem txChoice_paused (h : s.disp.remotePause = true) : txChoice s = none := by
  simp [txChoice, hflow, hprog, hkeys, h]

variable (hpause : s.disp.remotePause = false)
include hpause

theorem txChoice_send (h : sendOffer s = some c) : txChoice s = some (.send c) := by
  simp [txChoice, hflow, hprog, hkeys, hpause, h]

theorem txChoice_linkText {rest : List Code} (hs : sendOffer s = none) (h : s.framer.linkText = c :: rest) :
    txChoice s = some (.linkText c) := by
  simp [txChoice, hflow, hprog, hkeys, hpause, hs, h]

theorem txChoice_none (hs : sendOffer s = none) (h : s.framer.linkText = []) : txChoice s = none := by
  simp [txChoice, hflow, hprog, hkeys, hpause, hs, h]

end Sources

theorem enterHolding_eq (c : Code) (s : State) : enterHolding c s = if s.framer.shift ≠ none then
    s.setFramer { s.framer with holding := some c }
  else s.setFramer { s.framer with holding := none, shift := some ⟨c, lineStates s.params.format c⟩ } := by
  split
  next h => exact enterHolding_of_shift h
  next h => exact enterHolding_of_empty (Decidable.not_not.mp h)

theorem sendComplete_eq {d : Nat} (h : s.send.current = some d) : sendComplete s =
    (recordDone .send .complete [d] (closeDoc d id s)).setSend { current := s.send.staged } := by
  simp [sendComplete, h]

/-- R29, R30: a source that has a character gives it, and goes on. -/
theorem exec_holdingStageRefill {t : TxChoice} (hh : s.held = none) (hc : connected s = true)
    (hb : s.framer.brk = .none) (hhold : s.framer.holding = none) (h : txChoice s = some t) :
    exec .holdingStageRefill s = .next (settle s none (enterHolding (t.code s) (takeFrom t s))) := by
  have taken : refill s = enterHolding (t.code s) (takeFrom t s) := by simp only [refill, h]
  rw [← taken]
  exact performWhen_runs _ _ (by simp [transmitting, hc, hb, hhold, h]) hh

theorem exec_holdingStageRefill_none (h : txChoice s = none) : exec .holdingStageRefill s = .next s :=
  performWhen_not _ _ (by simp [h])

/-- Settles O18, source by source in the order of `txChoice`. -/
theorem holdingStageFollowsTheOrder : Obligations.HoldingStageFollowsTheOrder := by
  unfold Obligations.HoldingStageFollowsTheOrder
  intro s hh hc hb hhold shown gives
  have gives_of {t : TxChoice} {x : State} (ht : txChoice s = some t) (hx : takeFrom t s = x) : gives (t.code s) x := by
    have run := exec_holdingStageRefill hh hc hb hhold ht
    have hshift : x.framer.shift = s.framer.shift := by simp [← hx]
    have hparams : x.params = s.params := by simp [← hx]
    rw [hx, enterHolding_eq, hshift, hparams] at run
    exact run
  refine ⟨fun p hp => ?_, fun k c hflow hk hcode => gives_of (txChoice_answerback hflow hk hcode) rfl,
    fun hflow hprog => ⟨fun c rest hkeys => ?_, fun hkeys hpause => ⟨fun d i hd hi => ?_, fun d c hd hi hend => ?_,
      fun c rest hs hl => ?_, fun hs hl => ?_⟩, fun hkeys hpause => ?_⟩⟩
  · cases p <;> exact gives_of (txChoice_flow hp) rfl
  · exact gives_of (txChoice_keyboard hflow hprog hkeys) (by simp [takeFrom, hkeys])
  · exact gives_of (t := .send i.lineCode) (txChoice_send hflow hprog hkeys hpause (by simp [sendOffer, hd, hi]))
      (by simp [takeFrom, sendTake, hi])
  · exact gives_of (txChoice_send hflow hprog hkeys hpause (by simp [sendOffer, hd, hi, hend]))
      (by simp [takeFrom, sendTake, hi, sendComplete_eq hd])
  · exact gives_of (txChoice_linkText hflow hprog hkeys hpause hs hl) (by simp [takeFrom, hl])
  · exact exec_holdingStageRefill_none (txChoice_none hflow hprog hkeys hpause hs hl)
  · exact exec_holdingStageRefill_none (txChoice_paused hflow hprog hkeys hpause)

end Sys2Proof.Machine
end

section
/-! PROOF. The translator's head when it is no character: function keys, BREAKs and events for the relay key queue (R60 to R65, R69,
R80, R166). -/

namespace Sys2Proof.Machine

variable {s t x : State} {p v : Nat} {e : KeyEvent} {rest : List KeyEvent} {d : Option DownRecord}

/-! ### The head's removal -/

/-- R57, R58, R60: the head has gone and its position has this down record. -/
def headDone (p : Nat) (rest : List KeyEvent) (d : Option DownRecord) (s : State) : State :=
  keyHeadGone rest (s.setKbd { s.kbd with downs := put s.kbd.downs p d })

theorem removeEvent_setDown (h : s.kbd.events = e :: rest) : removeEvent (setDown p d s) = headDone p rest d s :=
  removeEvent_of_events h

theorem headDone_frame (p : Nat) (rest : List KeyEvent) (d : Option DownRecord) (s : State) :
    (headDone p rest d s).engine = s.engine ∧ (headDone p rest d s).comp = s.comp := by
  unfold headDone keyHeadGone
  split <;> exact ⟨rfl, rfl⟩

theorem NothingToStart.headDone (h : NothingToStart s) : NothingToStart (headDone p rest d s) := by
  obtain ⟨he, hc⟩ := headDone_frame p rest d s
  rwa [NothingToStart, he, hc]

theorem exec_translateKeyHead (hh : s.held = none) (he : s.kbd.events = e :: rest) (hx : judgeHead s = x) :
    exec (.translateKeyHead v) s = .next (settle s (some v) x) :=
  hx ▸ performWhen_runs _ _ (by simp [he]) hh

/-- A head of which the translator makes `x`, with nothing for the Engine to start. -/
theorem translateKeyHead_answers (hh : s.held = none) (he : s.kbd.events = e :: rest)
    (hx : judgeHead s = headDone p rest d x) (hn : NothingToStart x) :
    Answers (.translateKeyHead v) s (headDone p rest d x) :=
  .of_settle_quiet (exec_translateKeyHead hh he hx) hn.headDone (.refl _)

/-! ### Relayed events and refusals -/

theorem signalRefusal_eq (s : State) :
    signalRefusal s = (recordKeys true s).setKbd { s.kbd with tones := s.kbd.tones ++ [.click] } := by
  simp [signalRefusal, startTone]

theorem relayEvent_room {k : KeyKind} (h : s.kbd.relay.length < 8) :
    relayEvent p k s = recordKeys false (s.setKbd { s.kbd with relay := s.kbd.relay ++ [⟨p, k⟩] }) := by
  simp [relayEvent, relayCapacity, h]

theorem relayEvent_full {k : KeyKind} (h : 8 ≤ s.kbd.relay.length) : relayEvent p k s = signalRefusal s := by
  simp [relayEvent, relayCapacity, Nat.not_lt.mpr h]

/-! ### Feeds and the end of a document -/

theorem feedFits_iff (s : State) :
    feedFits s = true ↔ s.comp.output.length + (if holdsContent s then 2 else 1) ≤ 4 := by
  unfold feedFits outputRoom outputCapacity
  rw [decide_eq_true_iff]
  split <;> omega

/-- R64: the key at position `p` is held and will ask further feeds. -/
def feedHeld (p : Nat) (s : State) : State :=
  s.setKbd { s.kbd with feedRepeats := s.kbd.feedRepeats ++ [⟨p, .running s.params.repeatDelay⟩] }

/-- R64: the output queue with the earlier feed of the key no longer its latest. -/
def untagged (p : Nat) (s : State) : List Job := s.comp.output.map (Job.untag p)

theorem keyFeed_blank (hc : holdsContent s = false) (h : s.comp.output.length < 4) :
    keyFeed p s = s.setComp { s.comp with output := untagged p s ++ [.feed 12 (some p)] } := by
  have hc' (o : List Job) : holdsContent (s.setComp { s.comp with output := o }) = false := hc
  unfold keyFeed
  dsimp only
  rw [if_pos ((feedFits_iff _).mpr (by simp [hc']; omega)), placeFeed, if_neg (by simp [hc'])]
  rfl

theorem keyFeed_printed (hc : holdsContent s = true) (h : s.comp.output.length < 3) :
    keyFeed p s = s.setComp { s.comp with
      output := untagged p s ++ [.text s.comp.cells, .feed 12 (some p)], cells := Vector.replicate 80 [],
      lineSource := none, formCount := nextFormCount s.params.formLength s.comp.formCount } := by
  have hc' (o : List Job) : holdsContent (s.setComp { s.comp with output := o }) = true := hc
  unfold keyFeed
  dsimp only
  rw [if_pos ((feedFits_iff _).mpr (by simp [hc']; omega)), placeFeed, if_pos (hc' _)]
  simp [placeJob, printLine, untagged, State.setComp]

theorem keyFeed_dropped (h : 4 ≤ s.comp.output.length ∨ holdsContent s = true ∧ 3 ≤ s.comp.output.length) :
    keyFeed p s = s.setComp { s.comp with output := untagged p s } := by
  have hc (o : List Job) : holdsContent (s.setComp { s.comp with output := o }) = holdsContent s := rfl
  unfold keyFeed
  dsimp only
  rw [if_neg fun hf => ?_]
  · rfl
  · rw [feedFits_iff, hc] at hf
    simp only [State.setComp_comp, List.length_map] at hf
    split at hf <;> simp_all <;> omega

theorem endCompose_eq (s : State) : endCompose s = s.setCompose { s.compose with
    phase := .ending,
    write := if s.compose.loading = false ∧ s.compose.write = none then some { final := true }
      else s.compose.write } := by
  unfold endCompose composeFinalWrite
  simp only [Bool.and_eq_true, Bool.not_eq_true', decide_eq_true_eq]
  split
  next h =>
    obtain ⟨⟨-, hl⟩, hw⟩ := h
    rw [if_pos (show s.compose.loading = false ∧ s.compose.write = none from ⟨hl, hw⟩)]
    rfl
  next h =>
    rw [if_neg (show ¬ (s.compose.loading = false ∧ s.compose.write = none) from fun hc => h ⟨⟨rfl, hc.1⟩, hc.2⟩)]

/-! ### The head by its kind -/

section Make

variable (he : s.kbd.events = ⟨p, .make⟩ :: rest)
include he

/-- R60, R64: an entry that is no character leaves its position's down record, with what its key does. -/
theorem judgeHead_functionKey {b : Byte} (hm : effectiveMode s ≠ .relay) (hb : translate p s = b)
    (hf : entryChar b = none) (hx : functionKey p b s = removeEvent (setDown p d x))
    (hxe : x.kbd.events = s.kbd.events) : judgeHead s = headDone p rest d x := by
  rw [← removeEvent_setDown (hxe.trans he), ← hx]
  simp [judgeHead, he, hm, hb, hf]

theorem judgeHead_relay (hm : effectiveMode s = .relay) :
    judgeHead s = headDone p rest (some .relayed) (relayEvent p .make s) := by
  rw [← removeEvent_setDown (e := ⟨p, .make⟩) (by simpa using he)]
  simp [judgeHead, he, hm, relayMake]

/-- R64, R80: the PAPER FEED key asks a feed. -/
theorem judgeHead_feed (hm : effectiveMode s ≠ .relay) (hb : translate p s = 0x84) (hx : keyFeed p (feedHeld p s) = x) :
    judgeHead s = headDone p rest (some .feed) x := by
  subst hx
  exact judgeHead_functionKey he hm hb rfl rfl (by simp [feedHeld])

end Make

section Brk

variable (he : s.kbd.events = ⟨p, .brk⟩ :: rest)
include he

theorem judgeHead_relayed (hd : downRecord p s = some .relayed) :
    judgeHead s = headDone p rest none (relayEvent p .brk s) := by
  rw [← removeEvent_setDown (e := ⟨p, .brk⟩) (by simpa using he)]
  simp [judgeHead, he, takeBreak, hd]

theorem judgeHead_feedBreak (hd : downRecord p s = some .feed) : judgeHead s = headDone p rest none
    (s.setKbd { s.kbd with feedRepeats := s.kbd.feedRepeats.filter (·.position ≠ p) }) := by
  rw [← removeEvent_setDown (e := ⟨p, .brk⟩) (by simpa using he)]
  simp [judgeHead, he, takeBreak, hd]

theorem judgeHead_otherBreak (hr : downRecord p s ≠ some .relayed) (hf : downRecord p s ≠ some .feed) :
    judgeHead s = headDone p rest none s := by
  rw [← removeEvent_setDown he]
  simp only [judgeHead, he, takeBreak]

end Brk

/-! ### What each of them answers -/

section Answers

variable (hh : s.held = none)
include hh

/-- R65, R69: an event for the relay key queue, by the room it finds. -/
theorem translateKeyHead_relays {k : KeyKind} (he : s.kbd.events = e :: rest)
    (hx : judgeHead s = headDone p rest d (relayEvent p k s)) :
    (s.kbd.relay.length < 8 → exec (.translateKeyHead v) s = .next (settle s (some v) (headDone p rest d
      (recordKeys false (s.setKbd { s.kbd with relay := s.kbd.relay ++ [⟨p, k⟩] }))))) ∧
    (8 ≤ s.kbd.relay.length → exec (.translateKeyHead v) s = .next (settle s (some v) (headDone p rest d
      ((recordKeys true s).setKbd { s.kbd with tones := s.kbd.tones ++ [.click] })))) := by
  refine ⟨fun h => ?_, fun h => ?_⟩
  · rw [relayEvent_room h] at hx
    exact exec_translateKeyHead hh he hx
  · rw [relayEvent_full h, signalRefusal_eq] at hx
    exact exec_translateKeyHead hh he hx

variable (he : s.kbd.events = ⟨p, .make⟩ :: rest) (hm : effectiveMode s ≠ .relay)
include he hm

/-- R33, R64: the BREAK key asks a break. -/
theorem breakKey_answers (hb : translate p s = 0x83) (hx : askBreak s = x) (hn : NothingToStart s) :
    Answers (.translateKeyHead v) s (headDone p rest (some .other) x) := by
  subst hx
  refine translateKeyHead_answers hh he (judgeHead_functionKey he hm hb rfl rfl (by simp)) ?_
  simpa [NothingToStart] using hn

theorem endDocKey_ends (hb : translate p s = 0x85) (h : s.compose.phase = .composing ∨ s.compose.phase = .loading) :
    exec (.translateKeyHead v) s = .next (settle s (some v) (headDone p rest (some .other) (endCompose s))) :=
  exec_translateKeyHead hh he
    (judgeHead_functionKey he hm hb rfl (if_pos (by simpa [composeCanEnd] using h)) (by simp))

theorem endDocKey_refused (hb : translate p s = 0x85) (h : s.compose.phase = .idle ∨ s.compose.phase = .ending) :
    exec (.translateKeyHead v) s = .next (settle s (some v) (headDone p rest (some .other) (signalRefusal s))) :=
  exec_translateKeyHead hh he
    (judgeHead_functionKey he hm hb rfl (if_neg (by rcases h with h | h <;> simp [composeCanEnd, h])) (by simp))

end Answers

/-- Settles O21, by the kind of the head, its entry and its position's down record. -/
theorem functionKeysAndBreaks : Obligations.FunctionKeysAndBreaks := by
  unfold Obligations.FunctionKeysAndBreaks
  intro p v rest s hh hn i gives gone refused relays
  refine ⟨fun he hm => ?_, fun he hm => translateKeyHead_relays hh he (judgeHead_relay he hm),
    fun he hd => translateKeyHead_relays hh he (judgeHead_relayed he hd),
    fun he hr hf => translateKeyHead_answers hh he (judgeHead_otherBreak he hr hf) hn,
    fun he hd => translateKeyHead_answers hh he (judgeHead_feedBreak he hd) hn⟩
  have makes {b : Byte} {d : Option DownRecord} {x : State} (hb : translate p s = b) (hf : entryChar b = none)
      (hx : functionKey p b s = removeEvent (setDown p d x)) (hxe : x.kbd.events = s.kbd.events) (hn : NothingToStart x) :
      Answers i s (gone d x) := translateKeyHead_answers hh he (judgeHead_functionKey he hm hb hf hx hxe) hn
  refine ⟨fun hb => makes hb rfl rfl rfl hn, fun hb => makes hb rfl rfl rfl hn, fun hb => makes hb rfl rfl rfl hn,
    fun hb => makes hb rfl rfl rfl hn, fun hb => ⟨fun h => ?_, fun hc h hs => ?_, fun hc h hs => ?_⟩, fun hb => ?_,
    fun hb => ⟨fun h => ?_, fun h => ?_⟩, fun hb => ?_⟩
  · exact breakKey_answers hh he hm hb (h.elim askBreak_unconnected askBreak_of_break) hn
  · exact breakKey_answers hh he hm hb (askBreak_space hc h hs) hn
  · exact breakKey_answers hh he hm hb (askBreak_wait hc h hs) hn
  · intro held before fed printed
    refine ⟨fun hc h => ?_, fun hc h => ?_, fun h => ?_⟩
    · have hx := judgeHead_feed he hm hb (keyFeed_blank hc h)
      exact ⟨exec_translateKeyHead hh he hx, fun hs => translateKeyHead_answers hh he hx (.inl hs)⟩
    · have hx := judgeHead_feed he hm hb (keyFeed_printed hc h)
      exact ⟨exec_translateKeyHead hh he hx, fun hs => translateKeyHead_answers hh he hx (.inl hs)⟩
    · have hx := judgeHead_feed he hm hb (keyFeed_dropped h)
      exact translateKeyHead_answers hh he hx (hn.imp_right List.map_eq_nil_iff.mpr)
  · have run := endDocKey_ends (v := v) hh he hm hb h
    rwa [endCompose_eq] at run
  · have run := endDocKey_refused (v := v) hh he hm hb h
    rwa [signalRefusal_eq] at run
  · exact translateKeyHead_relays hh he (judgeHead_functionKey he hm hb rfl rfl (by simp))

end Sys2Proof.Machine
end

section
/-! PROOF. Flow control (R50, R51): the conditions, and what they do to the flow state and the pending code. -/

namespace Sys2Proof.Machine

variable {s : State}

theorem pauseCondition_iff (s : State) : pauseCondition s = true ↔
    12 ≤ s.framer.rxFifo.length ∨ s.disp.route.hasPrint = true ∧ s.params.highWater ≤ s.comp.queue.length := by
  simp [pauseCondition]

theorem resumeCondition_iff (s : State) : resumeCondition s = true ↔
    s.framer.rxFifo.length ≤ 4 ∧ (s.disp.route.hasPrint = true → s.comp.queue.length ≤ s.params.lowWater) := by
  cases h : s.disp.route.hasPrint <;> simp [resumeCondition, h]

/-- R51: no row of the table leads out of RUNNING without the pause condition. -/
theorem judgeFlow_running (hs : s.disp.flow = .running) (hp : pauseCondition s = false) : judgeFlow s = s := by
  rcases hq : s.disp.pendingFlow with _ | _ | _ <;> simp [judgeFlow, hs, hp, hq]

/-- R51: no row of the table leads out of PAUSE_SENT without the resume condition. -/
theorem judgeFlow_pauseSent (hs : s.disp.flow = .pauseSent) (hr : resumeCondition s = false) : judgeFlow s = s := by
  rcases hq : s.disp.pendingFlow with _ | _ | _ <;> simp [judgeFlow, hs, hr, hq]

/-- Settles O15, row by row of the flow table. -/
theorem flowConditionsActOnTheFlowState : Obligations.FlowConditionsActOnTheFlowState := by
  unfold Obligations.FlowConditionsActOnTheFlowState
  intro s
  refine ⟨pauseCondition_iff s, resumeCondition_iff s, fun h => ?_, fun hc hf => ⟨fun hs hp h => ?_, fun hs hp h => ?_,
    fun hs hp h => ?_, fun hs hp h => ?_, judgeFlow_running, judgeFlow_pauseSent⟩⟩
  · exact if_neg (by rcases h with h | h <;> simp [h])
  -- A row of the table with its condition met.
  all_goals simp [judgeFlow, hc, hf, hs, hp, h]

end Sys2Proof.Machine
end

section
/-! PROOF. The delivery of a text head (R47, R48, R161): what each sink of the route takes, and when the head leaves the FIFO. -/

namespace Sys2Proof.Machine

variable {s : State} {t : TakeChannel} {n : Nat} {e : Entry} {rest : List Entry} {b : TakeBuf} {d : TakeDoc} {c : Byte}

/-! ### TAKE's documents and buffers -/

/-- TAKE holds the document with this flag record, wherever its buffers stand. -/
def TakeChannel.Holds (d : TakeDoc) (t : TakeChannel) : Prop :=
  ∃ q a, { d with nextSeq := q, finalAwaits := a } ∈ t.docs

theorem TakeChannel.holds_of_mem (h : d ∈ t.docs) : t.Holds d := ⟨d.nextSeq, d.finalAwaits, h⟩

theorem TakeChannel.mem_modify {f : TakeDoc → TakeDoc} (h : d ∈ t.docs) (hn : d.document = n) :
    f d ∈ (t.modify n f).docs :=
  List.mem_map.mpr ⟨d, h, if_pos hn⟩

theorem TakeChannel.held_mem (h : t.held = some d) : d ∈ t.docs := List.mem_of_find?_eq_some h

theorem TakeChannel.Holds.used (h : t.Holds d) (b : TakeBuf) : (t.used b).Holds d := by
  obtain ⟨q, a, h⟩ := h
  by_cases hb : d.document = b.document
  · exact ⟨_, _, TakeChannel.mem_modify (d := { d with nextSeq := q, finalAwaits := a }) h hb⟩
  · exact ⟨q, a, List.mem_map.mpr ⟨_, h, if_neg hb⟩⟩

/-- R161: putting FREE buffers to use changes no flag record. -/
theorem TakeChannel.Holds.assign (h : t.Holds d) : t.assign.Holds d := by
  unfold TakeChannel.assign
  extract_lets u
  have hu : u.Holds d := by
    unfold u
    split
    · exact h
    split
    · exact h.used _
    · exact h
  split
  · exact hu
  split
  · exact hu.used _
  · exact hu

theorem TakeChannel.assign_bufA (h : t.bufA = some b) : t.assign.bufA = some b := by
  simp only [TakeChannel.assign, h, Option.isSome_some, if_true]
  (repeat' split) <;> exact h

theorem TakeChannel.assign_bufB (h : t.bufB = some b) : t.assign.bufB = some b := by
  unfold TakeChannel.assign
  extract_lets u
  have hu : u.bufB = some b := by
    unfold u
    (repeat' split) <;> exact h
  rw [if_pos (by simp [hu])]
  exact hu

theorem TakeChannel.filling_cases (h : t.filling n = some b) : b.isFillingFor n = true ∧
    (t.bufA = some b ∨ t.bufA.any (·.isFillingFor n) = false ∧ t.bufB = some b) := by
  unfold TakeChannel.filling at h
  cases ha : t.bufA.filter (·.isFillingFor n) with
  | some x =>
    rw [ha, Option.some_or, Option.some.injEq] at h
    subst h
    obtain ⟨hx, hf⟩ := Option.filter_eq_some_iff.mp ha
    exact ⟨hf, .inl hx⟩
  | none =>
    rw [ha, Option.none_or] at h
    obtain ⟨hb, hf⟩ := Option.filter_eq_some_iff.mp h
    refine ⟨hf, .inr ⟨?_, hb⟩⟩
    rw [Option.filter_eq_none_iff] at ha
    cases hA : t.bufA with
    | none => rfl
    | some x => simpa using ha x hA

theorem TakeBuf.isFillingFor_iff : b.isFillingFor n = true ↔ b.document = n ∧ b.full = false ∧ b.final = false := by
  simp [TakeBuf.isFillingFor, and_assoc]

theorem TakeBuf.push_full (c : Byte) (b : TakeBuf) :
    (b.push c).full = decide (b.chars.length = 57 ∧ b.seq < 63) := by
  have pushed : (b.push c).full = (decide ((b.chars ++ [c]).length = 58) && decide (b.seq < 63)) := rfl
  simp [pushed]

/-- R161: the character joins the FILLING buffer. -/
theorem takeHead_pushes (h : s.take.filling n = some b) :
    b.push (storeByte e.code e.poisoned) ∈
      (takeHead n e s).take.bufA.toList ++ (takeHead n e s).take.bufB.toList := by
  obtain ⟨hf, ha | ⟨ha, hb⟩⟩ := TakeChannel.filling_cases h
  · have hA : (takeHead n e s).take.bufA = some (b.push (storeByte e.code e.poisoned)) :=
      TakeChannel.assign_bufA (by simp [TakeChannel.modify, ha, hf])
    simp [hA]
  · have hB : (takeHead n e s).take.bufB = some (b.push (storeByte e.code e.poisoned)) :=
      TakeChannel.assign_bufB (by simp [TakeChannel.modify, ha, hb])
    simp [hB]

/-- R161: a poisoned character leaves POISONED in the flag record. -/
theorem takeHead_poisons (h : s.take.held = some d) (hn : d.document = n) (he : e.poisoned = true) :
    ∃ x ∈ (takeHead n e s).take.docs, x.document = n ∧ x.poisoned = true := by
  have marked : (s.take.modify n fun d => { d with poisoned := d.poisoned || e.poisoned }).Holds
      { d with poisoned := d.poisoned || e.poisoned } :=
    TakeChannel.holds_of_mem (TakeChannel.mem_modify (TakeChannel.held_mem h) hn)
  have kept : (takeHead n e s).take.Holds { d with poisoned := d.poisoned || e.poisoned } := by
    unfold takeHead
    refine TakeChannel.Holds.assign ?_
    split <;> exact marked
  obtain ⟨q, a, hx⟩ := kept
  exact ⟨_, hx, hn, by simp [he]⟩

/-! ### TAKE's answer -/

theorem takeAnswer_waits (h : s.take.held.map (·.document) ≠ some n ∨ s.take.filling n = none) :
    takeAnswer n s = .waits := by
  unfold takeAnswer
  rcases h with h | h
  · rw [if_neg h]
  · simp [h]

section Held

variable (hd : s.take.held.map (·.document) = some n) (hb : s.take.filling n = some b)
include hd hb

theorem takeAnswer_room (h : b.chars.length < 58) : takeAnswer n s = .takes := by
  simp [takeAnswer, hd, hb, blockFill, h]

theorem takeAnswer_last (h : 58 ≤ b.chars.length) (hs : b.seq = 63) : takeAnswer n s = .overflows := by
  simp [takeAnswer, hd, hb, blockFill, lastSeq, Nat.not_lt.mpr h, hs]

theorem takeAnswer_full (h : 58 ≤ b.chars.length) (hs : b.seq ≠ 63) : takeAnswer n s = .waits := by
  simp [takeAnswer, hd, hb, blockFill, lastSeq, Nat.not_lt.mpr h, hs]

end Held

/-! ### The delivery record -/

theorem delivered_iff (s : State) : delivered s = true ↔ ∀ k ∈ s.disp.route.sinks, k ∈ s.disp.record := by
  simp [delivered]

theorem store_mem_sinks {r : Route} (h : r.document = some n) : .store n ∈ r.sinks := by
  cases r <;> simp_all [Route.document, Route.sinks]

theorem finishHead_delivered (hx : s.disp.headExamined = true) (h : ∀ k ∈ s.disp.route.sinks, k ∈ s.disp.record) :
    finishHead s = removeHead s :=
  if_pos (by simp [hx, (delivered_iff s).mpr h])

theorem finishHead_waits {k : Sink} (hk : k ∈ s.disp.route.sinks) (h : k ∉ s.disp.record) : finishHead s = s :=
  if_neg fun hf => h ((delivered_iff s).mp (by simp_all) k hk)

theorem finishHead_unexamined (hx : s.disp.headExamined = false) : finishHead s = s := if_neg (by simp [hx])

/-! ### What TAKE makes of the head -/

theorem offerTake_unexamined (hx : s.disp.headExamined = false) : offerTake s = s := by
  unfold offerTake
  split <;> simp [hx]

theorem offerTake_printed (h : s.disp.route.document = none) : offerTake s = s := by simp [offerTake, h]

theorem offerTake_has (h : s.disp.route.document = some n) (hk : .store n ∈ s.disp.record) : offerTake s = s := by
  unfold offerTake
  split <;> simp_all

theorem offerHead_unexamined (hx : s.disp.headExamined = false) : offerHead s = s := by
  rw [offerHead, offerTake_unexamined hx, finishHead_unexamined hx]

section Waiting

variable (hx : s.disp.headExamined = true)
include hx

theorem offerHead_delivered (ho : offerTake s = s) (h : ∀ k ∈ s.disp.route.sinks, k ∈ s.disp.record) :
    offerHead s = removeHead s := by
  rw [offerHead, ho, finishHead_delivered hx h]

omit hx in
theorem offerHead_waits {k : Sink} (ho : offerTake s = s) (hk : k ∈ s.disp.route.sinks) (h : k ∉ s.disp.record) :
    offerHead s = s := by
  rw [offerHead, ho, finishHead_waits hk h]

variable (hf : s.framer.rxFifo = e :: rest) (hd : s.disp.route.document = some n) (hn : .store n ∉ s.disp.record)
include hf hd hn

theorem offerHead_takeWaits (ha : takeAnswer n s = .waits) : offerHead s = s :=
  offerHead_waits (by simp [offerTake, hx, hf, hd, hn, ha]) (store_mem_sinks hd) hn

theorem offerHead_overflows (ha : takeAnswer n s = .overflows) : offerHead s = finishHead (takeOverflow n s) := by
  simp [offerHead, offerTake, hx, hf, hd, hn, ha]

theorem offerHead_takes (ha : takeAnswer n s = .takes) :
    offerHead s = finishHead (joinRecord (.store n) (takeHead n e s)) := by
  simp [offerHead, offerTake, hx, hf, hd, hn, ha]

/-- R47: TAKE was the last sink to take the head. -/
theorem offerHead_takesLast (ha : takeAnswer n s = .takes) (hp : s.disp.route = .store n ∨ .print ∈ s.disp.record) :
    offerHead s = removeHead (joinRecord (.store n) (takeHead n e s)) := by
  rw [offerHead_takes hx hf hd hn ha, finishHead_delivered (by simpa using hx)]
  cases hr : s.disp.route <;> simp_all [joinRecord, Route.sinks, Route.document]

/-- R47: LINE has still to deposit the head that TAKE took. -/
theorem offerHead_takesFirst (ha : takeAnswer n s = .takes) (hr : s.disp.route = .printStore n)
    (hp : .print ∉ s.disp.record) : offerHead s = joinRecord (.store n) (takeHead n e s) := by
  rw [offerHead_takes hx hf hd hn ha]
  exact finishHead_waits (k := .print) (by simp [hr, Route.sinks]) (by simp [joinRecord, hp])

theorem exec_textHeadDelivery (hh : s.held = none) (ha : takeAnswer n s ≠ .waits) :
    exec .textHeadDelivery s = .next (settle s none (offerHead s)) :=
  performWhen_runs _ _ (by simp [deliveryDue, hx, hf, hd, hn, ha]) hh

end Waiting

/-- Settles O14: the routes of the waiting head, then TAKE's answer, then the command. -/
theorem textHeadGoesToTake : Obligations.TextHeadGoesToTake := by
  unfold Obligations.TextHeadGoesToTake
  refine ⟨fun n s hx => ?_, fun e rest n b s hh hf hx hd hb => ?_⟩
  · intro has
    refine ⟨fun hr => ?_, fun hr => ⟨fun hp => ?_, fun hp => ?_⟩, fun hr hk => ?_,
      fun hr hk => ⟨fun hp => ?_, fun hp => ?_⟩, fun e rest hf hr hn => ?_, takeAnswer_waits, fun hd b hb => ?_⟩
    · exact offerHead_delivered hx (offerTake_printed (by simp [hr, Route.document])) (by simp [hr, Route.sinks])
    · exact offerHead_delivered hx (offerTake_printed (by simp [hr, Route.document])) (by simpa [hr, Route.sinks] using hp)
    · exact offerHead_waits (offerTake_printed (by simp [hr, Route.document])) (k := .print) (by simp [hr, Route.sinks]) hp
    · exact offerHead_delivered hx (offerTake_has (by simp [hr, Route.document]) hk) (by simpa [hr, Route.sinks] using hk)
    · exact offerHead_delivered hx (offerTake_has (by simp [hr, Route.document]) hk)
        (by simpa [hr, Route.sinks] using ⟨hp, hk⟩)
    · exact offerHead_waits (offerTake_has (by simp [hr, Route.document]) hk) (k := .print) (by simp [hr, Route.sinks]) hp
    · exact ⟨offerHead_takeWaits hx hf hr hn, offerHead_overflows hx hf hr hn,
        fun ha => ⟨offerHead_takesLast hx hf hr hn ha, offerHead_takesFirst hx hf hr hn ha⟩⟩
    · refine ⟨fun h => ⟨takeAnswer_room hd hb h, fun e => ⟨⟨_, takeHead_pushes hb, ?_⟩, fun he => ?_⟩⟩,
        takeAnswer_last hd hb, takeAnswer_full hd hb⟩
      · obtain ⟨hdoc, -, hfin⟩ := TakeBuf.isFillingFor_iff.mp (TakeChannel.filling_cases hb).1
        exact ⟨hdoc, rfl, rfl, hfin, TakeBuf.push_full _ b⟩
      · obtain ⟨d, hs, hdoc⟩ := Option.map_eq_some_iff.mp hd
        exact takeHead_poisons hs hdoc he
  · have delivers {x : State} (hr : s.disp.route.document = some n) (hn : .store n ∉ s.disp.record)
        (ha : takeAnswer n s ≠ .waits) (hx' : offerHead s = x) : exec .textHeadDelivery s = .next (settle s none x) :=
      hx' ▸ exec_textHeadDelivery hx hf hr hn hh ha
    refine ⟨fun hr hk h => ?_, fun hr hk h => ?_, fun hr hk h => ?_, fun hr hk h hs => ?_⟩
    all_goals
      have hdoc : s.disp.route.document = some n := by simp [hr, Route.document]
      have hn : .store n ∉ s.disp.record := by simp [hk]
    · have ha := takeAnswer_room hd hb h
      exact delivers hdoc hn (by simp [ha]) (offerHead_takesLast hx hf hdoc hn ha (.inl hr))
    · have ha := takeAnswer_room hd hb h
      exact delivers hdoc hn (by simp [ha]) (offerHead_takesFirst hx hf hdoc hn ha hr (by simp [hk]))
    · have ha := takeAnswer_room hd hb h
      exact delivers hdoc hn (by simp [ha]) (offerHead_takesLast hx hf hdoc hn ha (.inr (by simp [hk])))
    · have ha := takeAnswer_last hd hb h hs
      exact delivers hdoc hn (by simp [ha]) (offerHead_overflows hx hf hdoc hn ha)

end Sys2Proof.Machine
end

section
/-! PROOF. The route (R38 to R42, R162): what a designator and a reset make of it, and the end of TAKE's hold. -/

namespace Sys2Proof.Machine

variable {s : State} {r : Route} {n v : Nat} {d : TakeDoc}

/-! ### The end of TAKE's hold -/

/-- R162: the ended document is closing, with this outcome. -/
theorem takeEnd_closes (incomplete : Bool) (o : ChannelOutcome) (h : s.take.held = some d) :
    ∃ e ∈ (takeEnd incomplete o s).take.docs, e.document = d.document ∧ e.closing = true ∧ e.outcome = o ∧
      e.incomplete = (d.incomplete || incomplete) := by
  have closed : (takeEnd incomplete o s).take.Holds { d with
      closing := true, incomplete := d.incomplete || incomplete, outcome := o,
      finalAwaits := !s.take.hasFilling d.document } := by
    unfold takeEnd
    rw [h]
    exact TakeChannel.Holds.assign (TakeChannel.holds_of_mem (TakeChannel.mem_modify (TakeChannel.held_mem h) rfl))
  obtain ⟨q, a, he⟩ := closed
  exact ⟨_, he, rfl, rfl, rfl, rfl⟩

section Hold

variable (hr : s.disp.route.document = some n) (hd : s.take.held.map (·.document) = some n)
include hr hd

theorem endRouteHold_reset (new : Route) : endRouteHold new true s = takeEnd true .lineLost s := by
  simp [endRouteHold, hr, hd]

theorem endRouteHold_other {new : Route} (h : new.document ≠ some n) :
    endRouteHold new false s = takeEnd false .complete s := by
  simp [endRouteHold, hr, hd, h]

omit hd in
theorem endRouteHold_same {new : Route} (h : new.document = some n) : endRouteHold new false s = s := by
  simp [endRouteHold, hr, h]

end Hold

/-! ### The route that is entered -/

theorem setRoute_route (r : Route) (s : State) : (setRoute r s).disp.route = r := by simp [setRoute]

theorem refuseRoute_route (n : Nat) (s : State) : (refuseRoute n s).disp.route = .print := by
  simp [refuseRoute, setRoute_route]

theorem enterRoute_plain (isReset : Bool) (h : r.document = none) : enterRoute r isReset s = setRoute r s := by
  simp [enterRoute, h]

section Claim

variable (h : r.document = some n)
include h

/-- R40, R42: while the modem is not connected no claim is asked. -/
theorem enterRoute_reset_unconnected (hc : connected s = false) : enterRoute r true s = setRoute .print s := by
  simp [enterRoute, h, hc]

theorem enterRoute_designator_unconnected (hc : connected s = false) : enterRoute r false s = refuseRoute n s := by
  simp [enterRoute, h, hc]

variable (isReset : Bool) (hc : connected s = true)
include hc

theorem enterRoute_granted (ha : takeRefuses n s = false) : (enterRoute r isReset s).disp.route = r ∧
    (enterRoute r isReset s).reports = s.reports := by
  simp only [enterRoute, h, hc, ha, Bool.not_true, Bool.false_eq_true, if_false]
  split <;> simp [setRoute_route]

theorem enterRoute_refused (ha : takeRefuses n s = true) (hd : s.take.held.map (·.document) ≠ some n) :
    enterRoute r isReset s = refuseRoute n s := by
  simp [enterRoute, h, hc, ha, hd]

end Claim

/-- R48: with no text head waiting, a change of route is the end of TAKE's hold and the new route. -/
theorem changeRoute_unexamined (r : Route) (isReset : Bool) (hx : s.disp.headExamined = false) :
    changeRoute r isReset s = enterRoute r isReset (endRouteHold r isReset s) :=
  offerHead_unexamined (by simpa using hx)

theorem connected_endRouteHold (r : Route) (isReset : Bool) (s : State) :
    connected (endRouteHold r isReset s) = connected s := connected_congr (by simp)

/-! ### Recording -/

/-- R53: an enabled LineEvent has its event, with the route in force. -/
theorem recordLine_records (e : LineEvent) (refused : Option Nat) (h : reportEnabled 2 s = true) :
    ∃ x, (recordLine e refused s).reports.line = some x ∧ x.events.getLsbD e.bit = true ∧
      (∀ m, refused = some m → x.refused = m) ∧ x.route = s.disp.route := by
  have hbit : (bitSet 8 e.bit).getLsbD e.bit = true := by cases e <;> decide
  refine ⟨_, by simp only [recordLine, h, if_true]; rfl, ?_, ?_, rfl⟩
  · rw [BitVec.getLsbD_or, hbit, Bool.or_true]
  · rintro m rfl
    rfl

theorem refuseRoute_records (n : Nat) (h : reportEnabled 2 s = true) :
    ∃ x, (refuseRoute n s).reports.line = some x ∧ x.events.getLsbD 3 = true ∧ x.refused = n ∧ x.route = .print := by
  have hs : reportEnabled 2 (setRoute .print s) = true := by simpa [reportEnabled] using h
  obtain ⟨x, hx, he, hn, hr⟩ := recordLine_records .takeRefused (some n) hs
  exact ⟨x, hx, he, hn n rfl, hr.trans (setRoute_route _ _)⟩

/-! ### Designator values -/

/-- R38: the values that name a document. -/
theorem ofValue_document (h1 : 1 ≤ n) (h31 : n ≤ 31) (h : v = n ∧ r = .store n ∨ v = n + 32 ∧ r = .printStore n) :
    Route.ofValue v = some r ∧ r.document = some n := by
  rcases h with ⟨rfl, rfl⟩ | ⟨rfl, rfl⟩
  · refine ⟨?_, rfl⟩
    rw [Route.ofValue, if_neg (by omega), if_pos h31]
  · refine ⟨?_, rfl⟩
    rw [Route.ofValue, if_neg (by omega), if_neg (by omega), if_pos (by omega), Nat.add_sub_cancel]

theorem ofValue_none (h : v = 32 ∨ 65 ≤ v) : Route.ofValue v = none := by
  unfold Route.ofValue
  rw [if_neg (by omega), if_neg (by omega), if_neg (by omega), if_neg (by omega)]

theorem resetRoute_of (hx : s.disp.headExamined = false) (h : Route.ofValue s.params.defaultRoute = some r) :
    resetRoute s = enterRoute r true (endRouteHold r true s) := by
  rw [resetRoute, h, Option.getD_some, changeRoute_unexamined r true hx]

theorem designate_same (h : Route.ofValue v = some s.disp.route) : designate v s = s := by simp [designate, h]

theorem designate_other (hx : s.disp.headExamined = false) (h : Route.ofValue v = some r) (hr : s.disp.route ≠ r) :
    designate v s = enterRoute r false (endRouteHold r false s) := by
  simp [designate, h, Ne.symm hr, changeRoute_unexamined r false hx]

/-- R40: a reset to a route without a document. -/
theorem resetRoute_plain (hx : s.disp.headExamined = false) (h : Route.ofValue s.params.defaultRoute = some r)
    (hd : r.document = none) : (resetRoute s).disp.route = r ∧ (resetRoute s).reports = s.reports := by
  rw [resetRoute_of hx h, enterRoute_plain _ hd]
  exact ⟨setRoute_route _ _, by simp⟩

theorem designate_plain (hx : s.disp.headExamined = false) (h : Route.ofValue v = some r) (hd : r.document = none) :
    (designate v s).disp.route = r := by
  by_cases hr : s.disp.route = r
  · rw [designate_same (hr.symm ▸ h), hr]
  · rw [designate_other hx h hr, enterRoute_plain _ hd, setRoute_route]

/-- R39: a value that names no route. -/
theorem designate_bad (hx : s.disp.headExamined = false) (h : Route.ofValue v = none) :
    (designate v s).disp.route = .print ∧ (reportEnabled 2 s = true →
      ∃ x, (designate v s).reports.line = some x ∧ x.events.getLsbD 2 = true) := by
  obtain ⟨x, hx, hroute, hmask⟩ : ∃ x, designate v s = recordLine .badDesignator none x ∧ x.disp.route = .print ∧
      x.params = s.params := by
    by_cases hr : s.disp.route = .print
    · exact ⟨s, by simp [designate, h, hr], hr, rfl⟩
    · refine ⟨changeRoute .print false s, by simp [designate, h, hr], ?_, by simp⟩
      rw [changeRoute_unexamined _ _ hx, enterRoute_plain _ rfl, setRoute_route]
  rw [hx]
  refine ⟨by simpa using hroute, fun he => ?_⟩
  obtain ⟨y, hy, hbit, -⟩ := recordLine_records (s := x) .badDesignator none (by simpa [reportEnabled, hmask] using he)
  exact ⟨y, hy, hbit⟩

/-- Settles O13: TAKE's hold first, then the route of each value, by a reset and by a designator. -/
theorem designatorNamesTheRoute : Obligations.DesignatorNamesTheRoute := by
  unfold Obligations.DesignatorNamesTheRoute
  refine ⟨fun incomplete o d s => takeEnd_closes incomplete o,
    fun new n s hr hd => ⟨endRouteHold_reset hr hd new, endRouteHold_other hr hd, endRouteHold_same hr⟩,
    fun v s hx => ⟨?_, fun hv => designate_plain hx (by rw [hv]; rfl) rfl,
      fun hv => designate_plain hx (by rw [hv]; rfl) rfl, fun hv => designate_bad hx (ofValue_none hv),
      fun n r h1 h31 hv => ?_⟩⟩
  · refine ⟨fun hv => resetRoute_plain hx (by rw [hv]; rfl) rfl, fun hv => resetRoute_plain hx (by rw [hv]; rfl) rfl,
      fun n r h1 h31 hv => ?_⟩
    obtain ⟨hr, hd⟩ := ofValue_document h1 h31 hv
    rw [resetRoute_of hx hr]
    refine ⟨fun hc => ?_, fun hc ha => ?_, fun hc ha hh => ?_⟩
    · rw [enterRoute_reset_unconnected hd (by rwa [connected_endRouteHold])]
      exact ⟨setRoute_route _ _, by simp⟩
    · have granted := enterRoute_granted hd true (by rwa [connected_endRouteHold]) ha
      exact ⟨granted.1, granted.2.trans (by simp)⟩
    · rw [enterRoute_refused hd true (by rwa [connected_endRouteHold]) ha hh]
      exact ⟨refuseRoute_route _ _, fun he => refuseRoute_records n (by simpa [reportEnabled] using he)⟩
  · obtain ⟨hr, hd⟩ := ofValue_document h1 h31 hv
    refine ⟨fun hs => designate_same (hs.symm ▸ hr), fun hs hc => ?_, fun hs hc ha => ?_, fun hs hc ha hh => ?_⟩
    all_goals rw [designate_other hx hr hs]
    · rw [enterRoute_designator_unconnected hd (by rwa [connected_endRouteHold]), refuseRoute_route]
    · exact (enterRoute_granted hd false (by rwa [connected_endRouteHold]) ha).1
    · rw [enterRoute_refused hd false (by rwa [connected_endRouteHold]) ha hh, refuseRoute_route]

end Sys2Proof.Machine
end

section
/-! PROOF. The Dispatcher's examination of the receive FIFO head (R37, R43, R44). -/

namespace Sys2Proof.Machine

variable {s : State} {e : Entry} {rest : List Entry}

/-! ### The classes of a head -/

theorem classify_designator (h : e.routeBit = true) : classify e s = .designator := by simp [classify, h]

section NoDesignator

variable (hr : e.routeBit = false)
include hr

section Flow

variable (hf : s.params.flowControl = true) (hp : e.poisoned = false)
include hf hp

theorem classify_pause (h : e.code = s.params.pauseCode) : classify e s = .flowCode .pause := by
  simp [classify, hr, hf, hp, h]

theorem classify_resume (hn : e.code ≠ s.params.pauseCode) (h : e.code = s.params.resumeCode) :
    classify e s = .flowCode .resume := by
  simp_all [classify]

end Flow

variable (hn : ¬ ((s.params.flowControl = true ∧ e.poisoned = false) ∧
  (e.code = s.params.pauseCode ∨ e.code = s.params.resumeCode)))
include hn

/-- R37: what is no designator and no flow code is an enquiry or text. -/
theorem classify_plain : classify e s =
    if e.code = 0x05 && !e.poisoned && s.disp.answerback ≠ [] then .enquiry else .text := by
  unfold classify
  rw [if_neg (by simp [hr]), if_neg fun h => ?_, if_neg fun h => ?_]
  all_goals
    simp only [Bool.and_eq_true, Bool.not_eq_true', decide_eq_true_eq] at h
    obtain ⟨hflow, hcode⟩ := h
  · exact hn ⟨hflow, .inr hcode⟩
  · exact hn ⟨hflow, .inl hcode⟩

theorem classify_enquiry (hc : e.code = 0x05) (hp : e.poisoned = false) (ha : s.disp.answerback ≠ []) :
    classify e s = .enquiry := by
  rw [classify_plain hr hn, if_pos (by simp [hc, hp, ha])]

theorem classify_text (h : ¬ (e.code = 0x05 ∧ e.poisoned = false ∧ s.disp.answerback ≠ [])) : classify e s = .text := by
  rw [classify_plain hr hn, if_neg fun h' => h (by simpa [and_assoc] using h')]

end NoDesignator

/-- R44: an enquiry begins the answerback where none is in progress. -/
theorem enquire_eq (s : State) : enquire s = s.setDisp { s.disp with
    progress := if connected s = true ∧ s.disp.progress = none then some 0 else s.disp.progress } := by
  unfold enquire
  simp only [Bool.and_eq_true, decide_eq_true_eq]
  split <;> rfl

/-! ### What becomes of each class -/

section Head

variable (hh : s.held = none) (hf : s.framer.rxFifo = e :: rest) (hx : s.disp.headExamined = false)
include hh hf hx

theorem exec_dispatchHead {x : State} (h : examineHead s = x) : exec .dispatchHead s = .next (settle s none x) :=
  h ▸ performWhen_runs _ _ (by simp [hf, hx]) hh

omit hh

theorem examineHead_badDesignator (h : classify e s = .designator) (hp : e.poisoned = true) :
    examineHead s = recordLine .badDesignator none (removeHead s) := by
  simp [examineHead, hf, hx, h, hp]

theorem examineHead_designator (h : classify e s = .designator) (hp : e.poisoned = false) :
    examineHead s = designate e.code.toNat (removeHead s) := by
  simp [examineHead, hf, hx, h, hp]

theorem examineHead_pause (h : classify e s = .flowCode .pause) :
    examineHead s = removeHead (s.setDisp { s.disp with remotePause := true }) := by
  simp [examineHead, hf, hx, h]

theorem examineHead_resume (h : classify e s = .flowCode .resume) :
    examineHead s = removeHead (s.setDisp { s.disp with remotePause := false }) := by
  simp [examineHead, hf, hx, h]

theorem examineHead_enquiry (h : classify e s = .enquiry) : examineHead s = removeHead (enquire s) := by
  simp [examineHead, hf, hx, h]

theorem examineHead_text (h : classify e s = .text) :
    examineHead s = offerHead (s.setDisp { s.disp with headExamined := true }) := by
  simp [examineHead, hf, hx, h]

end Head

/-- Settles O12, by the class of the head. -/
theorem headIsExaminedInOrder : Obligations.HeadIsExaminedInOrder := by
  unfold Obligations.HeadIsExaminedInOrder
  intro e rest s hh hf hx flow gives
  have gives_of {x : State} (h : examineHead s = x) : gives x := exec_dispatchHead hh hf hx h
  exact ⟨fun hr hp => gives_of (examineHead_badDesignator hf hx (classify_designator hr) hp),
    fun hr hp => gives_of (examineHead_designator hf hx (classify_designator hr) hp),
    fun hr ⟨hc, hp⟩ h => gives_of (examineHead_pause hf hx (classify_pause hr hc hp h)),
    fun hr ⟨hc, hp⟩ hn h => gives_of (examineHead_resume hf hx (classify_resume hr hc hp hn h)),
    fun hr hn hc hp ha =>
      gives_of ((examineHead_enquiry hf hx (classify_enquiry hr hn hc hp ha)).trans (by rw [enquire_eq])),
    fun hr hn h => gives_of (examineHead_text hf hx (classify_text hr hn h))⟩

end Sys2Proof.Machine
end

section
/-! PROOF. A deposit in the print queue (R47, R61, R72 to R76, R78, R159): LINE, KEYS, LINK and REPRINT, and the release of print
input at the end of a line. -/

namespace Sys2Proof.Machine

variable {s x y : State} {c : Claimant} {e : PrintEntry} {a : Entry} {b : Bool} {n p : Nat} {k : Code}

/-! ### What a deposit leaves alone -/

theorem depositEntry_keeps (e : PrintEntry) (s : State) :
    Keeps (s.setComp { s.comp with queue := s.comp.queue ++ [e] }) (depositEntry e s) := by
  constructor <;> simp [depositEntry, readEcho]

theorem joinRecord_keeps (k : Sink) (x : State) : Keeps x (joinRecord k x) := by constructor <;> simp

theorem finishHead_keeps (x : State) : Keeps x (finishHead x) := by constructor <;> simp

theorem freeInput_keeps (x : State) : Keeps x (freeInput x) := by constructor <;> simp

theorem arbitrate_keeps (x : State) : Keeps x (arbitrate x) := by constructor <;> simp

theorem reprintTake_keeps (e : PrintEntry) (x : State) : Keeps x (reprintTake e x) := by constructor <;> simp

theorem Keeps.setKbd (k : Keeps x y) (j : Keyboard) : Keeps (x.setKbd j) (y.setKbd j) := { k with kbd := rfl }

/-- R76: print input as a deposit of this entry leaves it. -/
def releasedBy (e : PrintEntry) (s : State) : State := if releases e s then freeInput s else s

theorem releasedBy_keeps (e : PrintEntry) (x : State) : Keeps x (releasedBy e x) := by
  unfold releasedBy
  split
  · exact freeInput_keeps x
  · exact .refl x

/-! ### The release -/

theorem releases_iff (e : PrintEntry) (s : State) : releases e s = true ↔
    e.poisoned = false ∧ (e.code = 0x0A ∨ e.code = 0x0C) ∧ (e.source = .reprint → s.reprint.whole = false) := by
  simp [releases, and_assoc, Decidable.imp_iff_not_or]

theorem releasedBy_end (h : releases e s = true) : releasedBy e s = freeInput s := if_pos h

theorem releasedBy_other (h : ¬ releases e s = true) : releasedBy e s = s := if_neg h

@[simp] theorem freeInput_owner (s : State) : (freeInput s).comp.owner = none := rfl

theorem afterDeposit_owned (nextFirst : Bool) (d : Claimant) (h : s.comp.owner = some c) :
    afterDeposit nextFirst d s = s := by
  simp [afterDeposit, h]

theorem afterDeposit_competes (d : Claimant) (h : s.comp.owner = none) : afterDeposit false d s = arbitrate s := by
  simp [afterDeposit, h]

theorem afterDeposit_nextFirst (d : Claimant) (h : s.comp.owner = none) :
    afterDeposit true d s = arbitrate (offerNext d s) := by
  simp [afterDeposit, h]

/-- R74: LINK and REPRINT have their next character ready, whatever the operand says (log entry 17). -/
theorem afterDeposit_ready (nextFirst : Bool) (hc : c = .link ∨ c = .reprint) (h : s.comp.owner = none) :
    afterDeposit nextFirst c s = arbitrate s := by
  cases nextFirst with
  | false => exact afterDeposit_competes c h
  | true => rcases hc with rfl | rfl <;> exact afterDeposit_nextFirst _ h

theorem afterDeposit_false_keeps (c : Claimant) (x : State) : Keeps x (afterDeposit false c x) := by
  unfold afterDeposit
  split
  · exact .refl x
  · exact arbitrate_keeps x

/-! ### The command -/

section Deposit

variable (hh : s.held = none) (hq : s.comp.queue.length < 512) (ho : s.comp.owner = some c)
include hh hq ho

theorem exec_printDeposit (hl : letsGo c s = true) (hx : afterDeposit b c (depositOf c s) = x) :
    exec (.printDeposit b) s = .next (settle s none x) := by
  subst hx
  change execPrintDeposit b s = _
  simp only [execPrintDeposit, ho]
  exact performWhen_runs _ _ (by simp [canDeposit, ho, hl, printCapacity, hq]) hh

/-- R75, R76: LINK's and REPRINT's deposit of an entry after which print input is with them still, or free. -/
theorem readyDeposit (hc : c = .link ∨ c = .reprint) (hl : letsGo c s = true) (hd : depositOf c s = releasedBy e x)
    (hx : x.comp.owner = some c) :
    (¬ releases e x = true → exec (.printDeposit b) s = .next (settle s none x)) ∧
    (releases e x = true → exec (.printDeposit b) s = .next (settle s none (arbitrate (freeInput x)))) := by
  refine ⟨fun hr => exec_printDeposit hh hq ho hl ?_, fun hr => exec_printDeposit hh hq ho hl ?_⟩
  · rw [hd, releasedBy_other hr, afterDeposit_owned b c hx]
  · rw [hd, releasedBy_end hr, afterDeposit_ready b hc (freeInput_owner x)]

/-- What the deposit and the release leave alone, they leave alone together. -/
theorem readyDeposit_answers (hc : c = .link ∨ c = .reprint) (hl : letsGo c s = true)
    (hd : depositOf c s = releasedBy e x) (hx : x.comp.owner = some c) (hk : Keeps y x) :
    Answers (.printDeposit b) s y := by
  obtain ⟨stays, goes⟩ := readyDeposit (b := b) hh hq ho hc hl hd hx
  by_cases hr : releases e x = true
  · exact .of_settle (goes hr) (hk.trans ((freeInput_keeps x).trans (arbitrate_keeps _)))
  · exact .of_settle (stays hr) hk

end Deposit

/-! ### LINE -/

/-- R73: the entry that a text head becomes. -/
def lineEntry (a : Entry) : PrintEntry := ⟨a.code, a.poisoned, a.gap, .line⟩

/-- R47: LINE has deposited the head, and the print sink is in the delivery record. -/
def lineTook (a : Entry) (s : State) : State := joinRecord .print (depositEntry (lineEntry a) s)

theorem lineDeposit_eq {rest : List Entry} (hf : s.framer.rxFifo = a :: rest) :
    lineDeposit s = finishHead (releasedBy (lineEntry a) (lineTook a s)) := by
  simp only [lineDeposit, hf]
  rfl

theorem lineDeposit_keeps {rest : List Entry} (hf : s.framer.rxFifo = a :: rest) :
    Keeps (s.setComp { s.comp with queue := s.comp.queue ++ [lineEntry a] }) (lineDeposit s) := by
  rw [lineDeposit_eq hf]
  exact (depositEntry_keeps _ s).trans ((joinRecord_keeps _ _).trans ((releasedBy_keeps _ _).trans (finishHead_keeps _)))

theorem lineTook_disp (a : Entry) (s : State) : (lineTook a s).disp.headExamined = s.disp.headExamined ∧
    (lineTook a s).disp.route = s.disp.route ∧ (lineTook a s).disp.record = s.disp.record ++ [.print] := by
  simp [lineTook, joinRecord]

theorem releases_line (a : Entry) (s : State) :
    releases (lineEntry a) s = true ↔ a.poisoned = false ∧ (a.code = 0x0A ∨ a.code = 0x0C) := by
  simp [releases_iff, lineEntry]

section LineCommand

variable {rest : List Entry} (hf : s.framer.rxFifo = a :: rest)
include hf

theorem afterDeposit_lineKeeps (ho : s.comp.owner = some .line)
    (hr : ¬ (a.poisoned = false ∧ (a.code = 0x0A ∨ a.code = 0x0C))) :
    afterDeposit b .line (lineDeposit s) = finishHead (lineTook a s) := by
  rw [lineDeposit_eq hf, releasedBy_other (by rwa [releases_line]),
    afterDeposit_owned b .line (by simpa [lineTook] using ho)]

variable (hr : a.poisoned = false ∧ (a.code = 0x0A ∨ a.code = 0x0C))
include hr

theorem lineDeposit_frees : lineDeposit s = finishHead (freeInput (lineTook a s)) := by
  rw [lineDeposit_eq hf, releasedBy_end ((releases_line _ _).mpr hr)]

theorem afterDeposit_lineCompetes : afterDeposit false .line (lineDeposit s) =
    arbitrate (finishHead (freeInput (lineTook a s))) := by
  rw [lineDeposit_frees hf hr, afterDeposit_competes .line (by simp)]

/-- R76: LINE's next character is the Dispatcher's next head. -/
theorem afterDeposit_lineNextFirst : afterDeposit true .line (lineDeposit s) =
    arbitrate (examineHead (finishHead (freeInput (lineTook a s)))) := by
  rw [lineDeposit_frees hf hr, afterDeposit_nextFirst .line (by simp)]
  rfl

end LineCommand

section LineHead

variable (hx : s.disp.headExamined = true) (ht : x.disp = (lineTook a s).disp)
include hx ht

/-- R47: print was the last sink to take the head. -/
theorem finishHead_printLast
    (all : s.disp.route = .print ∨ ∃ n, s.disp.route = .printStore n ∧ .store n ∈ s.disp.record) :
    finishHead x = removeHead x := by
  obtain ⟨hexam, hroute, hrecord⟩ := lineTook_disp a s
  rw [finishHead_delivered (by rw [ht, hexam, hx])]
  rw [ht, hroute, hrecord]
  rcases all with hr | ⟨n, hr, hn⟩
  · simp [hr, Route.sinks]
  · simp [hr, Route.sinks, hn]

omit hx

/-- R47: TAKE has still to take the head that LINE deposited. -/
theorem finishHead_printFirst (hp : s.disp.route.hasPrint = true)
    (hn : ¬ (s.disp.route = .print ∨ ∃ n, s.disp.route = .printStore n ∧ .store n ∈ s.disp.record)) :
    finishHead x = x := by
  obtain ⟨-, hroute, hrecord⟩ := lineTook_disp a s
  cases hr : s.disp.route with
  | print => exact absurd (.inl hr) hn
  | store n => simp [hr, Route.hasPrint] at hp
  | discard => simp [hr, Route.hasPrint] at hp
  | printStore n =>
    have hm : Sink.store n ∉ s.disp.record := fun hm => hn (.inr ⟨n, hr, hm⟩)
    exact finishHead_waits (k := .store n) (by simp [ht, hroute, hr, Route.sinks]) (by simpa [ht, hrecord] using hm)

end LineHead

/-! ### LINK and REPRINT -/

theorem linkDeposit_eq {rest : List Code} (hl : s.comp.linkPrint = k :: rest) :
    linkDeposit s = releasedBy ⟨k, false, false, .link⟩
      (depositEntry ⟨k, false, false, .link⟩ (s.setComp { s.comp with linkPrint := rest })) := by
  simp only [linkDeposit, hl]
  rfl

theorem reprintDeposit_eq (he : reprintOffer s = some e) :
    reprintDeposit s = releasedBy e (reprintTake e (depositEntry e s)) := by
  simp only [reprintDeposit, he]
  rfl

theorem reprintOffer_source (he : reprintOffer s = some e) : e.source = .reprint := by
  unfold reprintOffer at he
  split at he
  · cases he
  · split at he
    · next i _ =>
      rw [Option.some.injEq] at he
      cases i <;> exact he ▸ rfl
    · split at he
      · exact (Option.some.inj he) ▸ rfl
      · cases he

/-! ### KEYS -/

/-- R57, R60, R61, R67: a MAKE at position `p` has been delivered as a character, and `rest` is left of the queue. -/
def charTyped (p : Nat) (rest : List KeyEvent) (s : State) : State :=
  keyHeadGone rest (s.setKbd { s.kbd with
    downs := put s.kbd.downs p (some .character),
    autoRepeat := if (keyRecord p s).down = true ∧ (keyRecord p s).breakOwed = false then
        some ⟨p, .running s.params.repeatDelay⟩ else none })

theorem charTyped_eq (p : Nat) (rest : List KeyEvent) (s : State) :
    charTyped p rest s = headDone p rest (some .character) (beginRepeat p s) := by
  simp [charTyped, headDone, beginRepeat, State.setKbd]

theorem charTyped_only (p : Nat) (rest : List KeyEvent) (s : State) :
    charTyped p rest s = s.setKbd (charTyped p rest s).kbd := by
  unfold charTyped keyHeadGone
  split <;> rfl

theorem charTyped_owner (p : Nat) (rest : List KeyEvent) (s : State) :
    (charTyped p rest s).comp.owner = s.comp.owner := congrArg (·.comp.owner) (charTyped_only p rest s)

theorem charTyped_kbd_congr {rest : List KeyEvent} (hk : y.kbd = x.kbd) (hp : y.params = x.params) :
    (charTyped p rest y).kbd = (charTyped p rest x).kbd := by
  unfold charTyped keyHeadGone keyRecord
  simp only [State.setKbd_kbd, hk, hp]
  split <;> rfl

theorem Keeps.charTyped {rest : List KeyEvent} (h : Keeps x y) : Keeps (charTyped p rest x) (charTyped p rest y) := by
  rw [charTyped_only p rest x, charTyped_only p rest y, charTyped_kbd_congr h.kbd h.params]
  exact h.setKbd _

/-- R61: LOCAL's only sink is print. -/
theorem deliverChar_local (hm : effectiveMode s = .local_) (c : Code) :
    deliverChar c s = releasedBy ⟨c, false, false, .keys⟩ (depositEntry ⟨c, false, false, .keys⟩ s) := by
  simp only [deliverChar, hm, modePrints, printsWith, if_true]
  rfl

section Typed

variable {rest : List KeyEvent} (he : s.kbd.events = ⟨p, .make⟩ :: rest) (ht : entryChar (translate p s) = some k)
  (hm : effectiveMode s = .local_)
include he ht hm

theorem headChar_typed : headChar s = some k := by simp [headChar, he, hm, ht]

variable (hlock : s.kbd.lock = false)
include hlock

theorem letsGo_typed (hj : s.kbd.headJudged = true) : letsGo .keys s = true := by
  simp [letsGo, waitsFor, hj, headNeedsPrint, headChar_typed he ht hm, printsWith, hm, charRefused, hlock, otherSinksTake]

theorem judgeHead_typed (ho : s.comp.owner = some .keys) (hq : s.comp.queue.length < 512) :
    judgeHead s = charTyped p rest (deliverChar k s) := by
  have judged : judgeHead s = removeEvent (setDown p (some .character) (beginRepeat p (deliverChar k s))) := by
    simp [judgeHead, he, hm, ht, judgeMake, charRefused, hlock, printTakes, ho, hq, printCapacity, otherSinksTake]
  have hev : (beginRepeat p (deliverChar k s)).kbd.events = ⟨p, .make⟩ :: rest := by
    rw [deliverChar_local hm]
    simp [beginRepeat, (releasedBy_keeps _ _).kbd, he]
  rw [judged, removeEvent_setDown hev, charTyped_eq]

variable (ho : s.comp.owner = some .keys) (hq : s.comp.queue.length < 512)
include ho hq

theorem afterDeposit_keysKeeps (hc : ¬ (k = 0x0A ∨ k = 0x0C)) : afterDeposit b .keys (judgeHead s) =
    charTyped p rest (depositEntry ⟨k, false, false, .keys⟩ s) := by
  rw [judgeHead_typed he ht hm hlock ho hq, deliverChar_local hm,
    releasedBy_other (by simpa [releases_iff] using hc),
    afterDeposit_owned b .keys ((charTyped_owner _ _ _).trans (by simpa using ho))]

theorem judgeHead_typedEnd (hc : k = 0x0A ∨ k = 0x0C) : judgeHead s =
    charTyped p rest (freeInput (depositEntry ⟨k, false, false, .keys⟩ s)) := by
  rw [judgeHead_typed he ht hm hlock ho hq, deliverChar_local hm, releasedBy_end (by simpa [releases_iff] using hc)]

end Typed

/-- Settles O25, by the owner that deposits. -/
theorem ownerDepositsAtTheTail : Obligations.OwnerDepositsAtTheTail := by
  unfold Obligations.OwnerDepositsAtTheTail
  intro b s hh hq i gives deposited freed ends
  refine ⟨fun e rest ho hf hx hp hn => ?_, fun c rest ho hl => ?_, fun e ho he => ?_,
    fun p c rest ho hj he ht hlock hm => ?_⟩
  · intro took all released
    have run {x : State} (h : afterDeposit b .line (lineDeposit s) = x) : gives x :=
      exec_printDeposit hh hq ho (by simp [letsGo, waitsFor, hx, hf, hp, hn]) h
    have printLast {x : State} (hd : x.disp = took.disp) (ha : all) : finishHead x = removeHead x :=
      finishHead_printLast hx hd ha
    have printFirst {x : State} (hd : x.disp = took.disp) (ha : ¬ all) : finishHead x = x :=
      finishHead_printFirst hd hp ha
    refine ⟨fun hb => ?_, fun hr => ?_, fun hr hb => ?_, fun hr hb => ?_⟩
    · subst hb
      exact .of_settle (run rfl) ((lineDeposit_keeps hf).trans (afterDeposit_false_keeps _ _))
    · have stays := afterDeposit_lineKeeps (b := b) hf ho hr
      exact ⟨fun ha => run (stays.trans (printLast rfl ha)), fun ha => run (stays.trans (printFirst rfl ha))⟩
    · subst hb
      have goes := afterDeposit_lineCompetes hf hr
      exact ⟨fun ha => run (goes.trans (congrArg arbitrate (printLast rfl ha))),
        fun ha => run (goes.trans (congrArg arbitrate (printFirst rfl ha)))⟩
    · subst hb
      have goes := afterDeposit_lineNextFirst hf hr
      exact ⟨fun ha => run (goes.trans (congrArg (arbitrate <| examineHead ·) (printLast rfl ha))),
        fun ha => run (goes.trans (congrArg (arbitrate <| examineHead ·) (printFirst rfl ha)))⟩
  · intro took
    have hto : took.comp.owner = some .link := by simpa [took, deposited] using ho
    have hlet : letsGo .link s = true := by simp [letsGo, waitsFor, hl]
    have hr : releases ⟨c, false, false, .link⟩ took = true ↔ ends c := by simp [releases_iff, ends]
    obtain ⟨stays, goes⟩ := readyDeposit (b := b) (x := took) hh hq ho (.inl rfl) hlet (linkDeposit_eq hl) hto
    exact ⟨readyDeposit_answers (x := took) hh hq ho (.inl rfl) hlet (linkDeposit_eq hl) hto
      (depositEntry_keeps _ (s.setComp { s.comp with linkPrint := rest })),
      fun hc => stays (by rwa [hr]), fun hc => goes (hr.mpr hc)⟩
  · intro took released
    have hto : took.comp.owner = some .reprint := by simpa [took, deposited] using ho
    have hlet : letsGo .reprint s = true := by simp [letsGo, waitsFor, he]
    have hr : releases e took = true ↔ released := by
      rw [releases_iff, reprintOffer_source he]
      simp [released, ends, took, deposited, reprintTake]
    obtain ⟨stays, goes⟩ := readyDeposit (b := b) (x := took) hh hq ho (.inr rfl) hlet (reprintDeposit_eq he) hto
    exact ⟨readyDeposit_answers (x := took) hh hq ho (.inr rfl) hlet (reprintDeposit_eq he) hto
        ((depositEntry_keeps _ s).trans (reprintTake_keeps _ _)),
      fun hc => stays (by rwa [hr]), fun hc => goes (hr.mpr hc)⟩
  · intro typed took
    have run {x : State} (h : afterDeposit b .keys (judgeHead s) = x) : gives x :=
      exec_printDeposit hh hq ho (letsGo_typed he ht hm hlock hj) h
    refine ⟨fun hc => ?_, fun hc hb => run ?_, fun hc hb => ?_⟩
    · have stays : gives (typed took) := run (afterDeposit_keysKeeps he ht hm hlock ho hq hc)
      exact ⟨stays, .of_settle stays (depositEntry_keeps _ s).charTyped⟩
    · rw [judgeHead_typedEnd he ht hm hlock ho hq hc, hb, afterDeposit_competes .keys (charTyped_owner _ _ _)]
      rfl
    · intro x
      refine run ?_
      rw [judgeHead_typedEnd he ht hm hlock ho hq hc, hb, afterDeposit_nextFirst .keys (charTyped_owner _ _ _)]
      rfl

end Sys2Proof.Machine
end

section
/-! PROOF. The requests that only ask (R130, R151, R181 to R183, R185): the fields of their replies. -/

namespace Sys2Proof.Machine

variable {s : State} {n : Byte} {c : Instr} {r : Request} {e : State → State × List Byte} {o : ReplyCode}
  {fields items : List Byte}

/-! ### The request -/

/-- R179: a request in its turn whose effect, while it stands at the head of the queue, only answers. -/
theorem exec_inquiry (ht : Turn c s) (hr : requestOf c = some r) (he : exec c s = request none r.kind r.payload e s)
    (hx : e (standAtHead r s) = replies o fields (standAtHead r s)) :
    exec c s = .next (settle s none (answered c o fields s)) := by
  obtain ⟨q, hq, htail⟩ := standAtHead_eq r s
  rw [he, request_inTurn none _ _ _ ht.runs (ht.inTurn hr), hx, replies_state, replies_payload, hq,
    formReply_queue _ (by simpa using ht.runs)]
  simp [answered, hr, htail, State.setLink]

/-- The same for an effect that does not read the link. -/
theorem exec_inquiry_of (ht : Turn c s) (hr : requestOf c = some r)
    (he : exec c s = request none r.kind r.payload e s) (hx : ∀ l, e (s.setLink l) = replies o fields (s.setLink l)) :
    exec c s = .next (settle s none (answered c o fields s)) := by
  obtain ⟨q, hq, -⟩ := standAtHead_eq r s
  exact exec_inquiry ht hr he (hq ▸ hx _)

/-- R179: the request that stands at the head counts among the queued ones (log entry 10). -/
theorem standAtHead_length (r : Request) (s : State) :
    (standAtHead r s).link.queue.length = max 1 s.link.queue.length := by
  unfold standAtHead
  split
  next h => simp [h]
  next h => exact (Nat.max_eq_right (List.length_pos_iff.mpr h)).symm

/-! ### Items -/

theorem byte1_ite (p : Prop) [Decidable p] (a b : Nat) :
    byte1 (if p then a else b) = [if p then BitVec.ofNat 8 a else BitVec.ofNat 8 b] := by
  split <;> rfl

theorem flag1_eq (b : Bool) : flag1 b = [if b then 1 else 0] := byte1_ite _ _ _

theorem busyCode_eq (b : Bool) : busyCode b = [if b then 1 else 0] := byte1_ite _ _ _

theorem list1_eq (l : List Nat) : list1 l = BitVec.ofNat 8 l.length :: l.map (BitVec.ofNat 8) := by
  rw [List.map_eq_flatMap]
  rfl

theorem list1_map {α : Type} (f : α → Nat) (l : List α) :
    list1 (l.map f) = BitVec.ofNat 8 l.length :: l.map fun x => BitVec.ofNat 8 (f x) := by
  simp [list1_eq]

theorem Sector.bytes_eq : Sector.bytes =
    fun k => [BitVec.ofNat 8 k.count, if k.retired then 1 else 0, if k.eventThisPass then 1 else 0] := by
  funext k
  simp [Sector.bytes, flag1_eq, byte1]

theorem opt2_named (f : Option InFlight) : opt2 (f.bind (·.named)) = byte2 (match f with
    | some f => if f.op = .statusRead then 65535 else f.block
    | none => 65535) := by
  cases f with
  | none => rfl
  | some f =>
    simp only [Option.bind_some, InFlight.named, opt2]
    split <;> rfl

theorem takeBufBytes_eq (b : Option TakeBuf) : takeBufBytes b = match b with
    | none => [0, 0xFF, 0]
    | some b => [if b.full then 2 else 1, BitVec.ofNat 8 b.seq, BitVec.ofNat 8 b.chars.length] := by
  cases b with
  | none => rfl
  | some b =>
    simp only [takeBufBytes, byte1_ite]
    rfl

theorem composeBufBytes_eq (c : ComposeChannel) : composeBufBytes c = if c.phase = .idle then [0xFF, 0, 0xFF]
    else [BitVec.ofNat 8 c.seq, BitVec.ofNat 8 c.chars.length, if c.loaded.isSome then 1 else 0] := by
  unfold composeBufBytes
  split
  · rfl
  · rw [byte1_ite]
    rfl

theorem strayCount_eq (k : Nat) :
    ∃ b : Byte, (k ≤ 255 → b = BitVec.ofNat 8 k) ∧ strayCount k = [b] := by
  by_cases h : k ≤ 255
  · exact ⟨_, fun _ => rfl, if_pos h⟩
  · exact ⟨_, fun h' => absurd h' h, if_neg h⟩

/-! ### GetStatus -/

/-- Only section 11 is about the link. -/
theorem statusItems_setLink {k : Nat} (hk : k ≠ 11) (l : Link) (s : State) :
    statusItems k (s.setLink l) = statusItems k s := by
  unfold statusItems
  split
  case h_12 => exact absurd rfl hk
  all_goals rfl

section GetStatus

variable (ht : Turn (.getStatus n) s)
include ht

theorem getStatus_lists {k : Nat} (hk : k ≠ 11) (hi : statusItems k s = some items) (hn : n.toNat = k) :
    exec (.getStatus n) s = .next (settle s none (answered (.getStatus n) .done (firstFault s ++ [n] ++ items) s)) := by
  subst hn
  exact exec_inquiry_of ht rfl rfl fun l => by
    simp only [getStatusEffect, statusItems_setLink hk, hi]
    rfl

theorem getStatus_link (hn : n.toNat = 11) :
    exec (.getStatus n) s = .next (settle s none (answered (.getStatus n) .done (firstFault s ++ [n] ++
      ([BitVec.ofNat 8 (max 1 s.link.queue.length)] ++ flag1 s.link.reject.isSome ++ halfBytes s.params.reportMask ++
        halfBytes s.reports.pendingSet)) s)) := by
  refine exec_inquiry (r := ⟨0x02, [n]⟩) ht rfl rfl ?_
  have hlen := standAtHead_length ⟨0x02, [n]⟩ s
  obtain ⟨q, hq, -⟩ := standAtHead_eq ⟨0x02, [n]⟩ s
  rw [hq] at hlen ⊢
  simp only [getStatusEffect, hn, statusItems, linkStatus, hlen]
  rfl

theorem getStatus_badValue (hn : 11 < n.toNat) :
    exec (.getStatus n) s = .next (settle s none (answered (.getStatus n) .badValue [] s)) := by
  have none_listed (x : State) : statusItems n.toNat x = none := by
    obtain ⟨k, hk⟩ := Nat.exists_eq_add_of_lt hn
    rw [hk, Nat.add_right_comm, Nat.add_comm]
    rfl
  exact exec_inquiry_of ht rfl rfl fun l => by simp only [getStatusEffect, none_listed]

end GetStatus

/-! ### The store's inquiries -/

theorem storeAnswers_iff (s : State) : storeAnswers s = true ↔ s.store.state ≠ .mounting ∧ s.store.state ≠ .formatting := by
  simp [storeAnswers]

/-- R135: while the store mounts or formats, an inquiry about it is not answered. -/
theorem storeInquiry_notReady (ht : Turn c s) (hr : requestOf c = some r)
    (he : exec c s = request none r.kind r.payload e s) (hs : s.store.state = .mounting ∨ s.store.state = .formatting)
    (hx : ∀ x, storeAnswers x = false → e x = replies .notReady [] x) :
    exec c s = .next (settle s none (answered c .notReady [] s)) :=
  exec_inquiry_of ht hr he fun l => hx _ (by rcases hs with hs | hs <;> simp [storeAnswers, hs])

/-- R151: a store that answers gives the fields of the directory and the block sets, which the link does not touch. -/
theorem storeInquiry_answers (ht : Turn c s) (hr : requestOf c = some r)
    (he : exec c s = request none r.kind r.payload e s) (hm : s.store.state ≠ .mounting) (hf : s.store.state ≠ .formatting)
    (hx : ∀ x, storeAnswers x = true → x.store = s.store → e x = replies o fields x) :
    exec c s = .next (settle s none (answered c o fields s)) :=
  exec_inquiry_of ht hr he fun _ => hx _ ((storeAnswers_iff _).mpr ⟨hm, hf⟩) rfl

/-- Settles O49, request by request, and for GetStatus section by section. -/
theorem inquiriesAnswerAndChangeNothing : Obligations.InquiriesAnswerAndChangeNothing := by
  unfold Obligations.InquiriesAnswerAndChangeNothing
  intro n s tells refuses one yes ifAny
  refine ⟨fun ht => exec_inquiry_of ht rfl rfl fun _ => rfl, fun ht => ?_,
    fun ht => ⟨fun k hk => exec_inquiry_of ht rfl rfl fun l => ?_, fun hk => exec_inquiry_of ht rfl rfl fun l => ?_⟩,
    fun ht => ⟨fun hf => exec_inquiry_of ht rfl rfl fun l => ?_, fun r hf => exec_inquiry_of ht rfl rfl fun l => ?_⟩,
    fun ht => exec_inquiry_of ht rfl rfl fun l => ?_,
    fun ht => ⟨fun hs => storeInquiry_notReady ht rfl rfl hs fun x hx => ?_,
      fun hm hf => storeInquiry_answers ht rfl rfl hm hf fun x hx hst => ?_⟩,
    fun ht => ⟨fun hs => storeInquiry_notReady ht rfl rfl hs fun x hx => ?_,
      fun hm hf => storeInquiry_answers ht rfl rfl hm hf fun x hx hst => ?_⟩,
    fun ht => ⟨fun hs => storeInquiry_notReady ht rfl rfl hs fun x hx => ?_, fun hm hf => ⟨fun h1 h31 => ?_,
      fun hn => storeInquiry_answers ht rfl rfl hm hf fun x hx hst => ?_⟩⟩⟩
  · refine ⟨getStatus_lists ht nofun rfl, getStatus_lists ht nofun ?_, getStatus_lists ht nofun ?_,
      getStatus_lists ht nofun ?_, getStatus_lists ht nofun ?_, getStatus_lists ht nofun rfl,
      getStatus_lists ht nofun ?_, getStatus_lists ht nofun rfl, getStatus_lists ht nofun ?_,
      getStatus_lists ht nofun ?_, getStatus_lists ht nofun rfl, fun hn => ?_, getStatus_badValue ht⟩
    · simp only [statusItems, framerStatus, flag1_eq]
      rfl
    · simp only [statusItems, dispatcherStatus, flag1_eq, list1_map]
      rfl
    · simp only [statusItems, keyboardStatus, flag1_eq]
      rfl
    · simp only [statusItems, composerStatus, list1_map]
      rfl
    · simp only [statusItems, engineStatus, flag1_eq, byte1_ite]
      rfl
    · simp only [statusItems, storeStatus, Sector.bytes_eq, opt2_named, list1_map, byte1, opt1, List.append_assoc,
        List.cons_append, List.nil_append]
      rfl
    · simp only [statusItems, channelsStatus, busyCode_eq, list1_eq, takeBufBytes_eq, composeBufBytes_eq, byte1,
        opt1, List.append_assoc, List.cons_append, List.nil_append]
      rfl
    · have told := getStatus_link ht hn
      rw [flag1_eq] at told
      exact .of_eq told
  · simp only [getParameterEffect, hk]
    rfl
  · simp only [getParameterEffect, hk]
  · simp only [readFaultsEffect, State.setLink_faults, hf]
    rfl
  · simp only [readFaultsEffect, State.setLink_faults, hf, faultBytes, List.append_assoc]
    rfl
  · simp only [readHeadMapEffect, flag1_eq]
    rfl
  · simp [storeInfoEffect, hx]
  · simp only [storeInfoEffect, hx, if_true, retiredCount, hst]
    rfl
  · simp [docListEffect, hx]
  · simp only [docListEffect, hx, if_true, hst]
    rfl
  · simp [docInfoEffect, hx]
  · obtain ⟨b, hb, hstrays⟩ := strayCount_eq (dirEntry s n.toNat).strays.length
    refine ⟨b, hb, storeInquiry_answers ht rfl rfl hm hf fun x hx hst => ?_⟩
    have hd : isDocument n.toNat = true := by simp [isDocument, h1, h31]
    have he : dirEntry x n.toNat = dirEntry s n.toNat := by rw [dirEntry, hst, dirEntry]
    simp only [docInfoEffect, hx, Bool.not_true, Bool.false_eq_true, if_false, hd, if_true, he, DirEntry.info, hstrays,
      flag1_eq]
    rfl
  · have hd : isDocument n.toNat = false := by
      rcases hn with rfl | hn
      · rfl
      · simp [isDocument, Nat.not_le.mpr hn]
    simp [docInfoEffect, hx, hd]

end Sys2Proof.Machine
end

section
/-! PROOF. Free print input, the ownership timeout and who waits for print input (R74, R75, R77). -/

namespace Sys2Proof.Machine

variable {s : State} {c : Code}

/-- R75: free print input goes to the first of the order of preference that waits, and otherwise stays free. -/
theorem arbitrate_owner_of_free (h : s.comp.owner = none) :
    (arbitrate s).comp.owner = claimants.find? fun c => waitsFor c s := by
  unfold arbitrate
  rw [h, if_neg (by simp)]
  split
  next hf => exact hf.symm
  next hf => exact h.trans hf.symm

theorem find?_cons_ite (p : Claimant → Bool) (d : Claimant) (l : List Claimant) :
    (d :: l).find? p = if p d then some d else l.find? p := by
  rw [List.find?_cons]
  cases p d <;> rfl

theorem claimants_find (p : Claimant → Bool) : claimants.find? p =
    if p .line then some .line else if p .keys then some .keys else if p .link then some .link
    else if p .reprint then some .reprint else none := by
  simp only [claimants, find?_cons_ite, List.find?_nil]

theorem arbitrate_owned {d : Claimant} (h : s.comp.owner = some d) : arbitrate s = s := if_pos (by simp [h])

theorem waitsFor_line : waitsFor .line s = true ↔ s.disp.headExamined = true ∧ s.framer.rxFifo ≠ [] ∧
    s.disp.route.hasPrint = true ∧ .print ∉ s.disp.record := by
  simp [waitsFor, and_assoc]

theorem waitsFor_link : waitsFor .link s = true ↔ s.comp.linkPrint ≠ [] := by simp [waitsFor]

theorem waitsFor_reprint : waitsFor .reprint s = true ↔ reprintOffer s ≠ none := Option.isSome_iff_ne_none

/-- R62, R74: a character that COMPOSE does not refuse needs print when compose-echo, as last read, says so. -/
theorem waitsFor_keys_compose (hc : headChar s = some c) (hlock : s.kbd.lock = false) (hm : effectiveMode s = .compose)
    (ha : composeAnswer c s ≠ .refuse) :
    waitsFor .keys s = true ↔ s.kbd.headJudged = true ∧ s.comp.keysEcho = true := by
  simp [waitsFor, headNeedsPrint, hc, printsWith, charRefused, hlock, hm, ha]

theorem exec_ownershipTimeout (hh : s.held = none) (ho : s.comp.owner ≠ none) (ht : s.comp.ownerTimer ≠ .stopped) :
    exec .ownershipTimeout s = .next (settle s none (arbitrate (freeInput s))) :=
  performWhen_runs _ _ (by simp [Option.isSome_iff_ne_none, ho, (Timer.isRunning_iff _).mpr ht]) hh

/-- Settles O26, by the order of preference and by each claimant's own condition. -/
theorem freeInputGoesToTheHighestClaimant : Obligations.FreeInputGoesToTheHighestClaimant := by
  unfold Obligations.FreeInputGoesToTheHighestClaimant
  exact fun s => ⟨fun h => (arbitrate_owner_of_free h).trans (claimants_find _), fun _ => arbitrate_owned, waitsFor_line,
    waitsFor_link, waitsFor_reprint, fun _ => waitsFor_keys_compose, exec_ownershipTimeout⟩

end Sys2Proof.Machine
end

section
/-! PROOF. The Keyboard's requests: SetKeymapEntry, SetKeyboardMode, LockKeyboard and ReadKeys (R59, R62, R66, R69). -/

namespace Sys2Proof.Machine

variable {s : State} {p l e : Byte}

/-! ### SetKeymapEntry -/

/-- R59: the keymap with this entry at position `p` of the layer. -/
def Keyboard.withEntry (layer p : Nat) (e : Byte) (k : Keyboard) : Keyboard :=
  match layer with
  | 0 => { k with plain := put k.plain p e }
  | 1 => { k with shift := put k.shift p e }
  | _ => { k with control := put k.control p e }

theorem setKeymapEntryEffect_bad (h : 63 < p.toNat ∨ 2 < l.toNat ∨ 0x86 < e.toNat) (s : State) :
    setKeymapEntryEffect p l e s = replies .badValue [] s :=
  if_pos (by simpa [or_assoc] using h)

theorem setKeymapEntryEffect_ok (hp : p.toNat ≤ 63) (hl : l.toNat ≤ 2) (he : e.toNat ≤ 0x86) (s : State) :
    setKeymapEntryEffect p l e s = replies .done [] ((readEcho s).setKbd (s.kbd.withEntry l.toNat p.toNat e)) :=
  if_neg (by simpa [and_assoc] using ⟨hp, hl, he⟩)

section SetKeymapEntry

variable (ht : Turn (.setKeymapEntry p l e) s)
include ht

theorem setKeymapEntry_badValue (h : 63 < p.toNat ∨ 2 < l.toNat ∨ 0x86 < e.toNat) :
    Answers (.setKeymapEntry p l e) s (answered (.setKeymapEntry p l e) .badValue [] s) :=
  .of_eq (exec_request_answered ht rfl rfl (fun _ => setKeymapEntryEffect_bad h _) rfl ht.runs)

/-- R59, R61: the entry is stored; that the waiting head is judged afresh shows in compose-echo alone. -/
theorem setKeymapEntry_done (hp : p.toNat ≤ 63) (hl : l.toNat ≤ 2) (he : e.toNat ≤ 0x86) :
    Answers (.setKeymapEntry p l e) s
      (answered (.setKeymapEntry p l e) .done [] (s.setKbd (s.kbd.withEntry l.toNat p.toNat e))) := by
  have judged (k : Keyboard) : Keeps (s.setKbd k) ((readEcho s).setKbd k) := by constructor <;> rfl
  have run := exec_request_answered (x := (readEcho s).setKbd (s.kbd.withEntry l.toNat p.toNat e)) ht rfl rfl
    (fun _ => setKeymapEntryEffect_ok hp hl he _) rfl ht.runs
  exact .of_settle run ((judged _).answered _ _ _)

end SetKeymapEntry

/-! ### SetKeyboardMode and LockKeyboard -/

theorem KeyMode.ofByte_above (h : 4 < p.toNat) : KeyMode.ofByte p = none := by
  unfold KeyMode.ofByte
  split
  case h_6 => rfl
  all_goals omega

theorem setKeyboardMode_done {m : KeyMode} (ht : Turn (.setKeyboardMode p) s) (hm : KeyMode.ofByte p = some m) :
    Answers (.setKeyboardMode p) s (answered (.setKeyboardMode p) .done []
      (s.setKbd { s.kbd with mode := m, autoRepeat := none })) :=
  .of_eq (exec_request_answered ht rfl rfl (fun _ => by simp only [setKeyboardModeEffect, hm]; rfl) rfl ht.runs)

theorem setKeyboardMode_badValue (ht : Turn (.setKeyboardMode p) s) (hm : KeyMode.ofByte p = none) :
    Answers (.setKeyboardMode p) s (answered (.setKeyboardMode p) .badValue [] s) :=
  .of_eq (exec_request_answered ht rfl rfl (fun _ => by simp only [setKeyboardModeEffect, hm]) rfl ht.runs)

theorem lockKeyboard_off (ht : Turn (.lockKeyboard 0) s) : Answers (.lockKeyboard 0) s
    (answered (.lockKeyboard 0) .done [] (s.setKbd { s.kbd with lock := false })) :=
  .of_eq (exec_request_answered ht rfl rfl (fun _ => rfl) rfl ht.runs)

theorem lockKeyboard_on (ht : Turn (.lockKeyboard 1) s) : Answers (.lockKeyboard 1) s
    (answered (.lockKeyboard 1) .done [] (s.setKbd { s.kbd with lock := true, autoRepeat := none })) :=
  .of_eq (exec_request_answered ht rfl rfl (fun _ => rfl) rfl ht.runs)

theorem lockKeyboardEffect_bad (h : 1 < p.toNat) (s : State) : lockKeyboardEffect p s = replies .badValue [] s := by
  unfold lockKeyboardEffect
  split
  case h_3 => rfl
  all_goals omega

/-! ### ReadKeys -/

theorem readKeysEffect_eq (h : s.kbd.relay.length ≤ 8) : readKeysEffect s = replies .done
    (BitVec.ofNat 8 s.kbd.relay.length :: s.kbd.relay.map KeyEvent.relayByte) (s.setKbd { s.kbd with relay := [] }) := by
  simp [readKeysEffect, relayCapacity, List.take_of_length_le h, List.drop_eq_nil_of_le h, byte1]

/-- Settles O24, request by request. -/
theorem keyboardRequestsAreAnswered : Obligations.KeyboardRequestsAreAnswered := by
  unfold Obligations.KeyboardRequestsAreAnswered
  refine fun p l e s => ⟨fun ht => ⟨setKeymapEntry_badValue ht, fun hp he => ⟨?_, ?_, ?_⟩⟩,
    fun ht => ⟨?_, ?_, ?_, ?_, ?_, fun h => setKeyboardMode_badValue ht (KeyMode.ofByte_above h)⟩,
    fun ht => ⟨?_, ?_, fun h => ?_⟩, fun ht h => ?_⟩
  iterate 3
    rintro rfl
    exact setKeymapEntry_done ht hp (by decide) he
  iterate 5
    rintro rfl
    exact setKeyboardMode_done ht rfl
  · rintro rfl
    exact lockKeyboard_off ht
  · rintro rfl
    exact lockKeyboard_on ht
  · exact .of_eq (exec_request_answered ht rfl rfl (fun _ => lockKeyboardEffect_bad h _) rfl ht.runs)
  · exact .of_eq (exec_request_answered ht rfl rfl (fun _ => readKeysEffect_eq h) rfl ht.runs)

end Sys2Proof.Machine
end

section
/-! PROOF. The Keyboard's timers: auto-repeat, feed repeats and the beeper (R64, R67, R70). -/

namespace Sys2Proof.Machine

variable {s x : State} {p v : Nat}

/-! ### Auto-repeat -/

theorem eventRoom_iff (s : State) : eventRoom s = true ↔ s.kbd.events.length < 16 ∧ s.kbd.owed = [] := by
  simp only [eventRoom, Bool.and_eq_true, decide_eq_true_eq]
  rfl

/-- R67: a REPEAT is placed where the key event queue has room, and the interval begins. -/
theorem repeatDue_eq (a : AutoRepeat) (s : State) : repeatDue a s = s.setKbd { s.kbd with
    events := if s.kbd.events.length < 16 ∧ s.kbd.owed = [] then s.kbd.events ++ [⟨a.position, .rep⟩] else s.kbd.events,
    autoRepeat := some { a with timer := .running s.params.repeatInterval } } := by
  simp only [repeatDue, eventRoom_iff]
  split <;> rfl

theorem exec_autoRepeatExpiry {a : AutoRepeat} (hh : s.held = none) (h : s.kbd.autoRepeat = some a) :
    exec .autoRepeatExpiry s = .next (settle s none (repeatDue a s)) := by
  change execAutoRepeatExpiry s = _
  simp only [execAutoRepeatExpiry, h]
  exact perform_runs _ _ hh

/-! ### Feed repeats -/

/-- R64: the feed repeats with the timer of the key at position `p` started for the interval. -/
def repeatsAgain (p : Nat) (s : State) : List FeedRepeat := s.kbd.feedRepeats.map fun f =>
  if f.position = p then { f with timer := .running s.params.repeatInterval } else f

/-- R64: a job that is not the key's latest feed keeps its tag. -/
theorem untag_of_not_isFeedOf {j : Job} (h : Job.isFeedOf p j = false) : Job.untag p j = j := by
  cases j with
  | text _ => rfl
  | feed n key =>
    cases key with
    | none => rfl
    | some q => exact if_neg (by simpa [Job.isFeedOf] using h)

theorem untagged_of_complete (h : s.comp.output.any (Job.isFeedOf p) = false) : untagged p s = s.comp.output := by
  have kept : ∀ j ∈ s.comp.output, Job.untag p j = id j := fun j hj =>
    untag_of_not_isFeedOf (Bool.eq_false_iff.mpr (List.any_eq_false.mp h j hj))
  exact (List.map_congr_left kept).trans (List.map_id _)

theorem feedDue_running (h : s.comp.output.any (Job.isFeedOf p) = true) :
    feedDue p s = s.setKbd { s.kbd with feedRepeats := repeatsAgain p s } := by
  simp only [feedDue, h, if_true]
  rfl

theorem feedDue_complete (h : s.comp.output.any (Job.isFeedOf p) = false) (hc : holdsContent s = false)
    (hr : s.comp.output.length < 4) :
    feedDue p s = (s.setComp { s.comp with output := s.comp.output ++ [.feed 12 (some p)] }).setKbd
      { s.kbd with feedRepeats := repeatsAgain p s } := by
  simp only [feedDue, h, keyFeed_blank hc hr, untagged_of_complete h]
  rfl

theorem feedRepeatExpiry_answers (hh : s.held = none) (hf : ∃ f ∈ s.kbd.feedRepeats, f.position = p)
    (hx : feedDue p s = x) (hn : NothingToStart x) : Answers (.feedRepeatExpiry p v) s x := by
  subst hx
  exact .of_settle_quiet (performWhen_runs _ _ (by simpa using hf) hh) hn (.refl _)

/-! ### The beeper -/

theorem exec_beeperToneEnd {tone : Tone} (hh : s.held = none) (h : tone ∈ s.kbd.tones) :
    exec (.beeperToneEnd tone) s =
      .next (settle s none (s.setKbd { s.kbd with tones := s.kbd.tones.erase tone })) :=
  performWhen_runs _ _ (by simpa using h) hh

/-- Settles O23, timer by timer. -/
theorem keyboardTimersRunOut : Obligations.KeyboardTimersRunOut := by
  unfold Obligations.KeyboardTimersRunOut
  refine fun p v s hh => ⟨fun a ha => ?_, fun hf => ⟨fun h hs => ?_, fun h hs hc hr => ?_⟩, fun tone h => ?_⟩
  · rw [← repeatDue_eq]
    exact .of_eq (exec_autoRepeatExpiry hh ha)
  · exact feedRepeatExpiry_answers hh hf (feedDue_running h) (.inl hs)
  · exact feedRepeatExpiry_answers hh hf (feedDue_complete h hc hr) (.inl hs)
  · exact .of_eq (exec_beeperToneEnd hh h)

end Sys2Proof.Machine
end

section
/-! PROOF. The key matrix: changes to up and to down, the rectangle, and the scans that debounce one key (R55 to R58, R67). -/

namespace Sys2Proof.Machine

variable {s t : State} {p q i j : Nat} {r : KeyRecord} {m : KeyMatrix} {b : Bool}

/-! ### Tables and records -/

theorem nth_put_self {α : Type} {n : Nat} (v : Vector α n) (x d : α) (h : i < n) : nth (put v i x) i d = x := by
  simp [nth, put, h]

theorem nth_put_ne {α : Type} {n : Nat} (v : Vector α n) (x d : α) (h : j ≠ i) : nth (put v i x) j d = nth v j d := by
  simp [nth, put, Vector.getElem?_setIfInBounds_ne h.symm]

theorem keyRecord_of_keys {v : Vector KeyRecord 64} (h : s.kbd.keys = put v p r) (hp : p < 64) : keyRecord p s = r := by
  unfold keyRecord
  rw [h, nth_put_self _ _ _ hp]

theorem keyRecord_setKey_self (r : KeyRecord) (s : State) (h : p < 64) : keyRecord p (setKey p r s) = r :=
  keyRecord_of_keys rfl h

theorem keyRecord_setKey_ne (r : KeyRecord) (s : State) (h : q ≠ p) : keyRecord q (setKey p r s) = keyRecord q s :=
  nth_put_ne _ _ _ h

theorem keyRecord_pushEvent (k : KeyKind) (s : State) : keyRecord q (pushEvent p k s) = keyRecord q s := rfl

/-! ### A change to down -/

/-- R56: three accepted keys complete a rectangle with position `p`. -/
def Rectangle (p : Nat) (s : State) : Prop :=
  ∃ r c, r < 8 ∧ c < 8 ∧ r ≠ p / 8 ∧ c ≠ p % 8 ∧ (keyRecord (8 * r + p % 8) s).down = true ∧
    (keyRecord (8 * (p / 8) + c) s).down = true ∧ (keyRecord (8 * r + c) s).down = true

theorem ghosted_iff (p : Nat) (s : State) : ghosted p s = true ↔ Rectangle p s := by
  simp only [ghosted, List.any_eq_true, List.mem_range, Bool.and_eq_true, decide_eq_true_eq]
  constructor
  · rintro ⟨r, hr, ⟨hrp, h1⟩, c, hc, ⟨hcp, h2⟩, h3⟩
    exact ⟨r, c, hr, hc, hrp, hcp, h1, h2, h3⟩
  · rintro ⟨r, c, hr, hc, hrp, hcp, h1, h2, h3⟩
    exact ⟨r, hr, ⟨hrp, h1⟩, c, hc, ⟨hcp, h2⟩, h3⟩

/-- R55: a record whose change to down is accepted. -/
def KeyRecord.accepted (r : KeyRecord) : KeyRecord := { r with down := true, count := 0, withheld := false }

theorem keyDown_withheld (h : Rectangle p s) : keyDown p s = setKey p { keyRecord p s with withheld := true } s :=
  if_pos ((ghosted_iff p s).mpr h)

section Accepted

variable (h : ¬ Rectangle p s)
include h

theorem keyDown_placed (hroom : s.kbd.events.length < 16 ∧ s.kbd.owed = []) :
    keyDown p s = setKey p (keyRecord p s).accepted (pushEvent p .make s) :=
  (if_neg (by rwa [ghosted_iff])).trans (if_pos ((eventRoom_iff s).mpr hroom))

theorem keyDown_dropped (hroom : ¬ (s.kbd.events.length < 16 ∧ s.kbd.owed = [])) :
    keyDown p s = setKey p { (keyRecord p s).accepted with unreported := true } s :=
  (if_neg (by rwa [ghosted_iff])).trans (if_neg (by rwa [eventRoom_iff]))

end Accepted

theorem keyRecord_keyDown_ne (h : q ≠ p) : keyRecord q (keyDown p s) = keyRecord q s := by
  unfold keyDown
  dsimp only
  split
  · exact keyRecord_setKey_ne _ _ h
  split
  · exact keyRecord_setKey_ne _ _ h
  · exact keyRecord_setKey_ne _ _ h

/-- Settles O20, by the rectangle and the room of the key event queue. -/
theorem rectangleWithholdsTheFourthKey : Obligations.RectangleWithholdsTheFourthKey := by
  unfold Obligations.RectangleWithholdsTheFourthKey
  intro p s hp isDown rectangle accepted
  refine ⟨fun h => ?_, fun h hlen howed => ?_, fun h hfull => ?_, fun q _ hq => keyRecord_keyDown_ne hq⟩
  · rw [keyDown_withheld h]
    exact ⟨rfl, keyRecord_setKey_self _ _ hp⟩
  · rw [keyDown_placed h ⟨hlen, howed⟩]
    exact ⟨rfl, keyRecord_setKey_self _ _ hp⟩
  · rw [keyDown_dropped h fun ⟨hlen, howed⟩ => hfull.elim (Nat.not_le.mpr hlen) (absurd howed)]
    exact ⟨rfl, keyRecord_setKey_self _ _ hp⟩

/-! ### A change to up -/

/-- R67: the Keyboard with the auto-repeat of position `p` ended. -/
def repeatEnded (p : Nat) (s : State) : Keyboard := { s.kbd with
  autoRepeat := if s.kbd.autoRepeat.map (·.position) = some p then none else s.kbd.autoRepeat }

theorem endRepeatOf_eq (p : Nat) (s : State) : endRepeatOf p s = s.setKbd (repeatEnded p s) := by
  unfold endRepeatOf repeatEnded
  split <;> rfl

/-- R57: a key whose MAKE was dropped comes up without an event. -/
theorem keyUp_silent (h : (keyRecord p s).unreported = true) : keyUp p s = s.setKbd { repeatEnded p s with
    keys := put s.kbd.keys p { keyRecord p s with down := false, count := 0, unreported := false } } := by
  unfold keyUp
  rw [endRepeatOf_eq]
  exact if_pos h

section Reported

variable (h : (keyRecord p s).unreported = false)
include h

theorem keyUp_placed (hroom : s.kbd.events.length < 16 ∧ s.kbd.owed = []) : keyUp p s = s.setKbd { repeatEnded p s with
    keys := put s.kbd.keys p { keyRecord p s with down := false, count := 0 },
    events := s.kbd.events ++ [⟨p, .brk⟩] } := by
  unfold keyUp
  rw [endRepeatOf_eq]
  exact (if_neg (ne_true_of_eq_false h)).trans (if_pos ((eventRoom_iff s).mpr hroom))

/-- R58: the BREAK is owed. -/
theorem keyUp_owed (hroom : ¬ (s.kbd.events.length < 16 ∧ s.kbd.owed = [])) : keyUp p s = s.setKbd { repeatEnded p s with
    keys := put s.kbd.keys p { keyRecord p s with count := 0, breakOwed := true }, owed := s.kbd.owed ++ [p] } := by
  unfold keyUp
  rw [endRepeatOf_eq]
  exact (if_neg (ne_true_of_eq_false h)).trans (if_neg ((not_congr (eventRoom_iff s)).mpr hroom))

end Reported

section Record

variable (hp : p < 64)
include hp

theorem keyUp_silent_record (h : (keyRecord p s).unreported = true) :
    (keyUp p s).kbd.events = s.kbd.events ∧ (keyUp p s).kbd.owed = s.kbd.owed ∧
      keyRecord p (keyUp p s) = { keyRecord p s with down := false, count := 0, unreported := false } := by
  rw [keyUp_silent h]
  exact ⟨rfl, rfl, keyRecord_of_keys rfl hp⟩

theorem keyUp_placed_record (h : (keyRecord p s).unreported = false)
    (hroom : s.kbd.events.length < 16 ∧ s.kbd.owed = []) :
    (keyUp p s).kbd.events = s.kbd.events ++ [⟨p, .brk⟩] ∧ (keyUp p s).kbd.owed = s.kbd.owed ∧
      keyRecord p (keyUp p s) = { keyRecord p s with down := false, count := 0 } := by
  rw [keyUp_placed h hroom]
  exact ⟨rfl, rfl, keyRecord_of_keys rfl hp⟩

theorem keyUp_owed_record (h : (keyRecord p s).unreported = false)
    (hroom : ¬ (s.kbd.events.length < 16 ∧ s.kbd.owed = [])) :
    (keyUp p s).kbd.events = s.kbd.events ∧ (keyUp p s).kbd.owed = s.kbd.owed ++ [p] ∧
      keyRecord p (keyUp p s) = { keyRecord p s with count := 0, breakOwed := true } := by
  rw [keyUp_owed h hroom]
  exact ⟨rfl, rfl, keyRecord_of_keys rfl hp⟩

/-- R55, R58: a key that has come up, or whose BREAK is owed, has no change due. -/
theorem keyUp_not_due : (keyRecord p (keyUp p s)).due = false := by
  cases hu : (keyRecord p s).unreported with
  | true =>
    obtain ⟨-, -, hrec⟩ := keyUp_silent_record hp hu
    exact congrArg KeyRecord.due hrec
  | false =>
    by_cases hroom : s.kbd.events.length < 16 ∧ s.kbd.owed = []
    · obtain ⟨-, -, hrec⟩ := keyUp_placed_record hp hu hroom
      exact congrArg KeyRecord.due hrec
    · obtain ⟨-, -, hrec⟩ := keyUp_owed_record hp hu hroom
      exact congrArg KeyRecord.due hrec

end Record

/-! ### One scan -/

/-- R55: the part after the reading of every position, before the passes. -/
def readAll (m : KeyMatrix) (s : State) : State :=
  s.setKbd { s.kbd with keys := Vector.ofFn fun p : Fin 64 => (s.kbd.keys[p]).read (m.getLsbD p) }

@[simp] theorem readAll_queue (m : KeyMatrix) (s : State) :
    (readAll m s).kbd.events = s.kbd.events ∧ (readAll m s).kbd.owed = s.kbd.owed := by
  simp [readAll]

theorem keyRecord_readAll (h : q < 64) : keyRecord q (readAll m s) = (keyRecord q s).read (m.getLsbD q) := by
  simp [keyRecord, readAll, nth, h]

theorem foldl_idle {f : Nat → State → State} {l : List Nat} (h : ∀ q ∈ l, f q s = s) :
    l.foldl (fun s q => f q s) s = s := by
  induction l with
  | nil => rfl
  | cons q l ih => rw [List.foldl_cons, h q List.mem_cons_self, ih fun a ha => h a (List.mem_cons_of_mem q ha)]

/-- A pass in which only position `p` has something to do does just that. -/
theorem foldl_only {f : Nat → State → State} {l : List Nat} (hl : l.Nodup) (hp : p ∈ l)
    (before : ∀ q ∈ l, q ≠ p → f q s = s) (after : ∀ q ∈ l, q ≠ p → f q (f p s) = f p s) :
    l.foldl (fun s q => f q s) s = f p s := by
  obtain ⟨l1, l2, rfl⟩ := List.append_of_mem hp
  obtain ⟨-, hcons, hdisj⟩ := List.nodup_append.mp hl
  rw [List.foldl_append, List.foldl_cons, foldl_idle fun q hq => before q (by simp [hq]) (hdisj q hq p (by simp))]
  exact foldl_idle fun q hq => after q (by simp [hq]) fun h => (List.nodup_cons.mp hcons).1 (h ▸ hq)

theorem upPass_idle (h : (keyRecord q s).due = false ∨ (keyRecord q s).down = false) : upPass q s = s :=
  if_neg (by rcases h with h | h <;> simp [h])

theorem downPass_idle (h : (keyRecord q s).due = false ∨ (keyRecord q s).down = true) : downPass q s = s :=
  if_neg (by rcases h with h | h <;> simp [h])

theorem keyRecord_keyUp_ne (h : q ≠ p) : keyRecord q (keyUp p s) = keyRecord q s := by
  have ended : keyRecord q (endRepeatOf p s) = keyRecord q s := by simp [keyRecord]
  unfold keyUp
  dsimp only
  split
  · exact (keyRecord_setKey_ne _ _ h).trans ended
  split
  · exact (keyRecord_setKey_ne _ _ h).trans ended
  · exact (keyRecord_setKey_ne _ _ h).trans ended

/-! ### One key on a quiet keyboard -/

/-- Position `p` has this record, and every other position is as at reset. -/
def OnlyKey (p : Nat) (r : KeyRecord) (s : State) : Prop := ∀ q < 64, keyRecord q s = if q = p then r else {}

/-- The snapshot reads no position down but `p`, and `p` as `b`. -/
def ReadsOnly (p : Nat) (b : Bool) (m : KeyMatrix) : Prop := ∀ q < 64, m.getLsbD q = (decide (q = p) && b)

theorem OnlyKey.self (h : OnlyKey p r s) (hp : p < 64) : keyRecord p s = r := (h p hp).trans (if_pos rfl)

theorem OnlyKey.other (h : OnlyKey p r s) (hq : q < 64) (hne : q ≠ p) : keyRecord q s = {} := (h q hq).trans (if_neg hne)

theorem onlyKey_of_keys (h : s.kbd.keys = put (Vector.replicate 64 {}) p r) (hp : p < 64) : OnlyKey p r s := by
  intro q hq
  split
  next hqp => exact hqp ▸ keyRecord_of_keys h hp
  next hqp =>
    unfold keyRecord
    rw [h, nth_put_ne _ _ _ hqp]
    simp [nth, hq]

theorem onlyKey_of_reset (h : s.kbd.keys = Vector.replicate 64 {}) : OnlyKey p {} s := by
  intro q hq
  simp [keyRecord, nth, h, hq]

theorem OnlyKey.readAll (h : OnlyKey p r s) (hm : ReadsOnly p b m) : OnlyKey p (r.read b) (readAll m s) := by
  intro q hq
  rw [keyRecord_readAll hq, h q hq, hm q hq]
  by_cases hqp : q = p
  · simp [hqp]
  · simp [hqp, KeyRecord.read]

/-- R55: no change is due but at position `p`. -/
theorem OnlyKey.not_due (h : OnlyKey p r s) (hq : q ∈ positions) (hne : q ≠ p) : (keyRecord q s).due = false := by
  rw [h.other (List.mem_range.mp hq) hne]
  rfl

theorem OnlyKey.not_rectangle (h : OnlyKey p r s) : ¬ Rectangle p s := by
  rintro ⟨i, j, hi, hj, hip, hjp, -, -, hdown⟩
  rw [h.other (by omega) (by omega)] at hdown
  cases hdown

section Scan

variable (h : OnlyKey p r (readAll m s)) (hp : p < 64)
include h hp

/-- R55: a scan in which no change is due is its reading. -/
theorem scan_quiet (hd : r.due = false) : scan m s = readAll m s := by
  have idle (q : Nat) (hq : q ∈ positions) : (keyRecord q (readAll m s)).due = false := by
    by_cases hqp : q = p
    · rw [hqp, h.self hp, hd]
    · exact h.not_due hq hqp
  calc scan m s
      = positions.foldl (fun s q => downPass q s) (positions.foldl (fun s q => upPass q s) (readAll m s)) := rfl
    _ = positions.foldl (fun s q => downPass q s) (readAll m s) := by
        rw [foldl_idle fun q hq => upPass_idle (.inl (idle q hq))]
    _ = readAll m s := foldl_idle fun q hq => downPass_idle (.inl (idle q hq))

theorem scan_down (hd : r.due = true) (hr : r.down = false) : scan m s = keyDown p (readAll m s) := by
  have up (q : Nat) (hq : q ∈ positions) : upPass q (readAll m s) = readAll m s := by
    by_cases hqp : q = p
    · exact upPass_idle (.inr (by rw [hqp, h.self hp, hr]))
    · exact upPass_idle (.inl (h.not_due hq hqp))
  have down : downPass p (readAll m s) = keyDown p (readAll m s) := if_pos (by simp [h.self hp, hd, hr])
  calc scan m s
      = positions.foldl (fun s q => downPass q s) (positions.foldl (fun s q => upPass q s) (readAll m s)) := rfl
    _ = positions.foldl (fun s q => downPass q s) (readAll m s) := by rw [foldl_idle up]
    _ = downPass p (readAll m s) := foldl_only List.nodup_range (List.mem_range.mpr hp)
        (fun q hq hqp => downPass_idle (.inl (h.not_due hq hqp)))
        (fun q hq hqp => downPass_idle (.inl (by rw [down, keyRecord_keyDown_ne hqp, h.not_due hq hqp])))
    _ = keyDown p (readAll m s) := down

theorem scan_up (hd : r.due = true) (hr : r.down = true) : scan m s = keyUp p (readAll m s) := by
  have up : upPass p (readAll m s) = keyUp p (readAll m s) := if_pos (by simp [h.self hp, hd, hr])
  have others (q : Nat) (hq : q ∈ positions) (hqp : q ≠ p) : (keyRecord q (keyUp p (readAll m s))).due = false := by
    rw [keyRecord_keyUp_ne hqp, h.not_due hq hqp]
  have idle (q : Nat) (hq : q ∈ positions) : (keyRecord q (keyUp p (readAll m s))).due = false := by
    by_cases hqp : q = p
    · rw [hqp, keyUp_not_due hp]
    · exact others q hq hqp
  calc scan m s
      = positions.foldl (fun s q => downPass q s) (positions.foldl (fun s q => upPass q s) (readAll m s)) := rfl
    _ = positions.foldl (fun s q => downPass q s) (upPass p (readAll m s)) := by
        rw [foldl_only (p := p) (l := positions) List.nodup_range (List.mem_range.mpr hp)
          (fun q hq hqp => upPass_idle (.inl (h.not_due hq hqp)))
          fun q hq hqp => upPass_idle (.inl (by rw [up, others q hq hqp]))]
    _ = keyUp p (readAll m s) := by rw [up, foldl_idle fun q hq => downPass_idle (.inl (idle q hq))]

end Scan

section ThreeScans

variable (h : OnlyKey p r s) (hm : ReadsOnly p b m) (hb : b ≠ r.down) (ho : r.breakOwed = false)
include h hm hb ho

/-- R55: a reading that differs from the debounced state is counted. -/
theorem OnlyKey.readAll_counts {n : Nat} (hn : r.count = n) (h3 : n < 3) :
    OnlyKey p { r with count := n + 1 } (Machine.readAll m s) := by
  have counted : r.read b = { r with count := n + 1 } := by
    simp only [KeyRecord.read, ho, Bool.false_eq_true, if_false, if_neg hb, hn, Nat.min_eq_right (Nat.succ_le_of_lt h3)]
  exact counted ▸ h.readAll hm

variable (hp : p < 64) (hn : r.count = 0)
include hp hn

/-- R55: two scans are counted, and make no event. -/
theorem twoScans : OnlyKey p { r with count := 2 } (scan m (scan m s)) ∧
    (scan m (scan m s)).kbd.events = s.kbd.events ∧ (scan m (scan m s)).kbd.owed = s.kbd.owed := by
  have first : OnlyKey p { r with count := 1 } (readAll m s) := h.readAll_counts hm hb ho hn (by decide)
  have second : OnlyKey p { r with count := 2 } (readAll m (readAll m s)) :=
    first.readAll_counts (n := 1) hm hb ho rfl (by decide)
  rw [scan_quiet first hp rfl, scan_quiet second hp rfl]
  exact ⟨second, by simp, by simp⟩

end ThreeScans

/-- R55 to R57: the third scan that reads one key down makes it. -/
theorem thirdScan_down (h : OnlyKey p { count := 2 } s) (hm : ReadsOnly p true m) (hp : p < 64)
    (hroom : s.kbd.events.length < 16 ∧ s.kbd.owed = []) : OnlyKey p { down := true } (scan m s) ∧
      (scan m s).kbd.events = s.kbd.events ++ [⟨p, .make⟩] := by
  have third : OnlyKey p { count := 3 } (readAll m s) := h.readAll_counts (n := 2) hm nofun rfl rfl (by decide)
  have made : scan m s = setKey p { down := true } (pushEvent p .make (readAll m s)) := by
    rw [scan_down third hp rfl rfl, keyDown_placed third.not_rectangle (by simpa using hroom), third.self hp]
    rfl
  rw [made]
  refine ⟨fun q hq => ?_, by simp [pushEvent]⟩
  split
  next hqp => rw [hqp, keyRecord_setKey_self _ _ hp]
  next hqp => rw [keyRecord_setKey_ne _ _ hqp, keyRecord_pushEvent, third.other hq hqp]

section ThirdScanUp

variable {u : Bool} (h : OnlyKey p { down := true, count := 2, unreported := u } s) (hm : ReadsOnly p false m) (hp : p < 64)
include h hm hp

/-- R55: the third scan that reads one key up acts as the change to up. -/
theorem thirdScan_up : scan m s = keyUp p (readAll m s) ∧
    OnlyKey p { down := true, count := 3, unreported := u } (readAll m s) :=
  have third : OnlyKey p { down := true, count := 3, unreported := u } (readAll m s) :=
    h.readAll_counts (n := 2) hm nofun rfl rfl (by decide)
  ⟨scan_up third hp rfl rfl, third⟩

theorem thirdScan_up_other (hq : q < 64) (hqp : q ≠ p) : keyRecord q (scan m s) = {} := by
  obtain ⟨hup, third⟩ := thirdScan_up h hm hp
  rw [hup, keyRecord_keyUp_ne hqp, third.other hq hqp]

theorem thirdScan_up_silent (hu : u = true) : (scan m s).kbd.events = s.kbd.events ∧
    (scan m s).kbd.owed = s.kbd.owed ∧ keyRecord p (scan m s) = {} := by
  obtain ⟨hup, third⟩ := thirdScan_up h hm hp
  obtain ⟨hevents, howed, hrec⟩ := keyUp_silent_record (s := readAll m s) hp (by rw [third.self hp, hu])
  rw [hup, hevents, howed, hrec, third.self hp]
  simp

theorem thirdScan_up_placed (hu : u = false) (hroom : s.kbd.events.length < 16 ∧ s.kbd.owed = []) :
    (scan m s).kbd.events = s.kbd.events ++ [⟨p, .brk⟩] ∧ (scan m s).kbd.owed = s.kbd.owed ∧
      keyRecord p (scan m s) = {} := by
  obtain ⟨hup, third⟩ := thirdScan_up h hm hp
  obtain ⟨hevents, howed, hrec⟩ := keyUp_placed_record (s := readAll m s) hp (by rw [third.self hp, hu])
    (by simpa using hroom)
  rw [hup, hevents, howed, hrec, third.self hp]
  simp [hu]

theorem thirdScan_up_owed (hu : u = false) (hroom : ¬ (s.kbd.events.length < 16 ∧ s.kbd.owed = [])) :
    (scan m s).kbd.events = s.kbd.events ∧ (scan m s).kbd.owed = s.kbd.owed ++ [p] ∧
      keyRecord p (scan m s) = { down := true, breakOwed := true } := by
  obtain ⟨hup, third⟩ := thirdScan_up h hm hp
  obtain ⟨hevents, howed, hrec⟩ := keyUp_owed_record (s := readAll m s) hp (by rw [third.self hp, hu])
    (by simpa using hroom)
  rw [hup, hevents, howed, hrec, third.self hp]
  simp [hu]

end ThirdScanUp

theorem readsOnly_twoPow (p : Nat) : ReadsOnly p true (BitVec.twoPow 64 p) := by
  intro q hq
  simp [hq, eq_comm]

theorem readsOnly_zero (p : Nat) : ReadsOnly p false 0 := by
  intro q _
  simp

/-- Settles O19: the count of a key's record rises with each of two scans, and the third makes the change. -/
theorem threeScansMakeOneKey : Obligations.ThreeScansMakeOneKey := by
  unfold Obligations.ThreeScansMakeOneKey
  refine ⟨fun m s hh => perform_runs _ _ hh, ?_, ?_, fun p s _ => ⟨keyUp_silent, keyUp_placed, keyUp_owed⟩⟩
  · intro p s hp hkeys howed hlen
    dsimp only
    obtain ⟨counted, hevents, howed'⟩ :=
      twoScans (onlyKey_of_reset hkeys) (readsOnly_twoPow p) (b := true) nofun rfl hp rfl
    obtain ⟨made, placed⟩ := thirdScan_down counted (readsOnly_twoPow p) hp ⟨by rwa [hevents], howed'.trans howed⟩
    rw [hevents] at placed
    exact ⟨hevents, congrArg (·.down) (counted.self hp), placed, congrArg (·.down) (made.self hp),
      fun q => made.other⟩
  · intro p u s hp hkeys
    dsimp only
    obtain ⟨counted, hevents, howed⟩ :=
      twoScans (onlyKey_of_keys hkeys hp) (readsOnly_zero p) (b := false) nofun rfl hp rfl
    have silent := thirdScan_up_silent counted (readsOnly_zero p) hp
    have placed := thirdScan_up_placed counted (readsOnly_zero p) hp
    have owes := thirdScan_up_owed counted (readsOnly_zero p) hp
    rw [hevents, howed] at silent placed owes
    exact ⟨hevents, howed, congrArg (·.down) (counted.self hp), silent, placed, owes,
      fun q => thirdScan_up_other counted (readsOnly_zero p) hp⟩

end Sys2Proof.Machine
end

section
/-! PROOF. The translator's head when it is a character: COMPOSE's answer, the sinks by the effective mode, and a REPEAT (R61 to
R63, R65 to R67, R165). -/

namespace Sys2Proof.Machine

variable {s x y : State} {p v : Nat} {c : Code} {k : KeyEvent} {rest : List KeyEvent}

/-! ### COMPOSE's answer -/

section ComposeAnswer

theorem composeAnswer_refuse (h : s.compose.phase = .idle ∨ s.compose.phase = .ending) : composeAnswer c s = .refuse := by
  rcases h with h | h <;> simp [composeAnswer, h]

theorem composeAnswer_loading (h : s.compose.phase = .loading) : composeAnswer c s = .wait := by simp [composeAnswer, h]

variable (h : s.compose.phase = .composing)
include h

theorem composeAnswer_writing (hw : s.compose.write ≠ none) : composeAnswer c s = .wait := by
  simp [composeAnswer, h, Option.isSome_iff_ne_none, hw]

variable (hw : ¬ s.compose.write ≠ none)
include hw

theorem composeAnswer_bs (hc : c = 0x08) :
    composeAnswer c s = if s.compose.chars.length = 0 then .refuse else .accept := by
  simp only [ne_eq, Decidable.not_not] at hw
  simp [composeAnswer, h, hw, hc, bsCode]

theorem composeAnswer_char (hc : c ≠ 0x08) : composeAnswer c s =
    if s.compose.chars.length < 58 then .accept else if s.compose.seq = 63 then .refuse else .wait := by
  simp only [ne_eq, Decidable.not_not] at hw
  simp only [composeAnswer, h, hw, bsCode, hc, Option.isSome_none, Bool.false_eq_true, if_false]
  rfl

end ComposeAnswer

/-- R165: what COMPOSE makes of a character it accepts. -/
def charComposed (c : Code) (s : State) : State :=
  let chars : List Byte := if c = 0x08 then s.compose.chars.dropLast else s.compose.chars ++ [storeByte c false]
  s.setCompose { s.compose with
    chars := chars
    write := if c ≠ 0x08 ∧ chars.length = 58 ∧ s.compose.seq < 63 then some { final := false } else none }

/-- R165: COMPOSE accepts a character only while no write is asked. -/
theorem write_of_accept (h : composeAnswer c s = .accept) : s.compose.write = none := by
  refine Decidable.byContradiction fun hw => ?_
  cases hp : s.compose.phase with
  | composing => rw [composeAnswer_writing hp hw] at h; cases h
  | loading => rw [composeAnswer_loading hp] at h; cases h
  | idle => rw [composeAnswer_refuse (.inl hp)] at h; cases h
  | ending => rw [composeAnswer_refuse (.inr hp)] at h; cases h

theorem composeFullWrite_eq (hw : s.compose.write = none) : composeFullWrite s = s.setCompose { s.compose with
    write := if s.compose.chars.length = 58 ∧ s.compose.seq < 63 then some { final := false } else none } := by
  have full : (s.compose.chars.length = blockFill && s.compose.seq < lastSeq && s.compose.write = none) = true ↔
      s.compose.chars.length = 58 ∧ s.compose.seq < 63 := by
    simp only [hw, Bool.and_eq_true, decide_eq_true_eq, and_true]
    rfl
  unfold composeFullWrite
  by_cases h : s.compose.chars.length = 58 ∧ s.compose.seq < 63
  · rw [if_pos (full.mpr h), if_pos h]
  · rw [if_neg ((not_congr full).mpr h), if_neg h, ← hw]
    rfl

theorem composeAccept_eq (h : composeAnswer c s = .accept) : composeAccept c s = charComposed c s := by
  have hw := write_of_accept h
  unfold composeAccept charComposed
  by_cases hc : c = 0x08
  · simp [hc, bsCode, hw]
  · simp only [bsCode, ne_eq, hc, not_false_eq_true, true_and]
    exact composeFullWrite_eq hw

/-! ### The sinks -/

/-- R61, R62: every sink of the character can take it. -/
def sinksTake (c : Code) (s : State) : Bool := printTakes s && otherSinksTake c s

/-- R61, R72, R74: the print sink can take a character. -/
def PrintRoom (s : State) : Prop := s.comp.owner = some .keys ∧ s.comp.queue.length < 512

theorem printTakes_iff (s : State) : printTakes s = true ↔ (modePrints s = true → PrintRoom s) := by
  simp only [printTakes, Bool.or_eq_true, Bool.and_eq_true, decide_eq_true_eq, Bool.not_eq_true',
    ← Bool.not_eq_true, ← Decidable.imp_iff_not_or]
  rfl

theorem sinksTake_iff (c : Code) (s : State) :
    sinksTake c s = true ↔ (modePrints s = true → PrintRoom s) ∧ otherSinksTake c s = true := by
  rw [sinksTake, Bool.and_eq_true, printTakes_iff]

theorem txRoom_iff (s : State) : decide (s.kbd.txFifo.length < keyFifoCapacity) = true ↔ s.kbd.txFifo.length < 16 :=
  decide_eq_true_iff

theorem sinksTake_full (hm : effectiveMode s = .full) : sinksTake c s = true ↔ s.kbd.txFifo.length < 16 := by
  simp only [sinksTake_iff, modePrints, printsWith, otherSinksTake, hm, txRoom_iff, Bool.false_eq_true, false_imp_iff,
    true_and]

theorem sinksTake_half (hm : effectiveMode s = .half) :
    sinksTake c s = true ↔ PrintRoom s ∧ s.kbd.txFifo.length < 16 := by
  simp only [sinksTake_iff, modePrints, printsWith, otherSinksTake, hm, txRoom_iff, true_imp_iff]

theorem sinksTake_local (hm : effectiveMode s = .local_) : sinksTake c s = true ↔ PrintRoom s := by
  simp only [sinksTake_iff, modePrints, printsWith, otherSinksTake, hm, true_imp_iff, and_true]

theorem sinksTake_compose (hm : effectiveMode s = .compose) :
    sinksTake c s = true ↔ (s.params.composeEcho = true → PrintRoom s) ∧ composeAnswer c s = .accept := by
  simp only [sinksTake_iff, modePrints, printsWith, otherSinksTake, hm, decide_eq_true_eq]

theorem charRefused_iff (c : Code) (s : State) : charRefused c s = true ↔
    s.kbd.lock = true ∨ effectiveMode s = .compose ∧ composeAnswer c s = .refuse := by
  simp [charRefused]

theorem not_charRefused (hl : s.kbd.lock = false)
    (h : effectiveMode s ≠ .compose ∨ composeAnswer c s ≠ .refuse) : ¬ charRefused c s = true := by
  rw [charRefused_iff, hl]
  rintro (hlock | ⟨hm, ha⟩)
  · cases hlock
  · exact h.elim (absurd hm) (absurd ha)

/-! ### The delivery -/

/-- R62: the character goes to the line. -/
def charSent (c : Code) (s : State) : State := s.setKbd { s.kbd with txFifo := s.kbd.txFifo ++ [c] }

/-- R62, R76: the character goes to print, and ends the line if it is to. -/
def charPrinted (c : Code) (s : State) : State :=
  releasedBy ⟨c, false, false, .keys⟩ (depositEntry ⟨c, false, false, .keys⟩ s)

/-- R72: the character has joined the print queue. -/
def charDeposited (c : Code) (s : State) : State :=
  s.setComp { s.comp with queue := s.comp.queue ++ [⟨c, false, false, .keys⟩] }

theorem charPrinted_keeps (c : Code) (s : State) : Keeps (charDeposited c s) (charPrinted c s) :=
  (depositEntry_keeps _ s).trans (releasedBy_keeps _ _)

theorem charPrinted_char (hc : c ≠ 0x0A ∧ c ≠ 0x0C) (s : State) :
    charPrinted c s = depositEntry ⟨c, false, false, .keys⟩ s :=
  releasedBy_other (by simpa [releases_iff] using hc)

/-- R62, R72: a deposit while compose-echo is on. -/
theorem depositEntry_echo (h : s.params.composeEcho = true) : depositEntry ⟨c, false, false, .keys⟩ s =
    judgeFlow ((charDeposited c s).setComp { (charDeposited c s).comp with ownerTimer := .stopped, keysEcho := true }) := by
  simp [depositEntry, readEcho, charDeposited, h, State.setComp]

theorem deliverChar_full (hm : effectiveMode s = .full) (c : Code) : deliverChar c s = charSent c s := by
  simp [deliverChar, hm, modePrints, printsWith, charSent]

theorem deliverChar_half (hm : effectiveMode s = .half) (c : Code) : deliverChar c s = charPrinted c (charSent c s) := by
  simp only [deliverChar, hm, modePrints, printsWith, if_true]
  rfl

theorem deliverChar_compose (hm : effectiveMode s = .compose) (ha : composeAnswer c s = .accept) :
    deliverChar c s = if s.params.composeEcho = true then charPrinted c (charComposed c s) else charComposed c s := by
  simp only [deliverChar, hm, modePrints, printsWith, composeAccept_eq ha]
  rfl

/-! ### The head -/

section Make

variable (he : s.kbd.events = ⟨p, .make⟩ :: rest) (hm : effectiveMode s ≠ .relay) (ht : entryChar (translate p s) = some c)
include he hm ht

theorem judgeHead_make : judgeHead s = judgeMake p c s := by simp [judgeHead, he, hm, ht]

/-- R61, R65, R67: a refused character leaves its position's down record, ends the auto-repeat and signals. -/
theorem judgeHead_makeRefused (hr : charRefused c s = true) : judgeHead s = headDone p rest (some .other)
    ((recordKeys true s).setKbd { s.kbd with autoRepeat := none, tones := s.kbd.tones ++ [.click] }) := by
  rw [judgeHead_make he hm ht, judgeMake, if_pos hr, signalRefusal_eq]
  exact removeEvent_setDown he

variable (hr : ¬ charRefused c s = true)
include hr

theorem judgeHead_makeTyped (hs : sinksTake c s = true) : judgeHead s = charTyped p rest (deliverChar c s) := by
  rw [judgeHead_make he hm ht, judgeMake, if_neg hr, charTyped_eq]
  exact (if_pos hs).trans (removeEvent_setDown (by simpa [beginRepeat] using he))

theorem judgeHead_makeWaits (hs : ¬ sinksTake c s = true) : judgeHead s = headWaits s := by
  rw [judgeHead_make he hm ht, judgeMake, if_neg hr]
  exact if_neg hs

end Make

section Repeat

variable (he : s.kbd.events = ⟨p, .rep⟩ :: rest)
include he

theorem judgeHead_repDropped (hd : downRecord p s ≠ some .character ∨ effectiveMode s = .relay ∨ s.kbd.lock = true ∨
    entryChar (translate p s) = none) : judgeHead s = keyHeadGone rest s := by
  have dropped : headChar s = none := by
    rcases hd with h | h | h | h <;> simp [headChar, he, h]
  rw [← removeEvent_of_events he]
  simp only [judgeHead, he, dropped]

variable (hd : downRecord p s = some .character) (hm : effectiveMode s ≠ .relay) (hl : s.kbd.lock = false)
  (ht : entryChar (translate p s) = some c)
include hd hm hl ht

theorem judgeHead_rep : judgeHead s = judgeRepeat c s := by
  have repeated : headChar s = some c := by simp [headChar, he, hd, hm, hl, ht]
  simp only [judgeHead, he, repeated]

theorem judgeHead_repRefused (hr : charRefused c s = true) :
    judgeHead s = keyHeadGone rest (s.setKbd { s.kbd with autoRepeat := none }) := by
  rw [judgeHead_rep he hd hm hl ht, judgeRepeat, if_pos hr]
  exact removeEvent_of_events he

variable (hr : ¬ charRefused c s = true)
include hr

theorem judgeHead_repTyped (hs : sinksTake c s = true) : judgeHead s = keyHeadGone rest (deliverChar c s) := by
  rw [judgeHead_rep he hd hm hl ht, judgeRepeat, if_neg hr]
  exact (if_pos hs).trans (removeEvent_of_events (by simpa using he))

theorem judgeHead_repWaits (hs : ¬ sinksTake c s = true) : judgeHead s = headWaits s := by
  rw [judgeHead_rep he hd hm hl ht, judgeRepeat, if_neg hr]
  exact if_neg hs

end Repeat

/-! ### What the command answers -/

theorem keyHeadGone_only (rest : List KeyEvent) (s : State) :
    keyHeadGone rest s = s.setKbd (keyHeadGone rest s).kbd := by
  unfold keyHeadGone
  split <;> rfl

theorem Keeps.keyHeadGone (h : Keeps x y) : Keeps (keyHeadGone rest x) (keyHeadGone rest y) := by
  have same : (Machine.keyHeadGone rest y).kbd = (Machine.keyHeadGone rest x).kbd := by
    unfold Machine.keyHeadGone keyRecord
    rw [h.kbd]
    split <;> rfl
  rw [keyHeadGone_only rest x, keyHeadGone_only rest y, same]
  exact h.setKbd _

theorem Keeps.headDone {d : Option DownRecord} (h : Keeps x y) : Keeps (headDone p rest d x) (headDone p rest d y) := by
  unfold Machine.headDone
  rw [h.kbd]
  exact (h.setKbd _).keyHeadGone

theorem recordKeys_keeps (refused : Bool) (x : State) : Keeps x (recordKeys refused x) := by constructor <;> simp

theorem NothingToStart.of_keeps (h : NothingToStart x) (hk : Keeps x y) : NothingToStart y := by
  rwa [NothingToStart, hk.engine, hk.output]

theorem NothingToStart.keyHeadGone (h : NothingToStart x) : NothingToStart (keyHeadGone rest x) := by
  rw [keyHeadGone_only]
  exact h

theorem NothingToStart.charTyped (h : NothingToStart x) : NothingToStart (charTyped p rest x) := by
  rw [charTyped_only]
  exact h

theorem headWaits_keeps (s : State) : Keeps (s.setKbd { s.kbd with headJudged := true }) (headWaits s) := by
  constructor <;> rfl

section Answers

variable (hh : s.held = none)

section Head

variable (he : s.kbd.events = k :: rest)
include hh he

theorem translateKeyHead_keeps (hx : judgeHead s = y) (hk : Keeps x y) (hn : NothingToStart x) :
    Answers (.translateKeyHead v) s x :=
  .of_settle_quiet (exec_translateKeyHead hh he hx) (hn.of_keeps hk) hk

theorem translateKeyHead_waits (hx : judgeHead s = headWaits s) (hn : NothingToStart s) :
    Answers (.translateKeyHead v) s (s.setKbd { s.kbd with headJudged := true }) :=
  translateKeyHead_keeps hh he hx (headWaits_keeps s) hn

end Head

section Make

variable (he : s.kbd.events = ⟨p, .make⟩ :: rest) (ht : entryChar (translate p s) = some c)
include hh he ht

theorem makeKey_refused (hm : effectiveMode s ≠ .relay)
    (hr : s.kbd.lock = true ∨ effectiveMode s = .compose ∧ composeAnswer c s = .refuse) :
    exec (.translateKeyHead v) s = .next (settle s (some v) (headDone p rest (some .other)
      ((recordKeys true s).setKbd { s.kbd with autoRepeat := none, tones := s.kbd.tones ++ [.click] }))) :=
  exec_translateKeyHead hh he (judgeHead_makeRefused he hm ht ((charRefused_iff c s).mpr hr))

theorem makeKey_locked (hn : NothingToStart s) (hm : effectiveMode s ≠ .relay) (hl : s.kbd.lock = true) :
    Answers (.translateKeyHead v) s (headDone p rest (some .other)
      (s.setKbd { s.kbd with autoRepeat := none, tones := s.kbd.tones ++ [.click] })) :=
  translateKeyHead_keeps hh he (judgeHead_makeRefused he hm ht ((charRefused_iff c s).mpr (.inl hl)))
    ((recordKeys_keeps true s).setKbd _).headDone (.headDone hn)

variable (hm : effectiveMode s ≠ .relay) (hr : ¬ charRefused c s = true)
include hm hr

/-- R61, R62: the character reaches its sinks, the head has gone and the auto-repeat begins. -/
theorem makeKey_typed (hs : sinksTake c s = true) (hk : Keeps x (deliverChar c s)) (hn : NothingToStart x) :
    Answers (.translateKeyHead v) s (charTyped p rest x) :=
  translateKeyHead_keeps hh he (judgeHead_makeTyped he hm ht hr hs) hk.charTyped hn.charTyped

theorem makeKey_waits (hs : ¬ sinksTake c s = true) (hn : NothingToStart s) :
    Answers (.translateKeyHead v) s (s.setKbd { s.kbd with headJudged := true }) :=
  translateKeyHead_waits hh he (judgeHead_makeWaits he hm ht hr hs) hn

end Make

section Compose

variable (he : s.kbd.events = ⟨p, .make⟩ :: rest) (ht : entryChar (translate p s) = some c)
  (hm : effectiveMode s = .compose) (hl : s.kbd.lock = false) (ha : composeAnswer c s = .accept)
include hh he ht hm hl ha

omit hh in
theorem judgeHead_composed (hroom : s.params.composeEcho = true → PrintRoom s) :
    judgeHead s = charTyped p rest (deliverChar c s) :=
  judgeHead_makeTyped he (by simp [hm]) ht (not_charRefused hl (.inr (by simp [ha])))
    ((sinksTake_compose hm).mpr ⟨hroom, ha⟩)

theorem makeKey_composedSilent (hecho : s.params.composeEcho = false) :
    exec (.translateKeyHead v) s = .next (settle s (some v) (charTyped p rest (charComposed c s))) := by
  have run := judgeHead_composed he ht hm hl ha (by simp [hecho])
  rw [deliverChar_compose hm ha, if_neg (by simp [hecho])] at run
  exact exec_translateKeyHead hh he run

theorem makeKey_composedPrinted (hecho : s.params.composeEcho = true) (hroom : PrintRoom s) :
    exec (.translateKeyHead v) s = .next (settle s (some v) (charTyped p rest (charPrinted c (charComposed c s)))) := by
  have run := judgeHead_composed he ht hm hl ha fun _ => hroom
  rw [deliverChar_compose hm ha, if_pos hecho] at run
  exact exec_translateKeyHead hh he run

end Compose

section Repeat

variable (he : s.kbd.events = ⟨p, .rep⟩ :: rest)
include hh he

theorem repKey_dropped (h : downRecord p s ≠ some .character ∨ effectiveMode s = .relay ∨ s.kbd.lock = true ∨
    entryChar (translate p s) = none) (hn : NothingToStart s) :
    Answers (.translateKeyHead v) s (keyHeadGone rest s) :=
  translateKeyHead_keeps hh he (judgeHead_repDropped he h) (.refl _) hn.keyHeadGone

variable (hd : downRecord p s = some .character) (ht : entryChar (translate p s) = some c) (hl : s.kbd.lock = false)
  (hm : effectiveMode s ≠ .relay)
include hd ht hl hm

theorem repKey_refused (hr : charRefused c s = true) (hn : NothingToStart s) :
    Answers (.translateKeyHead v) s (keyHeadGone rest (s.setKbd { s.kbd with autoRepeat := none })) :=
  translateKeyHead_keeps hh he (judgeHead_repRefused he hd hm hl ht hr) (.refl _) (.keyHeadGone hn)

variable (hr : ¬ charRefused c s = true)
include hr

/-- R63: the character reaches its sinks again. -/
theorem repKey_typed (hs : sinksTake c s = true) (hk : Keeps x (deliverChar c s)) (hn : NothingToStart x) :
    Answers (.translateKeyHead v) s (keyHeadGone rest x) :=
  translateKeyHead_keeps hh he (judgeHead_repTyped he hd hm hl ht hr hs) hk.keyHeadGone hn.keyHeadGone

theorem repKey_waits (hs : ¬ sinksTake c s = true) (hn : NothingToStart s) :
    Answers (.translateKeyHead v) s (s.setKbd { s.kbd with headJudged := true }) :=
  translateKeyHead_waits hh he (judgeHead_repWaits he hd hm hl ht hr hs) hn

end Repeat

end Answers

/-- Settles O22, by the kind of the head and the effective mode. -/
theorem characterKeysReachTheirSinks : Obligations.CharacterKeysReachTheirSinks := by
  unfold Obligations.CharacterKeysReachTheirSinks
  refine ⟨fun c s => ⟨composeAnswer_refuse, composeAnswer_loading,
    fun h => ⟨composeAnswer_writing h, composeAnswer_bs h, composeAnswer_char h⟩⟩, ?_⟩
  intro p v c rest s hh hn i gives gone begun typed sent deposited waits room
  have notRelay {m : KeyMode} (hm : effectiveMode s = m) (h : m ≠ .relay) : effectiveMode s ≠ .relay := hm ▸ h
  have accepted {m : KeyMode} (hl : s.kbd.lock = false) (hm : effectiveMode s = m) (h : m ≠ .compose) :
      ¬ charRefused c s = true := not_charRefused hl (.inl (hm ▸ h))
  refine ⟨fun he ht => ⟨fun hm hl => ⟨makeKey_locked hh he ht hn hm hl, makeKey_refused hh he ht hm (.inl hl)⟩,
    fun hm hl => ?_, fun hm hl => ?_, fun hm hl => ?_, fun hm hl => ?_⟩,
    fun he => ⟨fun h => repKey_dropped hh he h hn, fun hd ht hl => ⟨fun hm h => ?_, fun hm h => ?_, fun hm h => ?_,
      fun hm ha => ?_⟩⟩⟩
  · have kept : Keeps (sent s) (deliverChar c s) := deliverChar_full hm c ▸ .refl _
    have takes := sinksTake_full (c := c) hm
    exact ⟨fun h => makeKey_typed (x := sent s) hh he ht (notRelay hm nofun) (accepted hl hm nofun) (takes.mpr h) kept hn,
      fun h => makeKey_waits hh he ht (notRelay hm nofun) (accepted hl hm nofun) (by rw [takes]; omega) hn⟩
  · have kept : Keeps (deposited (sent s)) (deliverChar c s) := deliverChar_half hm c ▸ charPrinted_keeps c _
    have takes := sinksTake_half (c := c) hm
    refine ⟨fun h hroom => makeKey_typed (x := deposited (sent s)) hh he ht (notRelay hm nofun) (accepted hl hm nofun)
        (takes.mpr ⟨hroom, h⟩) kept hn,
      fun h => makeKey_waits hh he ht (notRelay hm nofun) (accepted hl hm nofun) (fun hs => ?_) hn⟩
    obtain ⟨hroom, htx⟩ := takes.mp hs
    exact h.elim (Nat.not_le.mpr htx) (absurd hroom)
  · have kept : Keeps (deposited s) (deliverChar c s) := deliverChar_local hm c ▸ charPrinted_keeps c _
    have takes := sinksTake_local (c := c) hm
    exact ⟨fun h => makeKey_typed (x := deposited s) hh he ht (notRelay hm nofun) (accepted hl hm nofun)
        (takes.mpr h) kept hn,
      fun h => makeKey_waits hh he ht (notRelay hm nofun) (accepted hl hm nofun) ((not_congr takes).mpr h) hn⟩
  · intro chars composed
    have takes := sinksTake_compose (c := c) hm
    have waiting (ha : composeAnswer c s ≠ .refuse) (hs : ¬ sinksTake c s = true) : waits :=
      makeKey_waits hh he ht (notRelay hm nofun) (not_charRefused hl (.inr ha)) hs hn
    refine ⟨fun ha => makeKey_refused hh he ht (notRelay hm nofun) (.inr ⟨hm, ha⟩),
      fun ha => waiting (by simp [ha]) (by simp [takes, ha]),
      fun ha hecho => makeKey_composedSilent hh he ht hm hl ha hecho,
      fun ha hecho hroom => waiting (by simp [ha]) fun hs => hroom ((takes.mp hs).1 hecho), fun ha hecho hroom => ?_⟩
    have run := makeKey_composedPrinted (v := v) hh he ht hm hl ha hecho hroom
    refine ⟨.of_settle_quiet run ?_ (charPrinted_keeps c _).charTyped, fun hlf hff => ?_⟩
    · exact (NothingToStart.charTyped (x := deposited composed) hn).of_keeps (charPrinted_keeps c _).charTyped
    · rwa [charPrinted_char ⟨hlf, hff⟩, depositEntry_echo (s := charComposed c s) hecho] at run
  · exact repKey_typed hh he hd ht hl (notRelay hm nofun) (accepted hl hm nofun) ((sinksTake_full hm).mpr h)
      (deliverChar_full hm c ▸ .refl _) hn
  · exact repKey_typed hh he hd ht hl (notRelay hm nofun) (accepted hl hm nofun) ((sinksTake_local hm).mpr h)
      (deliverChar_local hm c ▸ charPrinted_keeps c _) hn
  · exact repKey_waits hh he hd ht hl (notRelay hm nofun) (accepted hl hm nofun) (by rw [sinksTake_full hm]; omega) hn
  · exact repKey_refused hh he hd ht hl (notRelay hm nofun) ((charRefused_iff c s).mpr (.inr ⟨hm, ha⟩)) hn

end Sys2Proof.Machine
end

section
/-! PROOF. The line composer (R81 to R86): what each entry makes of the line, and the command that takes it from the print
queue. -/

namespace Sys2Proof.Machine

variable {s x : State} {e : PrintEntry} {rest : List PrintEntry} {src : Claimant} {c : Code} {v n : Nat}

/-! ### Printing the line -/

theorem printLine_eq (s : State) : printLine s = s.setComp { s.comp with
    output := s.comp.output ++ [.text s.comp.cells], cells := Vector.replicate 80 [], lineSource := none,
    formCount := nextFormCount s.params.formLength s.comp.formCount } := rfl

/-- R81: a buffer without content is 80 empty cells. -/
theorem cells_of_blank (h : holdsContent s = false) : s.comp.cells = Vector.replicate 80 [] := by
  simp only [holdsContent, List.any_eq_false, decide_eq_true_eq, Decidable.not_not] at h
  ext i hi : 1
  rw [Vector.getElem_replicate]
  exact h _ (by simp)

/-- R79: a head that needs `n` places finds them. -/
theorem le_outputRoom_iff : n ≤ outputRoom s ↔ n = 0 ∨ s.comp.output.length + n ≤ 4 := by
  unfold outputRoom outputCapacity
  omega

/-! ### The line before a character is struck (R83, step 1) -/

theorem breakLine_stays (hs : holdsContent s = false ∨ s.comp.lineSource = some e.source) (hw : s.comp.wrapPending = false) :
    breakLine e s = s := by
  have h : sourceBreak e s = false := by rcases hs with h | h <;> simp [sourceBreak, h]
  simp [breakLine, h, hw]

theorem breakLine_wraps (hc : holdsContent s = false) (hw : s.comp.wrapPending = true) :
    breakLine e s = s.setComp { s.comp with column := 0, wrapPending := false } := by
  simp [breakLine, hc, hw]

theorem breakLine_prints (hc : holdsContent s = true) (hb : s.comp.lineSource ≠ some e.source ∨ s.comp.wrapPending = true) :
    breakLine e s = (printLine s).setComp { (printLine s).comp with column := 0, wrapPending := false } := by
  have h : sourceBreak e s = true ∨ s.comp.wrapPending = true := by simpa [sourceBreak, hc] using hb
  simp [breakLine, hc, h]

/-! ### The end of a line and of a form (R84, R85) -/

theorem lineFeed_eq (s : State) : lineFeed s = s.setComp { s.comp with
    output := s.comp.output ++ [.text s.comp.cells], cells := Vector.replicate 80 [], lineSource := none,
    wrapPending := false, formCount := nextFormCount s.params.formLength s.comp.formCount } := rfl

theorem formFeed_unformatted (h : s.params.formLength = 0) : formFeed s = lineFeed s := if_pos h

theorem carriageReturn_plain (h : s.params.autoLf = false) :
    carriageReturn s = s.setComp { s.comp with column := 0, wrapPending := false } := by
  simp [carriageReturn, h]

theorem carriageReturn_autoLf (h : s.params.autoLf = true) :
    carriageReturn s = lineFeed (s.setComp { s.comp with column := 0, wrapPending := false }) := by
  simp [carriageReturn, h]

section FormFeed

variable (hf : s.params.formLength ≠ 0)
include hf

theorem formFeed_top (hc : holdsContent s = false) (h0 : s.comp.formCount = 0) :
    formFeed s = s.setComp { s.comp with wrapPending := false } := by
  simp [formFeed, hf, hc, h0]

/-- R85: FF on a blank line feeds what is left of the form. -/
theorem formFeed_blank (hc : holdsContent s = false) (h0 : s.comp.formCount ≠ 0) :
    formFeed s = s.setComp { s.comp with
      output := s.comp.output ++ [.feed ((s.params.formLength - s.comp.formCount) * 12) none], formCount := 0,
      wrapPending := false } := by
  simp [formFeed, hf, hc, h0, placeJob, State.setComp]

variable (hc : holdsContent s = true)
include hc

theorem formFeed_lastLine (h0 : nextFormCount s.params.formLength s.comp.formCount = 0) : formFeed s = lineFeed s := by
  simp [formFeed, lineFeed, hf, hc, h0, printLine_eq, State.setComp]

/-- R85: FF on a line with content prints it and feeds what is left of the form. -/
theorem formFeed_line (h0 : nextFormCount s.params.formLength s.comp.formCount ≠ 0) :
    formFeed s = s.setComp { s.comp with
      output := s.comp.output ++ [.text s.comp.cells,
        .feed ((s.params.formLength - nextFormCount s.params.formLength s.comp.formCount) * 12) none],
      cells := Vector.replicate 80 [], lineSource := none, formCount := 0, wrapPending := false } := by
  simp [formFeed, hf, hc, h0, printLine_eq, placeJob, State.setComp]

end FormFeed

/-! ### Taking the head -/

section Head

variable (hh : s.held = none) (hq : s.comp.queue = e :: rest)
include hq

theorem exec_composerTakeHead_waits (hroom : ¬ placesNeeded e s ≤ outputRoom s) :
    exec (.composerTakeHead v) s = .next s := by
  change execComposerTakeHead v s = _
  simp only [execComposerTakeHead, hq]
  exact performWhen_not _ _ (by simpa using hroom)

include hh in
theorem exec_composerTakeHead (hroom : placesNeeded e s ≤ outputRoom s) :
    exec (.composerTakeHead v) s = .next (settle s (some v) (takeEntry e s)) := by
  change execComposerTakeHead v s = _
  simp only [execComposerTakeHead, hq]
  exact performWhen_runs _ _ (by simpa using hroom) hh

end Head

/-! ### The composer and the Dispatcher -/

theorem breakLine_setDisp (d : Dispatcher) (e : PrintEntry) (s : State) :
    breakLine e (s.setDisp d) = (breakLine e s).setDisp d := by
  by_cases hb : s.comp.lineSource ≠ some e.source ∨ s.comp.wrapPending = true
  · cases hc : holdsContent s with
    | true => rw [breakLine_prints hc hb, breakLine_prints (s := s.setDisp d) hc hb]; rfl
    | false =>
      cases hw : s.comp.wrapPending with
      | true => rw [breakLine_wraps hc hw, breakLine_wraps (s := s.setDisp d) hc hw]; rfl
      | false => rw [breakLine_stays (.inl hc) hw, breakLine_stays (s := s.setDisp d) (.inl hc) hw]
  · obtain ⟨hs, hw⟩ := not_or.mp hb
    have hs := Decidable.not_not.mp hs
    have hw := Bool.eq_false_iff.mpr hw
    rw [breakLine_stays (.inr hs) hw, breakLine_stays (s := s.setDisp d) (.inr hs) hw]

theorem setDisp_ite (p : Prop) [Decidable p] (a b : State) (d : Dispatcher) :
    (if p then a else b).setDisp d = if p then a.setDisp d else b.setDisp d := apply_ite (State.setDisp · d) p a b

theorem formFeed_setDisp (d : Dispatcher) (s : State) : formFeed (s.setDisp d) = (formFeed s).setDisp d := by
  by_cases hf : s.params.formLength = 0
  · rw [formFeed_unformatted hf, formFeed_unformatted (s := s.setDisp d) hf]; rfl
  cases hc : holdsContent s with
  | false =>
    by_cases h0 : s.comp.formCount = 0
    · rw [formFeed_top hf hc h0, formFeed_top (s := s.setDisp d) hf hc h0]; rfl
    · rw [formFeed_blank hf hc h0, formFeed_blank (s := s.setDisp d) hf hc h0]; rfl
  | true =>
    by_cases h0 : nextFormCount s.params.formLength s.comp.formCount = 0
    · rw [formFeed_lastLine hf hc h0, formFeed_lastLine (s := s.setDisp d) hf hc h0]; rfl
    · rw [formFeed_line hf hc h0, formFeed_line (s := s.setDisp d) hf hc h0]; rfl

/-- The composer reads nothing of the Dispatcher. -/
theorem handleEntry_setDisp (d : Dispatcher) (e : PrintEntry) (s : State) :
    handleEntry e (s.setDisp d) = (handleEntry e s).setDisp d := by
  unfold handleEntry
  split
  · simp only [printEntry, breakLine_setDisp]
    rfl
  · split
    · rfl
    · exact formFeed_setDisp d s
    · simp only [carriageReturn, setDisp_ite]
      rfl
    · simp only [backspace, setDisp_ite]
      rfl
    · simp only [tabulate, setDisp_ite]
      rfl
    · rfl
    · rfl

/-! ### The command -/

/-- R50, R72: the flow conditions, judged as the head goes, are all that taking an entry adds to handling it. -/
theorem takeEntry_keeps (hq : s.comp.queue = e :: rest) :
    Keeps (handleEntry e (s.setComp { s.comp with queue := rest })) (takeEntry e s) := by
  have judged : judgeFlow (s.setComp { s.comp with queue := rest }) = (s.setComp { s.comp with queue := rest }).setDisp
      (judgeFlow (s.setComp { s.comp with queue := rest })).disp := by
    unfold judgeFlow
    (repeat' split) <;> rfl
  have taken : takeEntry e s = (handleEntry e (s.setComp { s.comp with queue := rest })).setDisp
      (judgeFlow (s.setComp { s.comp with queue := rest })).disp := by
    rw [← handleEntry_setDisp, ← judged, takeEntry, hq, List.tail_cons]
  rw [taken]
  constructor <;> simp

/-- R82: the composer takes a head that has its places, and does with the line what `x` says. -/
theorem composerTakeHead_answers (hh : s.held = none) (hq : s.comp.queue = e :: rest)
    (hroom : placesNeeded e s = 0 ∨ s.comp.output.length + placesNeeded e s ≤ 4)
    (hx : handleEntry e (s.setComp { s.comp with queue := rest }) = x) (hn : NothingToStart x) :
    Answers (.composerTakeHead v) s x := by
  subst hx
  have kept := takeEntry_keeps hq
  exact .of_settle_quiet (exec_composerTakeHead hh hq (le_outputRoom_iff.mpr hroom)) (hn.of_keeps kept) kept

theorem composerTakeHead_waits (hq : s.comp.queue = e :: rest) (hn : placesNeeded e s ≠ 0)
    (hroom : 4 < s.comp.output.length + placesNeeded e s) : exec (.composerTakeHead v) s = .next s :=
  exec_composerTakeHead_waits hq (by rw [le_outputRoom_iff]; omega)

/-! ### Control codes -/

/-- R84, R86: a code that is neither printable nor one of those with an action leaves the line as it is and needs no place. -/
theorem handleEntry_noAction (h : c.toNat ≤ 0x06 ∨ c = 0x0B ∨ (0x0E ≤ c.toNat ∧ c.toNat ≤ 0x1F) ∨ c = 0x7F)
    (s : State) :
    placesNeeded ⟨c, false, false, src⟩ s = 0 ∧ handleEntry ⟨c, false, false, src⟩ s = s := by
  have hc : c.toNat ≤ 6 ∨ c.toNat = 11 ∨ (14 ≤ c.toNat ∧ c.toNat ≤ 31) ∨ c.toNat = 127 := by
    rcases h with h | rfl | h | rfl
    · exact .inl h
    · exact .inr (.inl rfl)
    · exact .inr (.inr (.inl h))
    · exact .inr (.inr (.inr rfl))
  have unprintable : ¬ PrintEntry.printable ⟨c, false, false, src⟩ = true := by
    simp [PrintEntry.printable]
    omega
  constructor
  · rw [placesNeeded, if_neg unprintable]
    dsimp only
    split
    · omega
    · omega
    · omega
    · rfl
  · rw [handleEntry, if_neg unprintable]
    dsimp only
    split
    · omega
    · omega
    · omega
    · omega
    · omega
    · omega
    · rfl

theorem backspace_wrapped (h : s.comp.wrapPending = true) :
    backspace s = s.setComp { s.comp with wrapPending := false } := if_pos h

theorem backspace_moves (h : s.comp.wrapPending = false) :
    backspace s = s.setComp { s.comp with column := s.comp.column - 1 } := if_neg (by simp [h])

theorem tabulate_wrapped (h : s.comp.wrapPending = true) : tabulate s = s := if_pos h

theorem tabulate_moves (h : s.comp.wrapPending = false) :
    tabulate s = s.setComp { s.comp with
      column := min 79 ((s.comp.column / s.params.tabInterval + 1) * s.params.tabInterval) } := if_neg (by simp [h])

/-- Settles O27, code by code: the codes that print a line, FF on a form, and the codes that need no place. -/
theorem controlCodesActOnTheLine : Obligations.ControlCodesActOnTheLine := by
  unfold Obligations.ControlCodesActOnTheLine
  intro v c src rest s hh hq i count line feed
  refine ⟨fun hc => ?_, fun hc ha => ?_, fun hc hf => ?_, fun hn => ⟨fun hc ha => ?_, fun hc hw => ?_, fun hc hw => ?_,
    fun hc hw => ?_, fun hc hw => ?_, fun hc => ?_, fun hc => ?_⟩⟩
  · obtain ⟨hneeds, hfeeds⟩ : placesNeeded ⟨c, false, false, src⟩ s = 1 ∧
        handleEntry ⟨c, false, false, src⟩ (s.setComp { s.comp with queue := rest }) =
          lineFeed (s.setComp { s.comp with queue := rest }) := by
      rcases hc with rfl | ⟨rfl, hf⟩
      · exact ⟨rfl, rfl⟩
      · exact ⟨if_pos hf, formFeed_unformatted hf⟩
    exact ⟨fun hn hroom => composerTakeHead_answers hh hq (.inr (by omega)) hfeeds (.inl hn),
      fun hroom => composerTakeHead_waits hq (by omega) (by omega)⟩
  · subst hc
    have hneeds : placesNeeded ⟨0x0D, false, false, src⟩ s = 1 := if_pos ha
    exact ⟨fun hn hroom => composerTakeHead_answers hh hq (.inr (by omega)) (carriageReturn_autoLf ha) (.inl hn),
      fun hroom => composerTakeHead_waits hq (by omega) (by omega)⟩
  · subst hc
    have hneeds : placesNeeded ⟨0x0C, false, false, src⟩ s = 2 := if_neg hf
    refine ⟨fun hroom => composerTakeHead_waits hq (by omega) (by omega), fun hroom => ?_⟩
    have answers {x : State} (hx : formFeed (s.setComp { s.comp with queue := rest }) = x) (hn : NothingToStart x) :
        Answers i s x := composerTakeHead_answers hh hq (.inr (by omega)) hx hn
    exact ⟨fun hn hb h0 => answers (formFeed_top hf hb h0) hn, fun hn hb h0 => answers (formFeed_blank hf hb h0) (.inl hn),
      fun hn hb h0 => answers (formFeed_lastLine hf hb h0) (.inl hn),
      fun hn hb h0 => answers (formFeed_line hf hb h0) (.inl hn)⟩
  · subst hc
    exact composerTakeHead_answers hh hq (.inl (if_neg (Bool.eq_false_iff.mp ha))) (carriageReturn_plain ha) hn
  · subst hc
    exact composerTakeHead_answers hh hq (.inl rfl) (backspace_wrapped hw) hn
  · subst hc
    exact composerTakeHead_answers hh hq (.inl rfl) (backspace_moves hw) hn
  · subst hc
    exact composerTakeHead_answers hh hq (.inl rfl) (tabulate_wrapped hw) hn
  · subst hc
    exact composerTakeHead_answers hh hq (.inl rfl) (tabulate_moves hw) hn
  · subst hc
    exact composerTakeHead_answers hh hq (.inl rfl) rfl hn
  · obtain ⟨hneeds, -⟩ := handleEntry_noAction (src := src) hc s
    exact composerTakeHead_answers hh hq (.inl hneeds) (handleEntry_noAction hc _).2 hn

end Sys2Proof.Machine
end

section
/-! PROOF. The line composer's printable entries (R81 to R83): the overlay that joins a cell, and the line broken before it. -/

namespace Sys2Proof.Machine

variable {s y : State} {e : PrintEntry} {rest : List PrintEntry} {v : Nat}

theorem printable_iff (e : PrintEntry) : e.printable = true ↔
    e.gap = true ∨ e.poisoned = true ∨ 0x20 ≤ e.code.toNat ∧ e.code.toNat ≤ 0x7E := by
  simp [PrintEntry.printable, or_assoc]

theorem strike_eq (e : PrintEntry) (cell : List Overlay) : strike e cell =
    if e.gap = false ∧ e.poisoned = false ∧ e.code = 0x20 ∨ 3 ≤ cell.length then cell
    else cell ++ [⟨e.code, e.poisoned, e.gap⟩] := by
  unfold strike
  simp only [Bool.and_eq_true, Bool.not_eq_true', decide_eq_true_eq, and_assoc]
  by_cases hspace : e.gap = false ∧ e.poisoned = false ∧ e.code = 0x20
  · rw [if_pos hspace, if_pos (.inl hspace)]
  · by_cases hfull : 3 ≤ cell.length
    · rw [if_neg hspace, if_neg (Nat.not_lt.mpr hfull), if_pos (.inr hfull)]
    · rw [if_neg hspace, if_pos (Nat.lt_of_not_le hfull), if_neg (not_or.mpr ⟨hspace, hfull⟩)]

/-- R83: the entry is struck in the cell at the column of the line that the break has left. -/
theorem printEntry_within (hy : breakLine e s = y) (hc : y.comp.column < 79) :
    printEntry e s = y.setComp { y.comp with
      cells := put y.comp.cells y.comp.column (strike e (nth y.comp.cells y.comp.column [])),
      lineSource := some e.source, column := y.comp.column + 1 } := by
  simp [printEntry, hy, lastColumn, hc]

theorem printEntry_last (hy : breakLine e s = y) (hc : y.comp.column = 79) :
    printEntry e s = y.setComp { y.comp with
      cells := put y.comp.cells 79 (strike e (nth y.comp.cells 79 [])),
      lineSource := some e.source, wrapPending := y.params.autoWrap } := by
  simp [printEntry, hy, lastColumn, hc]

section Places

variable (hp : e.printable = true)
include hp

/-- R82: a line that another source or wrap-pending makes the composer print needs a place. -/
theorem placesNeeded_printable : placesNeeded e s =
    if holdsContent s = true ∧ (s.comp.lineSource ≠ some e.source ∨ s.comp.wrapPending = true) then 1 else 0 := by
  rw [placesNeeded, if_pos hp]
  cases hc : holdsContent s <;> simp [sourceBreak, hc]

theorem handleEntry_printable (s : State) : handleEntry e s = printEntry e s := if_pos hp

end Places

/-- Settles O28, by what the break before the entry leaves of the line. -/
theorem printableEntriesAreStruck : Obligations.PrintableEntriesAreStruck := by
  unfold Obligations.PrintableEntriesAreStruck
  intro v e rest s hh hq hp i struck
  have hp := (printable_iff e).mpr hp
  have places := placesNeeded_printable (s := s) hp
  have answers {x : State} (hroom : placesNeeded e s = 0 ∨ s.comp.output.length + placesNeeded e s ≤ 4)
      (hx : printEntry e (s.setComp { s.comp with queue := rest }) = x) (hn : NothingToStart x) : Answers i s x :=
    composerTakeHead_answers hh hq hroom ((handleEntry_printable hp _).trans hx) hn
  have struck_eq (cell : List Overlay) : strike e cell = struck cell := strike_eq e cell
  refine ⟨fun hn hs hw => ?_, fun hn hb hw => ?_, fun breaks hn hroom => ?_, fun breaks hroom => ?_⟩
  · have stays : ¬ (holdsContent s = true ∧ (s.comp.lineSource ≠ some e.source ∨ s.comp.wrapPending = true)) := by
      rcases hs with h | h <;> simp [h, hw]
    rw [if_neg stays] at places
    have line := breakLine_stays (s := s.setComp { s.comp with queue := rest }) hs hw
    exact ⟨fun hc => answers (.inl places) ((printEntry_within line hc).trans (by rw [struck_eq]; rfl)) hn,
      fun hc => answers (.inl places) ((printEntry_last line hc).trans (by rw [struck_eq]; rfl)) hn⟩
  · rw [if_neg (by simp [hb])] at places
    have line := breakLine_wraps (s := s.setComp { s.comp with queue := rest }) (e := e) hb hw
    refine answers (.inl places) ((printEntry_within line (Nat.zero_lt_succ 78)).trans ?_) hn
    simp only [State.setComp_comp, struck_eq, cells_of_blank hb]
    rfl
  · rw [if_pos breaks] at places
    obtain ⟨hb, hs⟩ := breaks
    have line := breakLine_prints (s := s.setComp { s.comp with queue := rest }) hb hs
    refine answers (.inr (by omega)) ((printEntry_within line (Nat.zero_lt_succ 78)).trans ?_) (.inl hn)
    rw [struck_eq]
    rfl
  · rw [if_pos breaks] at places
    exact composerTakeHead_waits hq (by omega) (by omega)

end Sys2Proof.Machine
end

section
/-! PROOF. The idle flush, text for print and feeds (R78, R80, R87). -/

namespace Sys2Proof.Machine

variable {s x : State} {v : Nat} {n : Byte} {text : List Byte}

/-! ### The idle flush -/

theorem exec_idleFlushExpiry (hh : s.held = none) (ht : s.comp.idleTimer ≠ .stopped) :
    exec (.idleFlushExpiry v) s = .next (settle s (some v) (flush s)) :=
  performWhen_runs _ _ ((Timer.isRunning_iff _).mpr ht) hh

theorem flush_prints (h : s.comp.output.length < 4) :
    flush s = printLine (s.setComp { s.comp with idleTimer := .stopped }) :=
  if_pos (Nat.sub_pos_of_lt h)

/-- R87: without a free place the flush is due, and the line stays. -/
theorem flush_due (h : 4 ≤ s.comp.output.length) :
    flush s = s.setComp { s.comp with idleTimer := .stopped, flushDue := true } := by
  have full : ¬ 0 < outputRoom (s.setComp { s.comp with idleTimer := .stopped }) := by
    simp [outputRoom, outputCapacity, h]
  exact if_neg full

theorem idleFlushExpiry_answers (hh : s.held = none) (ht : s.comp.idleTimer ≠ .stopped) (hk : Keeps x (flush s))
    (hn : s.engine.state ≠ .idle) : Answers (.idleFlushExpiry v) s x :=
  .of_settle_quiet (exec_idleFlushExpiry hh ht) (.inl (by simpa using hn)) hk

/-! ### PrintText -/

section PrintText

variable (ht : Turn (.printText text) s) (h1 : 1 ≤ text.length) (h240 : text.length ≤ 240)
include ht h1 h240

theorem printText_badValue (hbad : ∃ b ∈ text, 0x7F < b.toNat) :
    Answers (.printText text) s (answered (.printText text) .badValue [] s) :=
  .of_eq (exec_request_answered ht rfl rfl
    (fun _ => by simp [printTextEffect, textLengthOk, h1, h240, textOk_eq_false hbad, replies]) rfl ht.runs)

theorem printText_full (hok : ∀ b ∈ text, b.toNat ≤ 0x7F) (hfull : 256 < s.comp.linkPrint.length + text.length) :
    Answers (.printText text) s (answered (.printText text) .full [] s) :=
  .of_eq (exec_request_answered ht rfl rfl
    (fun _ => by simp [printTextEffect, textLengthOk, h1, h240, textOk_eq_true hok, linkPrintCapacity,
      Nat.not_le.mpr hfull, replies]) rfl ht.runs)

theorem printText_done (hok : ∀ b ∈ text, b.toNat ≤ 0x7F) (hroom : s.comp.linkPrint.length + text.length ≤ 256) :
    Answers (.printText text) s (answered (.printText text) .done []
      (s.setComp { s.comp with linkPrint := s.comp.linkPrint ++ text.map (·.setWidth 7) })) :=
  .of_eq (exec_request_answered ht rfl rfl
    (fun _ => by
      simp only [printTextEffect, textLengthOk, h1, h240, textOk_eq_true hok, linkPrintCapacity, State.setLink_comp, hroom]
      rfl) rfl ht.runs)

end PrintText

/-! ### PaperFeed -/

/-- R80: the jobs of a feed, placed for an output queue that has room for them. -/
def feedPlaced (lines : Nat) (s : State) : State :=
  if holdsContent s then
    s.setComp { s.comp with
      output := s.comp.output ++ [.text s.comp.cells, .feed lines none], cells := Vector.replicate 80 [],
      lineSource := none, formCount := nextFormCount s.params.formLength s.comp.formCount }
  else s.setComp { s.comp with output := s.comp.output ++ [.feed lines none] }

theorem placeFeed_eq (lines : Nat) (s : State) : placeFeed lines none s = feedPlaced lines s := by
  unfold placeFeed feedPlaced
  split <;> simp [placeJob, printLine_eq, State.setComp]

theorem feedPlaced_setLink (lines : Nat) (l : Link) (s : State) :
    feedPlaced lines (s.setLink l) = (feedPlaced lines s).setLink l := by
  simp only [feedPlaced, setLink_ite]
  rfl

/-- R179: a request in its turn answers its effect with its reply formed; the step may bring a measurement with it. -/
theorem exec_requestVolts_answered {c : Instr} {r : Request} {e : State → State × List Byte} {o : ReplyCode}
    {fields : List Byte} {volts : Option Nat} (ht : Turn c s) (hr : requestOf c = some r)
    (he : exec c s = request volts r.kind r.payload e s) (hx : ∀ l, e (s.setLink l) = replies o fields (x.setLink l))
    (hl : x.link = s.link) (hh : x.held = none) : exec c s = .next (settle s volts (answered c o fields x)) := by
  obtain ⟨q, hq, htail⟩ := standAtHead_eq r s
  rw [he, request_inTurn volts _ _ _ ht.runs (ht.inTurn hr), hq, hx, replies_state, replies_payload,
    formReply_queue _ (by simpa using hh)]
  simp [answered, hr, hl, htail, State.setLink]

section PaperFeed

variable (ht : Turn (.paperFeed n v) s)
include ht

theorem exec_paperFeed_refused {o : ReplyCode} (hx : ∀ l, paperFeedEffect n (s.setLink l) = replies o [] (s.setLink l)) :
    exec (.paperFeed n v) s = .next (settle s (some v) (answered (.paperFeed n v) o [] s)) :=
  exec_requestVolts_answered ht rfl rfl hx rfl ht.runs

theorem exec_paperFeed_badValue (hn : n = 0) :
    exec (.paperFeed n v) s = .next (settle s (some v) (answered (.paperFeed n v) .badValue [] s)) :=
  exec_paperFeed_refused ht fun _ => if_pos hn

variable (hn : n ≠ 0)
include hn

theorem exec_paperFeed_full (hroom : feedFits s = false) :
    exec (.paperFeed n v) s = .next (settle s (some v) (answered (.paperFeed n v) .full [] s)) :=
  exec_paperFeed_refused ht fun l => by
    rw [paperFeedEffect, if_neg hn, if_neg (Bool.eq_false_iff.mp (show feedFits (s.setLink l) = false from hroom))]

theorem exec_paperFeed_done (hroom : feedFits s = true) :
    exec (.paperFeed n v) s =
      .next (settle s (some v) (answered (.paperFeed n v) .done [] (feedPlaced n.toNat s))) := by
  refine exec_requestVolts_answered ht rfl rfl (fun l => ?_) ?_ ?_
  · rw [paperFeedEffect, if_neg hn, if_pos (show feedFits (s.setLink l) = true from hroom), placeFeed_eq,
      feedPlaced_setLink]
  · simp [← placeFeed_eq]
  · simp [← placeFeed_eq, ht.runs]

end PaperFeed

/-- Settles O29, request by request: a flush by its room, a text by its bytes and the room, a feed by the line and the room. -/
theorem flushPrintTextAndFeed : Obligations.FlushPrintTextAndFeed := by
  unfold Obligations.FlushPrintTextAndFeed
  refine fun v n text s => ⟨fun hh ht hn => ⟨fun hroom => ?_, fun hfull => ?_⟩, fun ht h1 h240 =>
    ⟨printText_badValue ht h1 h240, printText_full ht h1 h240, printText_done ht h1 h240⟩, fun ht hn => ?_⟩
  · exact idleFlushExpiry_answers hh ht (by rw [flush_prints hroom]; constructor <;> rfl) hn
  · exact idleFlushExpiry_answers hh ht (by rw [flush_due hfull]; constructor <;> rfl) hn
  · have answers {x : State} (h : exec (.paperFeed n v) s = .next (settle s (some v) x)) (hx : x.engine = s.engine) :
        Answers (.paperFeed n v) s x := .of_settle_quiet h (.inl (hx ▸ hn)) (.refl x)
    refine ⟨fun h0 => answers (exec_paperFeed_badValue ht h0) rfl, fun h0 hb hroom => ?_, fun h0 hb hroom => ?_,
      fun h0 hfull => ?_⟩
    · have run := exec_paperFeed_done ht h0 ((feedFits_iff s).mpr (by simp [hb]; omega))
      rw [feedPlaced, if_neg (by simp [hb])] at run
      exact answers run rfl
    · have run := exec_paperFeed_done ht h0 ((feedFits_iff s).mpr (by simp [hb]; omega))
      rw [feedPlaced, if_pos hb] at run
      exact answers run rfl
    · have nofit : feedFits s = false := by
        rw [Bool.eq_false_iff, ne_eq, feedFits_iff]
        rcases hfull with h | ⟨hb, h⟩
        · split <;> omega
        · simp [hb]; omega
      exact answers (exec_paperFeed_full ht h0 nofit) rfl

end Sys2Proof.Machine
end

section
/-! PROOF. The Engine from one dot line to the next: a boundary at which nothing stands, the job that goes on, the job behind
it, and an IDLE Engine that a job starts (R80, R82, R91, R106, R110 to R112). -/

namespace Sys2Proof.Machine

variable {s x y t : State} {v k : Nat} {job next : Job} {rest behind : List Job}

/-! ### A boundary at which nothing stands -/

/-- R110, R111: the conditions, judged afresh from the readings, and the halt leave nothing for the Engine to be held by. -/
structure NothingStands (s : State) : Prop where
  paper     : s.engine.paper = true
  paperCond : s.engine.paperCond = false
  haltDue   : s.engine.haltDue = false
  power     : s.supply.power ≠ .critical
  hotCond   : s.engine.hotCond = false
  therm     : isHot s.supply.therm = false

theorem NothingStands.standing (h : NothingStands s) :
    (judgeConditions s.supply.power s.supply.therm s.engine).1.standing = none := by
  obtain ⟨hhalt, hpaper, hpower, hhot, -⟩ := judgeConditions_fst s.supply.power s.supply.therm s.engine
  simp [standing_eq, hhalt, hpaper, hpower, hhot, h.paper, h.paperCond, h.haltDue, h.power, h.hotCond, h.therm]

theorem judgeConditions_halfSteps (p : Power) (r : Therm) (e : Engine) :
    (judgeConditions p r e).1.halfSteps = e.halfSteps := by
  have paper : (judgePaper e).1.halfSteps = e.halfSteps := by unfold judgePaper; split <;> rfl
  have power (e : Engine) : (judgePowerCond p e).1.halfSteps = e.halfSteps := by
    unfold judgePowerCond; (repeat' split) <;> rfl
  have heat (e : Engine) : (judgeHeat r e).1.halfSteps = e.halfSteps := by unfold judgeHeat; split <;> rfl
  exact (heat _).trans ((power _).trans paper)

@[simp] theorem judgePower_volts (v : Nat) (s : State) : (judgePower v s).supply.volts = v := by
  simp only [judgePower]
  split <;> simp

@[simp] theorem judgePower_therm (v : Nat) (s : State) : (judgePower v s).supply.therm = s.supply.therm := by
  simp only [judgePower]
  split <;> simp

/-- R91, R171: a snapshot's measurement that is no brownout only acts on the power state. -/
theorem snapMeasure_runs (h : 5000 ≤ v) (s : State) : snapMeasure v s = judgePower v s :=
  if_neg (Nat.not_lt.mpr h)

/-- R91, R105: the dot line `k` of `job` has its plan from the snapshot, and is in flight. -/
def linePlanned (v : Nat) (job : Job) (k : Nat) (s : State) : State :=
  let plan := computePlan (burnVolts (measured v)) (burnCelsius s.supply.therm) s.params s.supply.power (renderLine job k)
    s.strobe.h1 s.strobe.h2 (deadDots s)
  (s.setStrobe { s.strobe with plan := some plan.1, figures := plan.2 }).setEngine
    { s.engine with position := some k, inFlight := true }

theorem startDotLine_runs (hh : s.held = none) (hv : 5000 ≤ v) (hp : s.engine.position = some k) :
    startDotLine v job s = stepPaper (judgePower (measured v) (linePlanned v job k s)) := by
  have hm : 5000 ≤ measured v := by unfold measured; omega
  have unfolded : startDotLine v job s = let x := snapMeasure (measured v) (linePlanned v job k s)
      if x.held.isSome then x else stepPaper x := by
    simp only [startDotLine, hp, Option.getD_some]
    rfl
  rw [unfolded, snapMeasure_runs hm]
  exact if_neg (by simp [linePlanned, hh])

@[simp] theorem patrolAfter_records (old new : EngineState) (on : Bool) (h : HeadCheck) :
    (patrolAfter old new on h).records = h.records := by
  unfold patrolAfter
  (repeat' split) <;> rfl

/-! ### The dot line started -/

/-- What the start of a dot line reads of the state, and what it leaves as it is of the print side and the Keyboard, is the same
in `x` as in `s`. -/
structure StartsAlike (s x : State) : Prop where
  halfSteps : x.engine.halfSteps = s.engine.halfSteps
  power     : x.supply.power = s.supply.power
  therm     : x.supply.therm = s.supply.therm
  records   : x.head.records = s.head.records
  h1        : x.strobe.h1 = s.strobe.h1
  h2        : x.strobe.h2 = s.strobe.h2
  params    : x.params = s.params
  mem       : x.mem = s.mem
  kbd       : x.kbd = s.kbd
  reply     : x.link.reply = s.link.reply
  cells     : x.comp.cells = s.comp.cells
  queue     : x.comp.queue = s.comp.queue
  source    : x.comp.lineSource = s.comp.lineSource

theorem StartsAlike.of_keeps (h : Keeps s x) : StartsAlike s x := by
  constructor <;> simp [h.engine, h.supply, h.head, h.strobe, h.params, h.mem, h.kbd, h.reply, h.cells, h.queue, h.lineSource]

/-- R91, R112: in `t` the dot line `k` of the head job has just started, from the readings and the history of `s`, and nothing
that the print side and the Keyboard hold in `s` has changed by it. -/
structure DotLineStarted (v : Nat) (job : Job) (behind : List Job) (k : Nat) (s t : State) : Prop where
  held      : t.held = none
  state     : t.engine.state = job.working
  inFlight  : t.engine.inFlight = true
  position  : t.engine.position = some k
  output    : t.comp.output = job :: behind
  halfSteps : t.engine.halfSteps = s.engine.halfSteps + 2
  volts     : t.supply.volts = measured v
  therm     : t.supply.therm = s.supply.therm
  plan      : t.strobe.plan = some (computePlan (burnVolts (measured v)) (burnCelsius s.supply.therm) s.params
                s.supply.power (renderLine job k) t.strobe.h1 t.strobe.h2 (deadDots s)).1
  h1        : t.strobe.h1 = s.strobe.h1
  h2        : t.strobe.h2 = s.strobe.h2
  params    : t.params = s.params
  mem       : t.mem = s.mem
  kbd       : t.kbd = s.kbd
  reply     : t.link.reply = s.link.reply
  cells     : t.comp.cells = s.comp.cells
  queue     : t.comp.queue = s.comp.queue
  source    : t.comp.lineSource = s.comp.lineSource

/-- The same start, seen from a state that it starts alike from. -/
theorem DotLineStarted.alike (h : DotLineStarted v job behind k x t) (a : StartsAlike s x) :
    DotLineStarted v job behind k s t where
  held := h.held
  state := h.state
  inFlight := h.inFlight
  position := h.position
  output := h.output
  halfSteps := by rw [h.halfSteps, a.halfSteps]
  volts := h.volts
  therm := h.therm.trans a.therm
  plan := by rw [h.plan, a.therm, a.params, a.power, deadDots, deadDots, a.records]
  h1 := h.h1.trans a.h1
  h2 := h.h2.trans a.h2
  params := h.params.trans a.params
  mem := h.mem.trans a.mem
  kbd := h.kbd.trans a.kbd
  reply := h.reply.trans a.reply
  cells := h.cells.trans a.cells
  queue := h.queue.trans a.queue
  source := h.source.trans a.source

/-- What settles after the start leaves it as it is. -/
theorem DotLineStarted.settled (h : DotLineStarted v job behind k s x) (hk : Keeps x t) :
    DotLineStarted v job behind k s t := by
  constructor <;> simp [hk.held, hk.engine, hk.output, hk.supply, hk.strobe, hk.params, hk.mem, hk.kbd, hk.reply, hk.cells,
    hk.queue, hk.lineSource, h.held, h.state, h.inFlight, h.position, h.output, h.halfSteps, h.volts, h.therm, h.plan, h.h1,
    h.h2, h.params, h.mem, h.kbd, h.reply, h.cells, h.queue, h.source]

theorem startDotLine_started (hh : s.held = none) (hv : 5000 ≤ v) (ho : s.comp.output = job :: behind)
    (hp : s.engine.position = some k) (hw : s.engine.state = job.working) :
    DotLineStarted v job behind k s (startDotLine v job s) := by
  rw [startDotLine_runs hh hv hp]
  constructor <;> simp [hh, hw, ho, linePlanned, stepPaper]

/-- R110, R112: a boundary at which nothing stands starts the dot line at the position of the head job. -/
theorem atBoundary_started (evs : List PrintEvent) (hn : NothingStands s) (hh : s.held = none) (hv : 5000 ≤ v)
    (ho : s.comp.output = job :: behind) (hp : s.engine.position = some k) :
    DotLineStarted v job behind k s (atBoundary v evs s) := by
  have hjudged := judgeConditions_fst s.supply.power s.supply.therm s.engine
  rw [atBoundary_starts v evs s hn.standing ho]
  refine (startDotLine_started (by simpa using hh) hv (by simpa using ho) (by simp [hjudged, hp])
    (by simp [setEngineState])).alike ?_
  constructor <;> simp [judgeConditions_halfSteps, setEngineState]

/-! ### The dot line in flight completes -/

/-- R106: the dot line in flight has fired, and the history has shifted. -/
def lineFired (s : State) : State :=
  (s.setStrobe { s.strobe with
    h1 := dotsOf (((s.strobe.plan.map (·.counts)).getD []).map (0 < ·)), h2 := s.strobe.h1, plan := none }).setEngine
    { s.engine with inFlight := false }

theorem completeLine_advanced (hx : advancePosition (lineFired s) = x) (ho : x.comp.output ≠ []) :
    completeLine v s = atBoundary v [] x := by
  subst hx
  exact if_neg ho

/-- R79, R112: the dot line has fired, and the next one to start is dot line `k` of `job`, with `behind` behind it. -/
def headAt (job : Job) (behind : List Job) (k : Nat) (s : State) : State :=
  ((lineFired s).setComp { s.comp with output := job :: behind }).setEngine
    { (lineFired s).engine with position := some k }

@[simp] theorem headAt_frame (job : Job) (behind : List Job) (k : Nat) (s : State) :
    (headAt job behind k s).held = s.held ∧ (headAt job behind k s).params = s.params ∧
    (headAt job behind k s).kbd = s.kbd ∧ (headAt job behind k s).comp.cells = s.comp.cells ∧
    (headAt job behind k s).comp.queue = s.comp.queue ∧ (headAt job behind k s).head = s.head ∧
    (headAt job behind k s).supply = s.supply ∧ (headAt job behind k s).mem = s.mem ∧
    (headAt job behind k s).engine.halfSteps = s.engine.halfSteps := by
  simp [headAt, lineFired]

@[simp] theorem headAt_history (job : Job) (behind : List Job) (k : Nat) (s : State) :
    (headAt job behind k s).strobe.h1 = dotsOf (((s.strobe.plan.map (·.counts)).getD []).map (0 < ·)) ∧
    (headAt job behind k s).strobe.h2 = s.strobe.h1 := by
  simp [headAt, lineFired]

theorem NothingStands.headAt (h : NothingStands s) (job : Job) (behind : List Job) (k : Nat) :
    NothingStands (headAt job behind k s) := by
  constructor <;> simp [Machine.headAt, lineFired, h.paper, h.paperCond, h.haltDue, h.power, h.hotCond, h.therm]

/-- R112: the job has another dot line. -/
theorem advancePosition_within (ho : s.comp.output = job :: rest) (hp : s.engine.position = some k) (hk : k + 1 < job.lines) :
    advancePosition (lineFired s) = headAt job rest (k + 1) s := by
  have same : (lineFired s).setComp { s.comp with output := job :: rest } = lineFired s := by rw [← ho]; rfl
  have ho : (lineFired s).comp.output = job :: rest := ho
  have hp : (lineFired s).engine.position = some k := hp
  simp [Machine.headAt, same, advancePosition, ho, hp, hk]

/-- R79, R112: the job's last dot line has completed, and the job behind it is the head. -/
theorem advancePosition_nextJob (ho : s.comp.output = job :: next :: rest) (hp : s.engine.position = some k)
    (hk : job.lines ≤ k + 1) (hf : s.comp.flushDue = false) :
    advancePosition (lineFired s) = headAt next rest 0 s := by
  have hc : (lineFired s).comp = s.comp := rfl
  have hp : (lineFired s).engine.position = some k := hp
  simp [Machine.headAt, advancePosition, hc, ho, hp, Nat.not_lt.mpr hk, dueFlush, hf]

theorem job_working_ne_idle (job : Job) : job.working ≠ .idle := by cases job <;> nofun

/-- An Engine in a dot line starts no other as the step settles. -/
theorem settle_started (h : DotLineStarted v job behind k s x) (s0 : State) :
    DotLineStarted v job behind k s (settle s0 (some v) x) := by
  rw [settle_quiet s0 v (.inl (h.state ▸ job_working_ne_idle job))]
  exact h.settled (settle_keeps s0 x)

/-- R112: DOT_LINE_COMPLETE where nothing stands. -/
theorem exec_dotLineComplete_starts (hh : s.held = none) (hi : s.engine.inFlight = true) (hv : 5000 ≤ v)
    (hn : NothingStands s) (hx : advancePosition (lineFired s) = headAt job behind k s) :
    ∃ t, exec (.dotLineComplete v) s = .next t ∧ DotLineStarted v job behind k (headAt job behind k s) t := by
  have run : exec (.dotLineComplete v) s = .next (settle s (some v) (completeLine v s)) := performWhen_runs _ _ hi hh
  have ho : (headAt job behind k s).comp.output = job :: behind := rfl
  rw [completeLine_advanced hx (by simp [ho])] at run
  exact ⟨_, run, settle_started (atBoundary_started [] (hn.headAt job behind k) (by simp [hh]) hv ho rfl) s⟩

/-! ### An IDLE Engine -/

/-- R110: a job placed for an IDLE Engine starts at its dot line 0 as the step settles. -/
theorem settle_idleStarts (s0 : State) (hh : x.held = none) (hn : NothingStands x) (hv : 5000 ≤ v)
    (hi : x.engine.state = .idle) (ho : x.comp.output = job :: behind) :
    DotLineStarted v job behind 0 x (settle s0 (some v) x) := by
  have k := storeInputSettle_keeps s0 x
  simp only [settle, hh, Option.isSome_none, Bool.false_eq_true, if_false]
  generalize idleTimerSettle s0 (ownerTimerSettle (arbitrate (echoSettle s0 (storeSettle x)))) = y at k ⊢
  have hb : engineSettle v y = atBoundary v [] (y.setEngine { y.engine with position := some 0 }) := by
    simp [engineSettle, k.engine, hi, k.output, ho]
  have hy : NothingStands (y.setEngine { y.engine with position := some 0 }) := by
    constructor <;> simp [k.engine, k.supply, hn.paper, hn.paperCond, hn.haltDue, hn.power, hn.hotCond, hn.therm]
  have alike : StartsAlike y (y.setEngine { y.engine with position := some 0 }) := by constructor <;> rfl
  have started := ((atBoundary_started (v := v) [] hy (k.held.trans hh) hv (k.output.trans ho) rfl).alike alike).alike
    (.of_keeps k)
  rw [hb, if_neg (by simp [started.held])]
  exact started.settled (by constructor <;> simp)

/-- R80, R110: a feed for an IDLE Engine and a blank line starts as the request is answered. -/
theorem exec_paperFeed_starts {n : Byte} (ht : Turn (.paperFeed n v) s) (hn : NothingStands s) (hv : 5000 ≤ v)
    (hi : s.engine.state = .idle) (ho : s.comp.output = []) (h0 : n ≠ 0) (hb : holdsContent s = false) :
    ∃ t, exec (.paperFeed n v) s = .next t ∧ DotLineStarted v (.feed n.toNat none) [] 0
      (answered (.paperFeed n v) .done [] (s.setComp { s.comp with output := [.feed n.toNat none] })) t := by
  have run := exec_paperFeed_done ht h0 ((feedFits_iff s).mpr (by simp [hb, ho]))
  rw [feedPlaced, if_neg (by simp [hb]), ho] at run
  exact ⟨_, run,
    settle_idleStarts s ht.runs ⟨hn.paper, hn.paperCond, hn.haltDue, hn.power, hn.hotCond, hn.therm⟩ hv hi rfl⟩

/-- R82, R85, R110: a line that LF prints for an IDLE Engine starts as the composer has taken the LF. -/
theorem exec_lineFeed_starts {src : Claimant} {queue : List PrintEntry} (hh : s.held = none) (hn : NothingStands s)
    (hv : 5000 ≤ v) (hi : s.engine.state = .idle) (ho : s.comp.output = [])
    (hq : s.comp.queue = ⟨0x0A, false, false, src⟩ :: queue) :
    ∃ t, exec (.composerTakeHead v) s = .next t ∧ DotLineStarted v (.text s.comp.cells) [] 0
      (lineFeed (s.setComp { s.comp with queue := queue })) t := by
  have kept : Keeps (lineFeed (s.setComp { s.comp with queue := queue })) (takeEntry ⟨0x0A, false, false, src⟩ s) :=
    takeEntry_keeps hq
  have places : placesNeeded ⟨0x0A, false, false, src⟩ s = 1 := rfl
  have room : placesNeeded ⟨0x0A, false, false, src⟩ s ≤ outputRoom s :=
    le_outputRoom_iff.mpr (.inr (by rw [places, ho, List.length_nil]; omega))
  have run := exec_composerTakeHead (v := v) hh hq room
  refine ⟨_, run, (settle_idleStarts s (by simpa using hh) ?_ hv (by simpa using hi) ?_).alike (.of_keeps kept)⟩
  · constructor <;> simp [hn.paper, hn.paperCond, hn.haltDue, hn.power, hn.hotCond, hn.therm]
  · rw [kept.output]
    simp [lineFeed_eq, ho]

/-- Settles O34, by the job that goes on, the job behind it, and the job placed for an IDLE Engine. -/
theorem dotLinesFollowOneAnother : Obligations.DotLinesFollowOneAnother := by
  unfold Obligations.DotLinesFollowOneAnother
  intro v s hh hpaper hpc hhalt hpower _ hhot htherm hv starts
  have standing : NothingStands s := ⟨hpaper, hpc, hhalt, hpower, hhot, htherm⟩
  have started {x t : State} {job : Job} {behind : List Job} {k : Nat} (h : DotLineStarted v job behind k x t)
      (he : x.engine.halfSteps = s.engine.halfSteps) (hs : x.supply = s.supply) (hr : x.head = s.head)
      (hp : x.params = s.params) (hm : x.mem = s.mem) : starts t job behind k := by
    have plan := h.plan
    rw [hs, hp, deadDots, hr] at plan
    exact ⟨h.held, h.state, h.inFlight, h.position, h.output, he ▸ h.halfSteps, h.volts, hs ▸ h.therm, hp ▸ h.params,
      hm ▸ h.mem, plan⟩
  refine ⟨fun hi => ?_, fun hi ho => ⟨fun n ht h0 hb => ?_, fun src rest hq => ?_⟩⟩
  · intro heated
    have heats {job : Job} {behind : List Job} {k : Nat} (hx : advancePosition (lineFired s) = headAt job behind k s) :
        ∃ t, exec (.dotLineComplete v) s = .next t ∧ starts t job behind k ∧ heated t := by
      obtain ⟨t, run, h⟩ := exec_dotLineComplete_starts hh hi hv standing hx
      obtain ⟨hh1, hh2⟩ := headAt_history job behind k s
      exact ⟨t, run, started h (by simp) (by simp) (by simp) (by simp) (by simp), h.h1.trans hh1, h.h2.trans hh2,
        h.kbd.trans (by simp), h.cells.trans (by simp), h.queue.trans (by simp)⟩
    exact ⟨fun job rest k ho hp hk => heats (advancePosition_within ho hp hk),
      fun job next rest k ho hp hk hf => heats (advancePosition_nextJob ho hp hk hf)⟩
  · obtain ⟨t, run, h⟩ := exec_paperFeed_starts ht standing hv hi ho h0 hb
    exact ⟨t, run, started h rfl rfl rfl rfl rfl, h.reply, h.kbd⟩
  · obtain ⟨t, run, h⟩ := exec_lineFeed_starts hh standing hv hi ho hq
    refine ⟨t, run, started h rfl rfl rfl rfl rfl, h.queue, ?_, h.source⟩
    rw [holdsContent, h.cells]
    simp [lineFeed_eq]

end Sys2Proof.Machine
end

section
/-! PROOF. The firing groups (R101, R102): the walk over the blocks keeps a greedy partition of those it has handled. -/

namespace Sys2Proof.Machine

variable {limit n : Nat} {count : Nat → Nat} {gs : List (List Nat)} {bs : List Nat} {w : Walk}

/-! ### The dot current and the dot limit -/

section Current

variable {v ohms : Nat} (ho : 0 < ohms)
include ho

/-- R101: the dot current is V / Ω rounded upward. -/
theorem dotCurrent_mul_ge : v ≤ dotCurrent v ohms * ohms := by
  have h := Nat.lt_div_mul_add (a := v + ohms - 1) ho
  unfold dotCurrent
  omega

theorem dotCurrent_mul_lt : dotCurrent v ohms * ohms < v + ohms := by
  have h := Nat.div_mul_le_self (v + ohms - 1) ohms
  unfold dotCurrent
  omega

theorem dotCurrent_pos (hv : 0 < v) : 0 < dotCurrent v ohms :=
  Nat.div_pos (by omega) ho

end Current

theorem dotLimit_eq (budget current : Nat) :
    dotLimit budget current = if budget / current = 0 then 1 else budget / current := by
  unfold dotLimit
  generalize budget / current = q
  split <;> omega

theorem dotLimit_mul_le {budget current : Nat} (h0 : 0 < current) (h : current ≤ budget) :
    dotLimit budget current * current ≤ budget := by
  rw [dotLimit_eq, if_neg (Nat.ne_of_gt (Nat.div_pos h h0))]
  exact Nat.div_mul_le_self budget current

/-! ### Greedy partitions -/

/-- R102: the block counts of a group, summed. -/
def groupTotal (count : Nat → Nat) (g : List Nat) : Nat := (g.map count).sum

theorem groupTotal_singleton (count : Nat → Nat) (b : Nat) : groupTotal count [b] = count b := by simp [groupTotal]

theorem groupTotal_concat (count : Nat → Nat) (g : List Nat) (b : Nat) :
    groupTotal count (g ++ [b]) = groupTotal count g + count b := by simp [groupTotal]

/-- R102: the group is within the limit, or it is one block alone. -/
def GroupFits (limit : Nat) (count : Nat → Nat) (g : List Nat) : Prop :=
  g ≠ [] ∧ (groupTotal count g ≤ limit ∨ ∃ b, g = [b])

/-- R102: the first block of `next` would take the group over the limit. -/
def ClosedBefore (limit : Nat) (count : Nat → Nat) (g next : List Nat) : Prop :=
  ∀ b, next.head? = some b → limit < groupTotal count g + count b

/-- `R` relates each member of a list with the next one. -/
def Consecutive {α : Type} (R : α → α → Prop) (l : List α) : Prop :=
  ∀ (i : Nat) (a b : α), l[i]? = some a → l[i + 1]? = some b → R a b

/-- A longer list has one more pair, its old last member and the new one. -/
theorem consecutive_concat {α : Type} {R : α → α → Prop} {l : List α} {x : α} :
    Consecutive R (l ++ [x]) ↔ Consecutive R l ∧ ∀ a ∈ l.getLast?, R a x := by
  have old {i : Nat} (h : i < l.length) : (l ++ [x])[i]? = l[i]? := List.getElem?_append_left h
  have new : (l ++ [x])[l.length]? = some x := List.getElem?_concat_length
  constructor
  · refine fun h => ⟨fun i a b ha hb => ?_, fun a ha => ?_⟩
    · have hi : i + 1 < l.length := (List.getElem?_eq_some_iff.mp hb).1
      exact h i a b ((old (by omega)).trans ha) ((old hi).trans hb)
    · rw [List.getLast?_eq_getElem?, Option.mem_def] at ha
      have hi : l.length - 1 < l.length := (List.getElem?_eq_some_iff.mp ha).1
      exact h (l.length - 1) a x ((old hi).trans ha) (by rwa [Nat.sub_add_cancel (by omega)])
  · rintro ⟨h, hlast⟩ i a b ha hb
    have hi : i + 1 < l.length + 1 := by
      have hlen := (List.getElem?_eq_some_iff.mp hb).1
      rwa [List.length_append] at hlen
    rw [old (by omega)] at ha
    rcases Nat.lt_succ_iff_lt_or_eq.mp hi with hi | hi
    · exact h i a b ha ((old hi).symm.trans hb)
    · rw [hi, new, Option.some.injEq] at hb
      refine hb ▸ hlast a ?_
      rw [List.getLast?_eq_getElem?, ← hi]
      exact ha

/-- R102: the groups are the greedy partition of those of the blocks below `n` that have dots to heat. -/
structure GreedyPartition (limit : Nat) (count : Nat → Nat) (n : Nat) (gs : List (List Nat)) : Prop where
  blocks : gs.flatten = (List.range n).filter (0 < count ·)
  fits   : ∀ g ∈ gs, GroupFits limit count g
  closed : Consecutive (ClosedBefore limit count) gs

namespace GreedyPartition

theorem nil : GreedyPartition limit count 0 [] := ⟨rfl, nofun, nofun⟩

/-- A block without dots to heat joins no group. -/
theorem skip (h : GreedyPartition limit count n gs) (hc : count n = 0) : GreedyPartition limit count (n + 1) gs where
  blocks := by simp [h.blocks, List.range_succ, hc]
  fits := h.fits
  closed := h.closed

/-- A block that the last group has no room for begins a group of its own. -/
theorem begin_group (h : GreedyPartition limit count n gs) (hc : 0 < count n)
    (hlast : ∀ g ∈ gs.getLast?, limit < groupTotal count g + count n) :
    GreedyPartition limit count (n + 1) (gs ++ [[n]]) where
  blocks := by simp [h.blocks, List.range_succ, hc]
  fits := List.forall_mem_append.mpr ⟨h.fits, List.forall_mem_singleton.mpr ⟨nofun, .inr ⟨n, rfl⟩⟩⟩
  closed := consecutive_concat.mpr ⟨h.closed, by simpa [ClosedBefore] using hlast⟩

/-- A block that fits joins the last group. -/
theorem join_group (h : GreedyPartition limit count n (gs ++ [bs])) (hc : 0 < count n)
    (hroom : groupTotal count bs + count n ≤ limit) : GreedyPartition limit count (n + 1) (gs ++ [bs ++ [n]]) := by
  obtain ⟨hgs, hbs⟩ := List.forall_mem_append.mp h.fits
  obtain ⟨hne, -⟩ := List.forall_mem_singleton.mp hbs
  obtain ⟨hclosed, hlast⟩ := consecutive_concat.mp h.closed
  refine ⟨?_, List.forall_mem_append.mpr ⟨hgs, List.forall_mem_singleton.mpr ⟨by simp, .inl ?_⟩⟩,
    consecutive_concat.mpr ⟨hclosed, ?_⟩⟩
  · have blocks := h.blocks
    rw [List.flatten_append, List.flatten_singleton] at blocks
    simp [List.range_succ, hc, ← blocks]
  · rwa [groupTotal_concat]
  · have hhead : (bs ++ [n]).head? = bs.head? := by
      cases bs with
      | nil => exact absurd rfl hne
      | cons b bs => rfl
    simpa only [ClosedBefore, hhead] using hlast

end GreedyPartition

/-! ### The walk -/

/-- R102: the walk has handled the blocks below `n`: its groups, the open one closed as it stands, are their greedy partition;
the open group's sum is within the limit, and without one the last group has room for no other block. -/
structure WalkHandled (limit : Nat) (count : Nat → Nat) (n : Nat) (w : Walk) : Prop where
  partition : GreedyPartition limit count n w.close.closed
  sum       : ∀ bs sum, w.opened = some (bs, sum) → sum = groupTotal count bs
  full      : w.opened = none → ∀ g ∈ w.closed.getLast?, limit < groupTotal count g

theorem Walk.close_none (h : w.opened = none) : w.close = w := by simp [Walk.close, h]

theorem Walk.close_some {sum : Nat} (h : w.opened = some (bs, sum)) : w.close = ⟨w.closed ++ [bs], none⟩ := by
  simp [Walk.close, h]

theorem Walk.close_opened (w : Walk) : w.close.opened = none := by
  unfold Walk.close
  split
  · rfl
  · assumption

/-- The walk closes its open group and opens one of the block. -/
theorem WalkHandled.opens (h : WalkHandled limit count n w) (hc : 0 < count n)
    (hlast : ∀ g ∈ w.close.closed.getLast?, limit < groupTotal count g + count n) :
    WalkHandled limit count (n + 1) ⟨w.close.closed, some ([n], count n)⟩ where
  partition := h.partition.begin_group hc hlast
  sum := by rintro _ _ ⟨⟩; exact (groupTotal_singleton count n).symm
  full := nofun

/-- R102: handling a block keeps the walk's groups greedy, branch by branch. -/
theorem WalkHandled.block (h : WalkHandled limit count n w) :
    WalkHandled limit count (n + 1) (w.block limit n (count n)) := by
  unfold Walk.block
  split
  case isTrue hc => exact ⟨h.partition.skip hc, h.sum, h.full⟩
  case isFalse hc =>
    have hc : 0 < count n := Nat.pos_of_ne_zero hc
    split
    case isTrue hbig =>
      have hlast : ∀ g ∈ w.close.closed.getLast?, limit < groupTotal count g + count n := fun _ _ => by omega
      show WalkHandled limit count (n + 1) ⟨w.close.closed ++ [[n]], w.close.opened⟩
      rw [w.close_opened]
      exact ⟨h.partition.begin_group hc hlast, nofun, by simpa [groupTotal_singleton] using hbig⟩
    case isFalse hbig =>
      split
      case h_1 hw =>
        have opens := h.opens hc fun g hg => by
          rw [Walk.close_none hw] at hg
          exact Nat.lt_add_right _ (h.full hw g hg)
        rwa [Walk.close_none hw] at opens
      case h_2 bs sum hw =>
        have hpart := h.partition
        rw [Walk.close_some hw] at hpart
        obtain rfl := h.sum bs sum hw
        split
        case isTrue hroom =>
          exact ⟨hpart.join_group hc hroom, by rintro _ _ ⟨⟩; exact (groupTotal_concat count bs n).symm, nofun⟩
        case isFalse hfull =>
          exact h.opens hc (by simpa [Walk.close_some hw] using hfull)

theorem walkHandled_range (limit : Nat) (count : Nat → Nat) (n : Nat) :
    WalkHandled limit count n ((List.range n).foldl (fun w b => w.block limit b (count b)) ⟨[], none⟩) := by
  induction n with
  | zero => exact ⟨.nil, nofun, fun _ => nofun⟩
  | succ n ih => simpa [List.range_succ] using ih.block

/-- R102: the blocks with their counts, in index order. -/
theorem zipIdx_eq_map_range (counts : List Nat) :
    counts.zipIdx = (List.range counts.length).map fun b => (counts.getD b 0, b) :=
  List.ext_getElem (by simp) fun i hi _ => by
    rw [List.length_zipIdx] at hi
    simp [hi]

/-- R102: the firing groups are the greedy partition of all blocks. -/
theorem firingGroups_greedy (limit : Nat) (counts : List Nat) :
    GreedyPartition limit (counts.getD · 0) counts.length (firingGroups limit counts) := by
  have handled := (walkHandled_range limit (counts.getD · 0) counts.length).partition
  rwa [firingGroups, zipIdx_eq_map_range, List.foldl_map]

/-- Settles O30, by the greedy partition that the walk keeps block by block. -/
theorem firingGroupsPartitionTheBlocks : Obligations.FiringGroupsPartitionTheBlocks := by
  unfold Obligations.FiringGroupsPartitionTheBlocks
  refine ⟨fun v ohms budget ho hv => ⟨dotCurrent_mul_ge ho, dotCurrent_mul_lt ho, rfl, rfl, dotLimit_eq budget,
    dotLimit_mul_le (dotCurrent_pos ho hv)⟩, fun limit counts => ?_⟩
  have greedy := firingGroups_greedy limit counts
  refine ⟨greedy.blocks, greedy.fits, fun i g next b hg hnext => greedy.closed i g next hg hnext b⟩

end Sys2Proof.Machine
end

section
/-! PROOF. The slice count of a dot (R99, R100), and the energy and the times of a dot line (R92 to R97). -/

namespace Sys2Proof.Machine

variable {raster h1 h2 : Dots} {dead : List Nat} {d : Nat}

/-! ### Slice counts -/

/-- R100: the slices that dot `d` gains from its two neighbours. -/
def boostAround (raster : Dots) (dead : List Nat) (d : Nat) : Nat :=
  (if 0 < d then boostFrom raster dead (d - 1) else 0) + boostFrom raster dead (d + 1)

theorem boostFrom_dead (h : d ∈ dead ∧ raster.getLsbD d = true) : boostFrom raster dead d = 3 := by
  simp [boostFrom, h]

theorem boostFrom_none (h : ¬ (d ∈ dead ∧ raster.getLsbD d = true)) : boostFrom raster dead d = 0 := by
  simpa [boostFrom] using h

/-- There is no dot beyond the last one that could boost it. -/
theorem boostFrom_beyond (h : ¬ d < headDots) : boostFrom raster dead d = 0 :=
  boostFrom_none fun ⟨_, hd⟩ => h (BitVec.lt_of_getLsbD hd)

/-- R99: a history gives 7 to 10 slices. -/
theorem historyCount_bounds (a b : Bool) : 7 ≤ historyCount a b ∧ historyCount a b ≤ 10 := by
  cases a <;> cases b <;> decide

theorem sliceCount_blank (h : raster.getLsbD d = false) : sliceCount raster h1 h2 dead d = 0 := by simp [sliceCount, h]

theorem sliceCount_dead (h : d ∈ dead) : sliceCount raster h1 h2 dead d = 0 := by simp [sliceCount, h]

theorem sliceCount_printed (hr : raster.getLsbD d = true) (hd : d ∉ dead) :
    sliceCount raster h1 h2 dead d =
      min 13 (historyCount (h1.getLsbD d) (h2.getLsbD d) + boostAround raster dead d) := by
  have right : (if d + 1 < headDots then boostFrom raster dead (d + 1) else 0) = boostFrom raster dead (d + 1) :=
    ite_eq_left_iff.mpr fun h => (boostFrom_beyond h).symm
  have left : (if d = 0 then 0 else boostFrom raster dead (d - 1)) =
      if 0 < d then boostFrom raster dead (d - 1) else 0 := by
    split <;> simp_all [Nat.pos_iff_ne_zero]
  simp only [sliceCount, boostAround, hr, hd, right, left, List.contains_eq_mem, Bool.not_true, decide_false, Bool.or_self,
    Bool.false_eq_true, if_false, Nat.add_assoc]

/-- R99, R100: no dot is heated for more than 13 slices. -/
theorem sliceCount_le (raster h1 h2 : Dots) (dead : List Nat) (d : Nat) : sliceCount raster h1 h2 dead d ≤ 13 := by
  unfold sliceCount
  split
  · exact Nat.zero_le 13
  · exact Nat.min_le_left _ _

/-- Settles O31, by the raster bit, the dead dots and the two neighbours. -/
theorem sliceCountsFollowHistoryAndDeadDots : Obligations.SliceCountsFollowHistoryAndDeadDots := by
  unfold Obligations.SliceCountsFollowHistoryAndDeadDots
  intro raster h1 h2 dead d n cold boosts
  refine ⟨sliceCount_le raster h1 h2 dead d, sliceCount_blank, sliceCount_dead, fun hr hd => ?_⟩
  have hn : n = min 13 (cold + boostAround raster dead d) := sliceCount_printed hr hd
  have hcold : 7 ≤ cold ∧ cold ≤ 10 := historyCount_bounds (h1.getLsbD d) (h2.getLsbD d)
  have left (h : 0 < d ∧ boosts (d - 1)) : (if 0 < d then boostFrom raster dead (d - 1) else 0) = 3 := by
    rw [if_pos h.1, boostFrom_dead h.2]
  have noLeft (h : ¬ (0 < d ∧ boosts (d - 1))) : (if 0 < d then boostFrom raster dead (d - 1) else 0) = 0 :=
    ite_eq_right_iff.mpr fun h0 => boostFrom_none fun hb => h ⟨h0, hb⟩
  refine ⟨fun hl hnext => ?_, fun hl hnext => ?_, fun hl hnext => ?_, fun hl hnext => ?_⟩
  · rw [boostAround, noLeft hl, boostFrom_none hnext] at hn
    omega
  · rw [boostAround, left hl, boostFrom_none hnext] at hn
    omega
  · rw [boostAround, noLeft hl, boostFrom_dead hnext] at hn
    omega
  · rw [boostAround, left hl, boostFrom_dead hnext] at hn
    omega

/-! ### Voltage, temperature and energy -/

theorem clamp_below {lo hi x : Nat} (h : x < lo) : clamp lo hi x = lo := by unfold clamp; omega

theorem clamp_above {lo hi x : Nat} (hlo : lo ≤ hi) (h : hi < x) : clamp lo hi x = hi := by unfold clamp; omega

theorem clamp_within {lo hi x : Nat} (h1 : lo ≤ x) (h2 : x ≤ hi) : clamp lo hi x = x := by unfold clamp; omega

/-- R95: over the range of the darkness E_base is 160 to 272 µJ. -/
theorem baseEnergy_bounds {darkness : Nat} (hd : darkness ≤ 7) :
    160 ≤ baseEnergy darkness ∧ baseEnergy darkness ≤ 272 := by
  unfold baseEnergy
  omega

theorem dotEnergy_bounds {darkness : Nat} {t : Int} (hd : darkness ≤ 7) (hlo : -10 ≤ t) (hhi : t ≤ 60) :
    104 ≤ dotEnergy darkness t ∧ dotEnergy darkness t ≤ 367 := by
  obtain ⟨hbase, hbase'⟩ := baseEnergy_bounds hd
  obtain ⟨hspan, hspan'⟩ : 65 ≤ (125 - t).toNat ∧ (125 - t).toNat ≤ 135 := by omega
  have hlow : 160 * 65 ≤ baseEnergy darkness * (125 - t).toNat := Nat.mul_le_mul hbase hspan
  have hhigh : baseEnergy darkness * (125 - t).toNat ≤ 272 * 135 := Nat.mul_le_mul hbase' hspan'
  unfold dotEnergy
  omega

theorem dotEnergy_cast {darkness : Nat} {t : Int} (h : t ≤ 60) :
    (dotEnergy darkness t : Int) = (baseEnergy darkness : Int) * (125 - t) / 100 := by
  have ht : ((125 - t).toNat : Int) = 125 - t := Int.toNat_of_nonneg (by omega)
  simp [dotEnergy, ht]

/-- R96: the full on-time at the bounds of the energy, the head resistance and the voltage. -/
theorem fullOnTime_bounds {e ohms v : Nat} (he : 104 ≤ e) (he' : e ≤ 367) (ho : 80 ≤ ohms) (ho' : ohms ≤ 200)
    (hv : 4800 ≤ v) (hv' : v ≤ 9600) : 90 ≤ fullOnTime e ohms v ∧ fullOnTime e ohms v ≤ 3185 := by
  have hpos : 0 < v := by omega
  have hlow : 104 * 80 * 1000000 / (9600 * 9600) ≤ fullOnTime e ohms v :=
    Nat.div_le_div (Nat.mul_le_mul_right _ (Nat.mul_le_mul he ho)) (Nat.mul_le_mul hv' hv') (Nat.ne_of_gt (Nat.mul_pos hpos hpos))
  have hhigh : fullOnTime e ohms v ≤ 367 * 200 * 1000000 / (4800 * 4800) :=
    Nat.div_le_div (Nat.mul_le_mul_right _ (Nat.mul_le_mul he' ho')) (Nat.mul_le_mul hv hv) (by decide)
  exact ⟨hlow, hhigh⟩

/-- Settles O32, rule by rule: the clamped readings, the energy, the full on-time, the slice length. -/
theorem burnEnergyAndOnTime : Obligations.BurnEnergyAndOnTime := by
  unfold Obligations.BurnEnergyAndOnTime
  refine ⟨fun v => ⟨clamp_below, clamp_above (by decide), clamp_within⟩, fun c => ?_, ⟨rfl, rfl⟩,
    fun d t hd hlo hhi => ?_, by decide, fun e ohms v => ⟨rfl, fullOnTime_bounds⟩, by decide,
    fun t => ⟨clamp_below, clamp_above (by decide), clamp_within⟩⟩
  · simp only [burnCelsius]
    omega
  · exact ⟨rfl, (baseEnergy_bounds hd).1, (baseEnergy_bounds hd).2, dotEnergy_cast hhi, dotEnergy_bounds hd hlo hhi⟩

end Sys2Proof.Machine
end

section
/-! PROOF. The Engine held and at rest: its last dot line, what holds it and what lets it go on, the timers, the paper sensor
and ClearHead (R106, R107, R110, R111, R114, R115, R117, R118, R123). -/

namespace Sys2Proof.Machine

variable {s x y t : State} {v : Nat} {r : Coincident} {job : Job} {rest : List Job} {evs : List PrintEvent}
  {h st old new : EngineState}

theorem recordPrint_keeps (evs : List PrintEvent) (x : State) : Keeps x (recordPrint evs x) := by constructor <;> simp

theorem recordFault_keeps (k : FaultKind) (d : FaultDetail) (x : State) : Keeps x (recordFault k d x) := by
  constructor <;> simp

theorem recordPrint_setLink (evs : List PrintEvent) (l : Link) (s : State) :
    recordPrint evs (s.setLink l) = (recordPrint evs s).setLink l := by
  simp only [recordPrint, setLink_ite]
  rfl

/-- What a step has recorded with its effect, settling cannot change either, with nothing for the Engine to start. -/
theorem Answers.of_recorded {c : Instr} (hx : exec c s = .next (settle s (some v) (recordPrint evs x)))
    (hn : NothingToStart x) : Answers c s x :=
  .of_settle_quiet hx (hn.of_keeps (recordPrint_keeps evs x)) (recordPrint_keeps evs x)

/-! ### A change of engine state -/

theorem coolDownAfter_idle (old : EngineState) (t : Timer) :
    coolDownAfter old .idle t = if old = .printing then .running 50 else t := by simp [coolDownAfter]

theorem coolDownAfter_other (ho : old ≠ .printing) (hn : new ≠ .printing) (t : Timer) : coolDownAfter old new t = t := by
  simp [coolDownAfter, ho, hn]

theorem EngineState.isHeld_ne (h : st.isHeld = true) : st ≠ .idle ∧ st ≠ .printing ∧ st ≠ .feeding := by
  cases st <;> simp_all [EngineState.isHeld]

theorem EngineState.isHeld_of_halted (h : st = .halted) : st.isHeld = true := h ▸ rfl

theorem standing_isHeld {e : Engine} (hs : e.standing = some h) : h.isHeld = true := by
  rw [standing_eq] at hs
  (repeat' split at hs) <;> cases hs <;> rfl

/-- R111, R124: the Engine is held in a state, and the element patrol stops and measures nothing. -/
def heldIn (st : EngineState) (s : State) : State :=
  (s.setEngine { s.engine with state := st }).setHead { s.head with timer := .stopped, measuring := false }

/-- R114, R123: the Engine is IDLE with no dot line, and the element patrol starts. -/
def engineAtRest (s : State) : State :=
  (s.setEngine { s.engine with state := .idle, position := none, inFlight := false }).setHead { s.head with
    timer := if s.params.elementPatrol then .running 50 else .stopped, measuring := false }

/-- R107, R124: a held Engine whose held state changes heats nothing that would have to cool. -/
theorem setEngineState_held (hs : s.engine.state.isHeld = true) (hst : st.isHeld = true) :
    setEngineState st s = heldIn st s := by
  obtain ⟨-, hold, -⟩ := EngineState.isHeld_ne hs
  obtain ⟨hidle, hnew, -⟩ := EngineState.isHeld_ne hst
  rw [setEngineState, coolDownAfter_other hold hnew, patrolAfter, if_neg hidle]
  rfl

/-- R107, R114, R123: what the entry into IDLE leaves. -/
theorem engineIdle_eq (evs : List PrintEvent) (h : s.engine.state ≠ .idle) :
    engineIdle evs s = recordPrint (evs ++ [.idle]) ((engineAtRest s).setStrobe { s.strobe with
      coolDown := if s.engine.state = .printing then .running 50 else s.strobe.coolDown }) := by
  rw [← coolDownAfter_idle]
  simp only [engineIdle, setEngineState, patrolAfter, State.setEngine_engine, if_true, h, if_false]
  rfl

theorem engineIdle_of_held (evs : List PrintEvent) (h : s.engine.state.isHeld = true) :
    engineIdle evs s = recordPrint (evs ++ [.idle]) (engineAtRest s) := by
  obtain ⟨hidle, hprinting, -⟩ := EngineState.isHeld_ne h
  rw [engineIdle_eq evs hidle, if_neg hprinting]
  rfl

/-! ### The last dot line -/

/-- R79, R112: the dot line has fired, and there is no job left. -/
def jobsDone (s : State) : State :=
  ((lineFired s).setComp { s.comp with output := [] }).setEngine { (lineFired s).engine with position := none }

/-- R79, R112: the last job's last dot line has completed. -/
theorem advancePosition_last (ho : s.comp.output = [job]) (hk : job.lines ≤ s.engine.position.getD 0 + 1)
    (hf : s.comp.flushDue = false) : advancePosition (lineFired s) = jobsDone s := by
  have hc : (lineFired s).comp = s.comp := rfl
  have hp : (lineFired s).engine.position = s.engine.position := rfl
  simp [advancePosition, jobsDone, hc, ho, hp, Nat.not_lt.mpr hk, dueFlush, hf]

theorem completeLine_idles (hx : advancePosition (lineFired s) = x) (ho : x.comp.output = []) :
    completeLine v s = engineIdle [] x := by
  subst hx
  exact if_pos ho

/-- Settles O33: the job leaves the output queue, the history shifts, and the Engine enters IDLE. -/
theorem lastDotLineEndsInIdle : Obligations.LastDotLineEndsInIdle := by
  unfold Obligations.LastDotLineEndsInIdle
  intro v job s hh hi hs ho hk hf fired
  have run : exec (.dotLineComplete v) s = .next (settle s (some v) (completeLine v s)) := performWhen_runs _ _ hi hh
  have working : s.engine.state ≠ .idle := by rcases hs with hs | hs <;> simp [hs]
  rw [completeLine_idles (advancePosition_last ho hk hf) rfl, engineIdle_eq (s := jobsDone s) [] working] at run
  exact .of_recorded run (.inr rfl)

/-! ### What holds the Engine clears -/

/-- R110, R111: no condition and no halt holds the Engine any more, whatever the paper sensor reads. -/
structure HoldCleared (s : State) : Prop where
  haltDue   : s.engine.haltDue = false
  paperCond : s.engine.paperCond = false
  powerCond : s.engine.powerCond = false
  hotCond   : s.engine.hotCond = false
  power     : s.supply.power ≠ .critical
  therm     : isHot s.supply.therm = false

theorem HoldCleared.standing (h : HoldCleared s) : s.engine.standing = none := by
  simp [standing_eq, h.haltDue, h.paperCond, h.powerCond, h.hotCond]

theorem HoldCleared.setLink (h : HoldCleared s) (l : Link) : HoldCleared (s.setLink l) :=
  ⟨h.haltDue, h.paperCond, h.powerCond, h.hotCond, h.power, h.therm⟩

theorem HoldCleared.judged_present (h : HoldCleared s) (hp : s.engine.paper = true) :
    judgeConditions s.supply.power s.supply.therm s.engine = (s.engine, []) := by
  simp [judgeConditions, judgePaper, judgePowerCond, judgeHeat, hp, h.powerCond, h.power, h.therm]

theorem HoldCleared.judged_empty (h : HoldCleared s) (hp : s.engine.paper = false) :
    judgeConditions s.supply.power s.supply.therm s.engine = ({ s.engine with paperCond := true }, [.paperOut]) := by
  simp [judgeConditions, judgePaper, judgePowerCond, judgeHeat, hp, h.paperCond, h.powerCond, h.power, h.therm]

theorem startDotLine_runs_getD (hh : s.held = none) (hv : 5000 ≤ v) : startDotLine v job s =
    stepPaper (judgePower (measured v) (linePlanned v job (s.engine.position.getD 0) s)) :=
  startDotLine_runs (s := s.setEngine { s.engine with position := some (s.engine.position.getD 0) }) hh hv rfl

/-- R111, R112: in `t` the Engine has resumed from `s` with the dot line of `job` at its position. -/
structure Resumed (v : Nat) (job : Job) (s t : State) : Prop where
  held   : t.held = none
  engine : t.engine = { s.engine with
    state := job.working, inFlight := true, position := some (s.engine.position.getD 0),
    halfSteps := s.engine.halfSteps + 2 }
  output : t.comp.output = s.comp.output
  volts  : t.supply.volts = min v 12000

theorem Resumed.of_keeps (h : Resumed v job s x) (k : Keeps x t) : Resumed v job s t :=
  ⟨k.held.trans h.held, k.engine.trans h.engine, k.output.trans h.output, by rw [k.supply, h.volts]⟩

theorem Resumed.setLink (h : Resumed v job s x) (l : Link) : Resumed v job s (x.setLink l) :=
  ⟨h.held, h.engine, h.output, h.volts⟩

/-- A resumed Engine starts nothing more as the step settles. -/
theorem Resumed.settled (h : Resumed v job s x) (s0 : State) : Resumed v job s (settle s0 (some v) x) := by
  have working : x.engine.state = job.working := by rw [h.engine]
  rw [settle_quiet s0 v (.inl (working ▸ job_working_ne_idle job))]
  exact h.of_keeps (settle_keeps s0 x)

section Cleared

variable (hh : s.held = none) (hi : s.engine.state.isHeld = true)
include hh hi

theorem engineChanged_stands (hs : s.engine.standing = some h) :
    engineChanged v evs s = recordPrint evs (heldIn h s) := by
  simp [engineChanged, hh, hi, hs, setEngineState_held hi (standing_isHeld hs)]

variable (hc : HoldCleared s)
include hc

theorem engineChanged_boundary : engineChanged v evs s = atBoundary v evs s := by
  simp [engineChanged, hh, hi, hc.standing]

theorem engineChanged_resumes (hp : s.engine.paper = true) (ho : s.comp.output = job :: rest) (hv : 5000 ≤ v) :
    Resumed v job s (engineChanged v evs s) := by
  have standing : (judgeConditions s.supply.power s.supply.therm s.engine).1.standing = none := by
    rw [hc.judged_present hp, hc.standing]
  rw [engineChanged_boundary hh hi hc, atBoundary_starts v evs s standing ho, startDotLine_runs_getD (by simpa using hh) hv]
  constructor <;> simp [hh, hc.judged_present hp, setEngineState, linePlanned, stepPaper, measured]

/-- R114: without a job a held Engine that resumes enters IDLE (log entry 34). -/
theorem engineChanged_idles (hp : s.engine.paper = true) (ho : s.comp.output = []) :
    engineChanged v evs s = recordPrint (evs ++ [.idle]) (engineAtRest s) := by
  have idles : atBoundary v evs s = engineIdle (evs ++ []) s := by
    simp only [atBoundary, hc.judged_present hp, hc.standing, State.setEngine_comp, ho]
    rfl
  rw [engineChanged_boundary hh hi hc, idles, List.append_nil, engineIdle_of_held evs hi]

/-- R115: an empty reading at the moment of resuming holds the Engine again (log entry 41). -/
theorem engineChanged_paperOut (hp : s.engine.paper = false) : engineChanged v evs s = recordPrint (evs ++ [.paperOut])
    (heldIn .paperOut (s.setEngine { s.engine with paperCond := true })) := by
  have standing : (judgeConditions s.supply.power s.supply.therm s.engine).1.standing = some .paperOut := by
    simp [hc.judged_empty hp, standing_eq, hc.haltDue]
  rw [engineChanged_boundary hh hi hc, atBoundary_holds v evs s standing, hc.judged_empty hp,
    setEngineState_held (by simpa using hi) rfl]

end Cleared

theorem engineChanged_working (hh : s.held = none) (hi : s.engine.state.isHeld = false) :
    engineChanged v evs s = recordPrint evs s := by
  simp [engineChanged, hh, hi]

theorem engineHolds_working (hi : s.engine.state.isHeld = false) : engineHolds evs s = recordPrint evs s := by
  simp [engineHolds, hi]

theorem engineHolds_stands (hi : s.engine.state.isHeld = true) (hs : s.engine.standing = some h) :
    engineHolds evs s = recordPrint evs (heldIn h s) := by
  simp [engineHolds, hi, hs, setEngineState_held hi (standing_isHeld hs)]

/-! ### The paper sensor -/

theorem paperTimerAfter_eq (present : Bool) (e : Engine) : paperTimerAfter present e =
    if e.paperCond = false then e.paperTimer
    else if present = false then .stopped
    else if e.paperTimer = .stopped then .running 500 else e.paperTimer := by
  have restarts : (if e.paperTimer.isRunning then e.paperTimer else .running 500) =
      if e.paperTimer = .stopped then .running 500 else e.paperTimer := by cases e.paperTimer <;> rfl
  cases hc : e.paperCond with
  | false => simp [paperTimerAfter, hc]
  | true => cases present <;> simp [paperTimerAfter, hc, restarts]

/-- R115: the Engine with a new reading, judged when it is held, and the event of that. -/
def sensorJudged (present : Bool) (e : Engine) : Engine × List PrintEvent :=
  if e.state.isHeld then judgePaper { e with paper := present } else ({ e with paper := present }, [])

/-- R115: the state with a judged reading. -/
def sensorRead (present : Bool) (e : Engine) (s : State) : State :=
  s.setEngine { e with paperTimer := paperTimerAfter present e }

theorem paperReading_eq (present : Bool) (s : State) : paperReading present s =
    if (sensorJudged present s.engine).2 = [] then sensorRead present (sensorJudged present s.engine).1 s
    else engineHolds (sensorJudged present s.engine).2 (sensorRead present (sensorJudged present s.engine).1 s) := rfl

/-- R115: a reading that sets no paper condition acts on the paper-present timer alone. -/
theorem paperReading_seen {b : Bool} (h : s.engine.state.isHeld = false ∨ s.engine.paperCond = true ∨ b = true) :
    paperReading b s = s.setEngine { s.engine with paper := b, paperTimer := paperTimerAfter b s.engine } := by
  have judged : sensorJudged b s.engine = ({ s.engine with paper := b }, []) := by
    rcases h with h | h | h <;> simp [sensorJudged, h, judgePaper]
  rw [paperReading_eq, judged, if_pos rfl]
  rfl

/-- R115: a held Engine judges an empty reading. -/
theorem paperReading_empty (hi : s.engine.state.isHeld = true) (hc : s.engine.paperCond = false) :
    paperReading false s = engineHolds [.paperOut]
      (s.setEngine { s.engine with paper := false, paperCond := true, paperTimer := .stopped }) := by
  have judged : sensorJudged false s.engine = ({ s.engine with paper := false, paperCond := true }, [.paperOut]) := by
    simp [sensorJudged, hi, hc, judgePaper]
  rw [paperReading_eq, judged, if_neg nofun]
  rfl

/-- R115: the paper-present timer has ended. -/
def paperTimed (s : State) : State := s.setEngine { s.engine with paperCond := false, paperTimer := .stopped }

/-- No reading falls at the same moment. -/
theorem coincide_none (s : State) : coincide {} s = s := rfl

theorem coincide_present (hr : r = {} ∨ r = { paper := some true }) (hp : s.engine.paper = true ∨ r.paper = some true) :
    coincide r s = s.setEngine { s.engine with paper := true } := by
  rcases hr with rfl | rfl
  · rw [← hp.resolve_right nofun]
    rfl
  · rfl

/-! ### ClearHead -/

/-- R118: the halt is no longer due. -/
def haltCleared (s : State) : State := s.setEngine { s.engine with haltDue := false }

theorem clearHeadEffect_cool (hs : s.engine.state = .halted) (hc : isCool s.supply.therm = true) :
    clearHeadEffect v r s = replies .done [] (engineChanged v [.haltCleared] (coincide r (haltCleared s))) := by
  simp [clearHeadEffect, hs, hc, haltCleared]

section ClearHead

variable (ht : Turn (.clearHead ⟨v, r⟩) s)
include ht

/-- R118, R179: ClearHead, where its effect is `x` and gives the Engine nothing to start. -/
theorem clearHead_answers {o : ReplyCode}
    (hx : ∀ l, clearHeadEffect v r (s.setLink l) = replies o [] (recordPrint evs (x.setLink l))) (hl : x.link = s.link)
    (hh : x.held = none) (hn : NothingToStart x) :
    Answers (.clearHead ⟨v, r⟩) s (answered (.clearHead ⟨v, r⟩) o [] x) := by
  have kept := (recordPrint_keeps evs x).answered (.clearHead ⟨v, r⟩) o []
  have run := exec_requestVolts_answered (x := recordPrint evs x) ht rfl rfl
    (fun l => by rw [hx l, recordPrint_setLink]) (by simpa using hl) (by simpa using hh)
  have quiet : NothingToStart (answered (.clearHead ⟨v, r⟩) o [] x) := hn
  exact .of_settle_quiet run (quiet.of_keeps kept) kept

/-- R118: ClearHead that changes nothing of the Engine. -/
theorem clearHead_refused {o : ReplyCode} (hx : ∀ l, clearHeadEffect v r (s.setLink l) = replies o [] (s.setLink l))
    (hn : NothingToStart s) : Answers (.clearHead ⟨v, r⟩) s (answered (.clearHead ⟨v, r⟩) o [] s) :=
  clearHead_answers (evs := []) ht (fun l => by rw [hx l]; simp [recordPrint]) rfl ht.runs hn

end ClearHead

/-! ### ClearHead in HALTED with a cool head -/

section Cooled

variable (ht : Turn (.clearHead ⟨v, {}⟩) s) (hs : s.engine.state = .halted) (hc : isCool s.supply.therm = true)
include ht hs hc

/-- R111, R118: the paper condition still holds the Engine. -/
theorem clearHead_holds (hp : s.engine.paperCond = true) : Answers (.clearHead ⟨v, {}⟩) s
    (answered (.clearHead ⟨v, {}⟩) .done [] (heldIn .paperOut (haltCleared s))) := by
  have hi := EngineState.isHeld_of_halted hs
  have standing : (haltCleared s).engine.standing = some .paperOut := by simp [haltCleared, standing_eq, hp]
  refine clearHead_answers (evs := [.haltCleared]) ht (fun l => ?_) rfl ht.runs (.inl nofun)
  rw [clearHeadEffect_cool (s := s.setLink l) hs hc, coincide_none]
  exact congrArg _ (engineChanged_stands (s := (haltCleared s).setLink l) ht.runs hi standing)

variable (hclear : HoldCleared (haltCleared s)) (hp : s.engine.paper = true)
include hclear hp

/-- R111, R118: nothing holds the Engine any more, and there is no job. -/
theorem clearHead_idles (ho : s.comp.output = []) : Answers (.clearHead ⟨v, {}⟩) s
    (answered (.clearHead ⟨v, {}⟩) .done [] (engineAtRest (haltCleared s))) := by
  have hi := EngineState.isHeld_of_halted hs
  refine clearHead_answers (evs := [.haltCleared, .idle]) ht (fun l => ?_) rfl ht.runs (.inr ho)
  rw [clearHeadEffect_cool (s := s.setLink l) hs hc, coincide_none]
  exact congrArg _ (engineChanged_idles (s := (haltCleared s).setLink l) ht.runs hi (hclear.setLink l) hp ho)

/-- R111, R118: nothing holds the Engine any more, and its job goes on. -/
theorem clearHead_resumes (ho : s.comp.output = job :: rest) (hv : 5000 ≤ v) :
    ∃ t, exec (.clearHead ⟨v, {}⟩) s = .next t ∧ Resumed v job (haltCleared s) t := by
  have hi := EngineState.isHeld_of_halted hs
  let c : Request := ⟨0x12, []⟩
  obtain ⟨q, hq, -⟩ := standAtHead_eq c s
  let headed : State := s.setLink { s.link with queue := q }
  have resumed := engineChanged_resumes (evs := [.haltCleared]) (s := haltCleared headed) ht.runs hi
    (hclear.setLink headed.link) hp ho hv
  have run : exec (.clearHead ⟨v, {}⟩) s = .next (settle s (some v)
      (formReply c (clearHeadEffect v {} (standAtHead c s)).2 (clearHeadEffect v {} (standAtHead c s)).1)) :=
    request_inTurn (some v) _ _ _ ht.runs (ht.inTurn rfl)
  rw [hq, clearHeadEffect_cool (s := headed) hs hc, replies_state, coincide_none, formReply_queue _ resumed.held] at run
  obtain ⟨held, engine, output, volts⟩ := (resumed.setLink _).settled s
  exact ⟨_, run, held, engine, output, volts⟩

end Cooled

/-! ### What the commands answer -/

theorem exec_paperSensorReading {present : Bool} (hh : s.held = none) :
    exec (.paperSensorReading present) s = .next (settle s none (paperReading present s)) := perform_runs _ _ hh

/-- R111, R115: a held Engine whose sensor reads empty is held by the paper condition, or by a halt that is due. -/
theorem paperSensorReading_holds (hh : s.held = none) (hi : s.engine.state.isHeld = true) (hc : s.engine.paperCond = false) :
    Answers (.paperSensorReading false) s (heldIn (if s.engine.haltDue = true then .halted else .paperOut)
      (s.setEngine { s.engine with paper := false, paperCond := true, paperTimer := .stopped })) := by
  let emptied : State := s.setEngine { s.engine with paper := false, paperCond := true, paperTimer := .stopped }
  have standing : emptied.engine.standing = some (if s.engine.haltDue = true then .halted else .paperOut) := by
    simp only [emptied, standing_eq, State.setEngine_engine, if_true]
    split <;> rfl
  have run := exec_paperSensorReading (present := false) hh
  rw [paperReading_empty hi hc, engineHolds_stands (s := emptied) hi standing] at run
  exact .of_settle run (recordPrint_keeps _ _)

/-- R117: the hot timer has ended, and the halt is due. -/
def hotTimed (s : State) : State := s.setEngine { s.engine with hotTimer := .stopped, haltDue := true }

theorem hotTimerExpiry_answers (hh : s.held = none) (ht : s.engine.hotTimer ≠ .stopped)
    (hx : engineHolds [.halted] (hotTimed s) = recordPrint evs x) : Answers .hotTimerExpiry s x := by
  have run : exec .hotTimerExpiry s =
      .next (settle s none (recordFault .headShutdown {} (engineHolds [.halted] (hotTimed s)))) :=
    performWhen_runs _ _ ((Timer.isRunning_iff _).mpr ht) hh
  rw [hx] at run
  exact .of_settle run ((recordPrint_keeps _ _).trans (recordFault_keeps _ _ _))

section PaperPresent

variable (hh : s.held = none) (ht : s.engine.paperTimer ≠ .stopped)
include hh ht

theorem exec_paperPresentExpiry : exec (.paperPresentExpiry ⟨v, r⟩) s =
    .next (settle s (some v) (engineChanged v [.paperRestored] (coincide r (paperTimed s)))) :=
  performWhen_runs _ _ ((Timer.isRunning_iff _).mpr ht) hh

theorem paperPresentExpiry_answers
    (hx : engineChanged v [.paperRestored] (coincide r (paperTimed s)) = recordPrint evs x) (hn : NothingToStart x) :
    Answers (.paperPresentExpiry ⟨v, r⟩) s x := by
  have run := exec_paperPresentExpiry (v := v) (r := r) hh ht
  rw [hx] at run
  exact .of_recorded run hn

end PaperPresent

/-- Settles O36, timer by timer, and then the sensor's readings and ClearHead by what still holds the Engine. -/
theorem engineTimersSensorAndClearHead : Obligations.EngineTimersSensorAndClearHead := by
  unfold Obligations.EngineTimersSensorAndClearHead
  intro v b r s stopped idle clear resumes
  have resumed {c : Instr} {job : Job} {x : State} (h : ∃ t, exec c s = .next t ∧ Resumed v job x t)
      (hp : x.engine.position = s.engine.position) (hs : x.engine.halfSteps = s.engine.halfSteps)
      (hhalt : x.engine.haltDue = false) (hpaper : x.engine.paperCond = false) (ho : x.comp.output = s.comp.output) :
      resumes c job := by
    obtain ⟨t, run, ht⟩ := h
    exact ⟨t, run, ht.held, by rw [ht.engine], by rw [ht.engine], by rw [ht.engine, hp], ht.output.trans ho,
      by rw [ht.engine, hhalt], by rw [ht.engine, hpaper], by rw [ht.engine, hs], ht.volts⟩
  refine ⟨fun hh ht => ?_, fun hh h => ?_, fun hh hi hc => paperSensorReading_holds hh hi hc, fun hh ht => ?_,
    fun hh ht hi => hotTimerExpiry_answers hh ht (engineHolds_working hi),
    fun hh ht hi => hotTimerExpiry_answers hh ht (engineHolds_stands (s := hotTimed s) (h := .halted) hi rfl),
    fun ht => ?_⟩
  · exact .of_eq (performWhen_runs _ _ ((Timer.isRunning_iff _).mpr ht) hh)
  · have run := exec_paperSensorReading (present := b) hh
    rw [paperReading_seen h, paperTimerAfter_eq] at run
    exact .of_eq run
  · intro c timed
    refine ⟨?_, ?_, fun hhalt hclear => ?_⟩
    · rintro rfl hi hn
      exact paperPresentExpiry_answers hh ht (engineChanged_working (s := timed) hh hi) hn
    · rintro rfl hi hhalt
      have standing : timed.engine.standing = some .halted := by simp [timed, standing_eq, hhalt]
      exact paperPresentExpiry_answers hh ht (engineChanged_stands (s := timed) hh hi standing) (.inl nofun)
    · obtain ⟨hcond, hhot, hpower, htherm, hi⟩ := hclear
      let seen (p : Bool) : State := timed.setEngine { timed.engine with paper := p }
      have cleared (p : Bool) : HoldCleared (seen p) := ⟨hhalt, rfl, hcond, hhot, hpower, htherm⟩
      refine ⟨fun job rest hr hp ho hv => ?_, ?_, ?_⟩
      · have run := exec_paperPresentExpiry (v := v) (r := r) hh ht
        rw [coincide_present (s := paperTimed s) hr hp] at run
        have h := engineChanged_resumes (evs := [.paperRestored]) (s := seen true) hh hi (cleared true) rfl ho hv
        exact resumed ⟨_, run, h.settled s⟩ rfl rfl hhalt rfl rfl
      · rintro rfl hp ho
        exact paperPresentExpiry_answers hh ht (engineChanged_idles (s := timed) hh hi (cleared s.engine.paper) hp ho)
          (.inr ho)
      · rintro rfl
        exact paperPresentExpiry_answers hh ht (engineChanged_paperOut (s := seen false) hh hi (cleared false) rfl)
          (.inl nofun)
  · refine ⟨fun hs hn => ?_, fun hs hc => ?_, ?_⟩
    · exact clearHead_refused ht (fun l => if_neg hs) hn
    · exact clearHead_refused ht (fun l => by simp [clearHeadEffect, hs, hc]) (.inl (by simp [hs]))
    · rintro rfl hs hc cleared
      refine ⟨fun hp => clearHead_holds ht hs hc hp, fun hp hclear hpaper => ?_⟩
      obtain ⟨hcond, hhot, hpower, htherm, -⟩ := hclear
      have noHold : HoldCleared cleared := ⟨rfl, hp, hcond, hhot, hpower, htherm⟩
      exact ⟨fun job rest ho hv => resumed (clearHead_resumes ht hs hc noHold hpaper ho hv) rfl rfl rfl hp rfl,
        fun ho => clearHead_idles ht hs hc noHold hpaper ho⟩

end Sys2Proof.Machine
end

section
/-! PROOF. The Engine and the head at every step: a dot line is in flight only in a working Engine of a part that runs, each dead
mark lies in its head block, and no fault count exceeds the threshold (R111, R112, R123, R126, R129, R171). -/

namespace Sys2Proof.Machine

variable {s t x : State}

/-- Both invariants pass from `s` to `t`, each on its own. -/
structure KeepsLegal (s t : State) : Prop where
  engine : EngineLegal s → EngineLegal t
  head   : HeadLegal s → HeadLegal t

theorem KeepsLegal.refl (s : State) : KeepsLegal s s := ⟨id, id⟩

theorem KeepsLegal.trans (h : KeepsLegal s x) (k : KeepsLegal x t) : KeepsLegal s t :=
  ⟨k.engine ∘ h.engine, k.head ∘ h.head⟩

theorem EngineLegal.of_same (h : EngineLegal s) (same : t.held = s.held ∧ t.engine.state = s.engine.state ∧
    t.engine.inFlight = s.engine.inFlight) : EngineLegal t := by
  obtain ⟨hh, hs, hi⟩ := same
  exact ⟨by rw [hs, hi]; exact h.working, by rw [hh, hi]; exact h.held⟩

theorem HeadLegal.of_same (h : HeadLegal s)
    (same : t.head.records = s.head.records ∧ t.params.faultThreshold = s.params.faultThreshold) : HeadLegal t := by
  obtain ⟨hr, ht⟩ := same
  exact ⟨by rw [hr]; exact h.marks, by rw [hr, ht]; exact h.counts⟩

/-- R111: whatever becomes of the Engine, a dot line in flight finds it working in a part that runs. -/
theorem KeepsLegal.of_engine
    (same : t.head.records = s.head.records ∧ t.params.faultThreshold = s.params.faultThreshold)
    (line : EngineLegal s → t.engine.inFlight = true →
      t.held = none ∧ (t.engine.state = .printing ∨ t.engine.state = .feeding)) : KeepsLegal s t :=
  ⟨fun h => ⟨fun hi => (line h hi).2, fun hh => Bool.eq_false_iff.mpr fun hi => hh (line h hi).1⟩,
    (HeadLegal.of_same · same)⟩

/-- What touches nothing that the invariants speak of keeps them. -/
theorem KeepsLegal.of_same (same : t.held = s.held ∧ t.engine.state = s.engine.state ∧
    t.engine.inFlight = s.engine.inFlight ∧ t.head.records = s.head.records ∧
    t.params.faultThreshold = s.params.faultThreshold) : KeepsLegal s t := by
  obtain ⟨hh, hs, hi, hr, ht⟩ := same
  exact ⟨(EngineLegal.of_same · ⟨hh, hs, hi⟩), (HeadLegal.of_same · ⟨hr, ht⟩)⟩

theorem KeepsLegal.same (h : KeepsLegal s x) (same : t.held = x.held ∧ t.engine.state = x.engine.state ∧
    t.engine.inFlight = x.engine.inFlight ∧ t.head.records = x.head.records ∧
    t.params.faultThreshold = x.params.faultThreshold) : KeepsLegal s t := h.trans (.of_same same)

/-- A held or an IDLE Engine has no dot line in flight. -/
theorem EngineLegal.rests (h : EngineLegal s) (hs : s.engine.state.isHeld = true ∨ s.engine.state = .idle) :
    s.engine.inFlight = false := by
  refine Bool.eq_false_iff.mpr fun hi => ?_
  rcases h.working hi with hw | hw <;> simp [hw, EngineState.isHeld] at hs

/-! ### Reset -/

theorem nth_replicate_self {α : Type} {n : Nat} (x : α) (i : Nat) : nth (Vector.replicate n x) i x = x := by
  simp only [nth, Vector.getElem?_replicate]
  split <;> rfl

/-- R171, R172: a reset abandons the dot line in flight and clears the head map. -/
theorem resetPart_keepsLegal (c : ResetCause) (x : State) : KeepsLegal s (resetPart c x) := by
  have fresh (b : Nat) : nth (resetPart c x).head.records b {} = {} := nth_replicate_self (n := 8) ({} : HeadRecord) b
  exact ⟨fun _ => ⟨nofun, fun _ => rfl⟩, fun _ => ⟨fun b e h => by simp [fresh] at h, fun b => by simp [fresh]⟩⟩

/-! ### The Engine -/

@[simp] theorem setEngineState_records (st : EngineState) (s : State) :
    (setEngineState st s).head.records = s.head.records := by simp [setEngineState]

@[simp] theorem setEngineState_state (st : EngineState) (s : State) : (setEngineState st s).engine.state = st := rfl

@[simp] theorem engineIdle_inFlight (evs : List PrintEvent) (s : State) : (engineIdle evs s).engine.inFlight = false := by
  simp [engineIdle]

@[simp] theorem engineIdle_records (evs : List PrintEvent) (s : State) :
    (engineIdle evs s).head.records = s.head.records := by simp [engineIdle]

theorem job_working (job : Job) : job.working = .printing ∨ job.working = .feeding := by
  cases job with
  | text _ => exact .inl rfl
  | feed _ _ => exact .inr rfl

theorem snapMeasure_keepsLegal (v : Nat) (s : State) : KeepsLegal s (snapMeasure v s) := by
  unfold snapMeasure
  split
  · exact resetPart_keepsLegal _ _
  · exact .of_same (by simp)

theorem startDotLine_eq (v : Nat) (job : Job) (s : State) : startDotLine v job s =
    let x := snapMeasure (measured v) (linePlanned v job (s.engine.position.getD 0) s)
    if x.held.isSome then x else stepPaper x := rfl

/-- R111, R112: a dot line starts in a working Engine of a part that runs. -/
theorem startDotLine_keepsLegal (v : Nat) {job : Job} (hh : s.held = none) (hs : s.engine.state = job.working) :
    KeepsLegal s (startDotLine v job s) := by
  have planned : KeepsLegal s (linePlanned v job (s.engine.position.getD 0) s) :=
    .of_engine (by simp [linePlanned]) fun _ _ => ⟨hh, hs ▸ job_working job⟩
  have measured := planned.trans (snapMeasure_keepsLegal (measured v) _)
  rw [startDotLine_eq]
  dsimp only
  split
  · exact measured
  · exact measured.same (by simp)

/-- R110, R111: at a boundary no dot line is in flight, and one starts only as the Engine goes to work. -/
theorem atBoundary_keepsLegal (v : Nat) (evs : List PrintEvent) (hh : s.held = none)
    (hi : EngineLegal s → s.engine.inFlight = false) : KeepsLegal s (atBoundary v evs s) := by
  have judged := judgeConditions_fst s.supply.power s.supply.therm s.engine
  have changes (st : EngineState) (evs : List PrintEvent) : KeepsLegal s (recordPrint evs
      (setEngineState st (s.setEngine (judgeConditions s.supply.power s.supply.therm s.engine).1))) :=
    .of_engine (by simp) fun h hl => absurd hl (by simp [judged, hi h])
  unfold atBoundary
  dsimp only
  split
  · exact changes _ _
  · split
    · exact (changes _ _).trans (startDotLine_keepsLegal _ (by simpa using hh) (by simp))
    · exact .of_engine (by simp) (by simp)

theorem engineSettle_keepsLegal (v : Nat) (hh : s.held = none) : KeepsLegal s (engineSettle v s) := by
  unfold engineSettle
  split
  next hs =>
    have idle : s.engine.state = .idle := by simp_all
    have placed : KeepsLegal s (s.setEngine { s.engine with position := some 0 }) := .of_same (by simp)
    exact placed.trans (atBoundary_keepsLegal _ _ hh fun h => h.rests (.inr idle))
  · exact .refl s

/-- R111: a held Engine stands at a boundary. -/
theorem engineChanged_keepsLegal (v : Nat) (evs : List PrintEvent) (s : State) : KeepsLegal s (engineChanged v evs s) := by
  unfold engineChanged
  split
  · exact .refl s
  next hh =>
    have hh : s.held = none := by simpa using hh
    split
    next hs =>
      split
      · exact .of_engine (by simp) fun h hi => absurd hi (by simp [h.rests (.inl hs)])
      · exact atBoundary_keepsLegal _ _ hh fun h => h.rests (.inl hs)
    · exact .of_same (by simp)

theorem engineHolds_keepsLegal (evs : List PrintEvent) (s : State) : KeepsLegal s (engineHolds evs s) := by
  unfold engineHolds
  split
  next hs _ => exact .of_engine (by simp) fun h hi => absurd hi (by simp [h.rests (.inl hs)])
  · exact .of_same (by simp)

@[simp] theorem judgePaper_frame (e : Engine) :
    (judgePaper e).1.state = e.state ∧ (judgePaper e).1.inFlight = e.inFlight := by
  unfold judgePaper
  split <;> exact ⟨rfl, rfl⟩

@[simp] theorem judgePowerCond_frame (p : Power) (e : Engine) :
    (judgePowerCond p e).1.state = e.state ∧ (judgePowerCond p e).1.inFlight = e.inFlight := by
  unfold judgePowerCond
  (repeat' split) <;> exact ⟨rfl, rfl⟩

@[simp] theorem judgeHeat_frame (r : Therm) (e : Engine) :
    (judgeHeat r e).1.state = e.state ∧ (judgeHeat r e).1.inFlight = e.inFlight := by
  unfold judgeHeat
  split <;> exact ⟨rfl, rfl⟩

@[simp] theorem judgeCool_frame (r : Therm) (e : Engine) :
    (judgeCool r e).1.state = e.state ∧ (judgeCool r e).1.inFlight = e.inFlight := by
  unfold judgeCool
  split <;> exact ⟨rfl, rfl⟩

@[simp] theorem sensorJudged_frame (b : Bool) (e : Engine) :
    (sensorJudged b e).1.state = e.state ∧ (sensorJudged b e).1.inFlight = e.inFlight := by
  unfold sensorJudged
  split
  · exact judgePaper_frame _
  · exact ⟨rfl, rfl⟩

theorem paperReading_keepsLegal (b : Bool) (s : State) : KeepsLegal s (paperReading b s) := by
  have read : KeepsLegal s (sensorRead b (sensorJudged b s.engine).1 s) := .of_same (by simp [sensorRead])
  rw [paperReading_eq]
  split
  · exact read
  · exact read.trans (engineHolds_keepsLegal _ _)

theorem recordFault_keepsLegal (k : FaultKind) (d : FaultDetail) (s : State) : KeepsLegal s (recordFault k d s) :=
  .of_same (by simp)

theorem hotHalt_keepsLegal (s : State) : KeepsLegal s (hotHalt s) := by
  have timed : KeepsLegal s (hotTimed s) := .of_same (by simp [hotTimed])
  have halted := timed.trans (engineHolds_keepsLegal [.halted] _)
  exact halted.trans (recordFault_keepsLegal _ _ _)

/-- R112: the dot line in flight has completed before the Engine comes to its boundary. -/
theorem completeLine_keepsLegal (v : Nat) (hh : s.held = none) : KeepsLegal s (completeLine v s) := by
  have done : (advancePosition (lineFired s)).engine.inFlight = false := by simp [lineFired]
  have advanced : KeepsLegal s (advancePosition (lineFired s)) :=
    .of_engine (by simp [lineFired]) fun _ hi => absurd (done.symm.trans hi) nofun
  have unfolded : completeLine v s = if (advancePosition (lineFired s)).comp.output = [] then
      engineIdle [] (advancePosition (lineFired s)) else atBoundary v [] (advancePosition (lineFired s)) := rfl
  rw [unfolded]
  split
  · exact advanced.trans (.of_engine (by simp) (by simp))
  · exact advanced.trans (atBoundary_keepsLegal _ _ (by simpa [lineFired] using hh) fun _ => done)

/-! ### The supply -/

theorem supplyReading_keepsLegal (v : Nat) (r : Therm) (s : State) : KeepsLegal s (supplyReading v r s) := by
  unfold supplyReading
  dsimp only
  split
  · exact resetPart_keepsLegal _ _
  · exact .of_same (by simp)

theorem coincide_keepsLegal (r : Coincident) (s : State) : KeepsLegal s (coincide r s) := by
  have seen : KeepsLegal s (paperSeen r.paper s) := .of_same (by simp)
  unfold coincide
  dsimp only
  split
  · exact seen.trans (supplyReading_keepsLegal _ _ _)
  · exact seen

theorem powerCondition_keepsLegal (s : State) : KeepsLegal s (powerCondition s).1 := by
  unfold powerCondition
  split
  · exact .of_same (by simp)
  · exact .refl s

theorem heatCondition_keepsLegal (s : State) : KeepsLegal s (heatCondition s).1 := by
  unfold heatCondition
  dsimp only
  split <;> exact .of_same (by simp)

theorem measure_keepsLegal (v : Nat) (r : Therm) (snap : Nat) (paper : Option Bool) (s : State) :
    KeepsLegal s (measure v r snap paper s) := by
  have read := supplyReading_keepsLegal v r s
  have seen : KeepsLegal s (paperSeen paper (supplyReading v r s)) := read.same (by simp)
  have judged := (seen.trans (powerCondition_keepsLegal _)).trans (heatCondition_keepsLegal _)
  unfold measure engineMeasured
  dsimp only
  split
  · exact read
  split
  · exact judged
  · exact judged.trans (engineChanged_keepsLegal _ _ _)

/-- R171: a part held in reset has no dot line in flight, and stays so when a brownout takes the place of the reset's cause. -/
theorem measureHeld_keepsLegal (v : Nat) (r : Therm) (s : State) : KeepsLegal s (measureHeld v r s) := by
  unfold measureHeld
  dsimp only
  split
  next hs =>
    have held : s.held ≠ none := by
      intro hn
      simp [hn] at hs
    exact .of_engine (by simp) fun h hi => absurd hi (by simp [h.held held])
  · exact .of_same (by simp)

/-- R173: the released part has the Engine that reset has left. -/
theorem startPart_keepsLegal (c : ResetCause) (v : Nat) (r : Therm) (paper : Bool) (s : State) :
    KeepsLegal s (startPart c v r paper s) := by
  refine .of_engine (by simp [startPart]) fun h hi => ⟨by simp [startPart], ?_⟩
  have inFlight : s.engine.inFlight = true := by simpa [startPart] using hi
  simpa [startPart] using h.working inFlight

theorem settle_keepsLegal (s0 : State) (volts : Option Nat) (x : State) : KeepsLegal x (settle s0 volts x) := by
  have k := storeInputSettle_keeps s0 x
  have inputs : KeepsLegal x (idleTimerSettle s0 (ownerTimerSettle (arbitrate (echoSettle s0 (storeSettle x))))) :=
    .of_same (by simp)
  unfold settle
  split
  · exact .refl x
  next hh =>
    have hh : x.held = none := by simpa using hh
    cases volts with
    | none =>
      dsimp only
      split
      · exact inputs
      · exact inputs.same (by simp)
    | some v =>
      have engine := inputs.trans (engineSettle_keepsLegal v (k.held.trans hh))
      dsimp only
      split
      · exact engine
      · exact engine.same (by simp)

/-! ### Block records -/

/-- Section 8.2: one block record within the rules, as `HeadLegal` asks of each. -/
structure RecordLegal (threshold b : Nat) (r : HeadRecord) : Prop where
  mark  : ∀ e, r.mark = some e → e / 80 = b
  count : r.count ≤ threshold

theorem headLegal_iff : HeadLegal s ↔ ∀ b, RecordLegal s.params.faultThreshold b (nth s.head.records b {}) :=
  ⟨fun h b => ⟨h.marks b, h.counts b⟩, fun h => ⟨fun b => (h b).mark, fun b => (h b).count⟩⟩

/-- A record put in the place of another, where the table has the place. -/
theorem nth_put_cases {α : Type} {n : Nat} (v : Vector α n) (i j : Nat) (x d : α) :
    nth (put v i x) j d = nth v j d ∨ j = i ∧ nth (put v i x) j d = x := by
  by_cases hj : j = i
  · subst hj
    by_cases hn : j < n
    · exact .inr ⟨rfl, nth_put_self v x d hn⟩
    · exact .inl (by simp [nth, Nat.le_of_not_lt hn])
  · exact .inl (nth_put_ne v x d hj)

/-- What is done to each block record alike. -/
theorem nth_map_records (v : Vector HeadRecord 8) (f : HeadRecord → HeadRecord) (b : Nat) :
    nth (v.map f) b {} = f (nth v b {}) ∨ nth (v.map f) b {} = {} := by
  by_cases hb : b < 8
  · exact .inl (by simp [nth, hb])
  · exact .inr (by simp [nth, Nat.le_of_not_lt hb])

theorem recordLegal_empty (threshold b : Nat) : RecordLegal threshold b {} := ⟨nofun, Nat.zero_le _⟩

theorem HeadLegal.put {r : HeadRecord} {b : Nat} (h : HeadLegal s) (hr : RecordLegal s.params.faultThreshold b r)
    (same : t.head.records = put s.head.records b r ∧ t.params.faultThreshold = s.params.faultThreshold) : HeadLegal t := by
  obtain ⟨records, threshold⟩ := same
  refine headLegal_iff.mpr fun c => ?_
  rw [records, threshold]
  rcases nth_put_cases s.head.records b c r {} with hc | ⟨rfl, hc⟩ <;> rw [hc]
  · exact headLegal_iff.mp h c
  · exact hr

theorem headLegal_of_map {f : HeadRecord → HeadRecord}
    (hf : ∀ b, RecordLegal t.params.faultThreshold b (f (nth s.head.records b {})))
    (records : t.head.records = s.head.records.map f) : HeadLegal t := by
  refine headLegal_iff.mpr fun b => ?_
  rw [records]
  rcases nth_map_records s.head.records f b with hb | hb <;> rw [hb]
  · exact hf b
  · exact recordLegal_empty _ _

/-! ### The element patrol -/

/-- R127: the mark that a count at the threshold sets lies in the block of its element. -/
theorem atThreshold_headLegal {e : Nat} {r : HeadRecord} (h : HeadLegal s)
    (hr : RecordLegal s.params.faultThreshold (headBlock e) r) : HeadLegal (atThreshold e (headBlock e) r s) := by
  unfold atThreshold
  split
  · exact h.put (r := { r with mark := some e, count := 0 }) ⟨by rintro _ ⟨⟩; rfl, Nat.zero_le _⟩
      (by simp [setRecord, headBlock])
  split
  · exact h.put hr (by simp [setRecord])
  · exact h.put (r := { r with degraded := true }) ⟨hr.mark, hr.count⟩ (by simp [setRecord])

theorem failReading_headLegal (e : Nat) (h : HeadLegal s) : HeadLegal (failReading e s) := by
  have counted : RecordLegal s.params.faultThreshold (headBlock e)
      (countFailure s.params.faultThreshold (nth s.head.records (headBlock e) {})) :=
    ⟨h.marks (headBlock e), Nat.min_le_left _ _⟩
  unfold failReading
  dsimp only
  split
  · exact h
  split
  · exact atThreshold_headLegal h counted
  · exact h.put counted (by simp [setRecord])

/-- R128: the end of a full pass sets no mark and raises no count. -/
theorem RecordLegal.endPass {threshold b : Nat} {r : HeadRecord} (h : RecordLegal threshold b r) :
    RecordLegal threshold b r.endPass := by
  unfold HeadRecord.endPass
  split
  · exact ⟨h.mark, h.count⟩
  split
  · exact ⟨h.mark, Nat.le_trans (Nat.sub_le _ _) h.count⟩
  · exact ⟨h.mark, h.count⟩

theorem advancePatrol_headLegal (h : HeadLegal s) : HeadLegal (advancePatrol s) := by
  unfold advancePatrol
  split
  · exact h.of_same (by simp)
  · exact headLegal_of_map (f := HeadRecord.endPass) (fun b => (headLegal_iff.mp h b).endPass) rfl

theorem completeMeasurement_keepsLegal (m : Nat) (s : State) : KeepsLegal s (completeMeasurement m s) := by
  refine ⟨(EngineLegal.of_same · (by simp)), fun h => ?_⟩
  unfold completeMeasurement
  refine advancePatrol_headLegal ?_
  split
  · exact h.of_same (by simp)
  · exact failReading_headLegal _ (h.of_same (by simp))

/-! ### Requests about the head map -/

/-- R129: a mark is set only in its own block. -/
theorem setHeadMarkEffect_keepsLegal (b : Byte) (e : Half) (s : State) : KeepsLegal s (setHeadMarkEffect b e s).1 := by
  have placed (r : HeadRecord) (hr : RecordLegal s.params.faultThreshold b.toNat r) :
      KeepsLegal s (setRecord b.toNat r s) :=
    ⟨(EngineLegal.of_same · (by simp)), (HeadLegal.put · hr (by simp [setRecord]))⟩
  unfold setHeadMarkEffect
  split
  · exact .refl s
  split
  · exact placed _ (recordLegal_empty _ _)
  split
  next hb => exact placed _ ⟨by rintro _ ⟨⟩; exact hb, Nat.zero_le _⟩
  · exact .refl s

/-- R130: the head map is cleared. -/
theorem clearHeadMapEffect_keepsLegal (s : State) : KeepsLegal s (clearHeadMapEffect s).1 := by
  refine ⟨(EngineLegal.of_same · (by simp [clearHeadMapEffect])), fun _ => headLegal_iff.mpr fun b => ?_⟩
  show RecordLegal _ b (nth (Vector.replicate 8 {}) b {})
  rw [nth_replicate_self]
  exact recordLegal_empty _ _

/-! ### Parameters -/

/-- R181: only the element fault threshold's own id changes it. -/
theorem store_faultThreshold {p : Params} {k : Param} {r : Stored} {x : Nat} (hk : k ≠ .faultThreshold)
    (h : k.store x p = some r) : r.params.faultThreshold = p.faultThreshold := by
  cases k with
  | faultThreshold => exact absurd rfl hk
  | onThreshold | offThreshold | highWater | lowWater | lowThreshold | criticalThreshold => cases h; rfl
  | pauseCode | resumeCode | bitRate | parity | stopBits | defaultRoute | sendEndCode | reportMask =>
    obtain ⟨-, hr⟩ := storeListed_some h
    rw [hr]
  | qualifyTime | lossTime | connectTimeout | attenuation | breakLength | repeatDelay | repeatInterval
  | ownershipTimeout | tabInterval | formLength | idleFlush | darkness | headResistance | currentBudget
  | sectorThreshold | patrolInterval =>
    dsimp only [Param.store] at h
    obtain ⟨y, hr⟩ := storeNumeric_some h
    rw [hr]
  | routeBit | flowControl | composeEcho | autoWrap | autoLf | elementPatrol | takeReplaces =>
    dsimp only [Param.store] at h
    obtain ⟨y, hr⟩ := storeFlag_some h
    rw [hr]

theorem paramSet_records {k : Param} (hk : k ≠ .faultThreshold) (old : Params) (s : State) :
    (paramSet old k s).head.records = s.head.records := by
  unfold paramSet
  split
  case h_5 => exact absurd rfl hk
  all_goals simp

/-- R123: a new element fault threshold lowers the counts to it. -/
theorem lowerCounts_headLegal (h : HeadLegal s) (p : Params) : HeadLegal (lowerCounts (s.setParams p)) :=
  headLegal_of_map (fun b => ⟨h.marks b, Nat.min_le_right _ _⟩) rfl

theorem setParameterEffect_keepsLegal (id : Byte) (x : Half) (s : State) : KeepsLegal s (setParameterEffect id x s).1 := by
  unfold setParameterEffect
  split
  · exact .refl s
  next k _ =>
    split
    · exact .refl s
    split
    · exact .refl s
    next r hr =>
      refine ⟨(EngineLegal.of_same · (by simp)), fun h => ?_⟩
      by_cases hk : k = .faultThreshold
      · subst hk
        exact lowerCounts_headLegal h r.params
      · exact h.of_same ⟨paramSet_records hk _ _, by simp [store_faultThreshold hk hr]⟩

/-! ### Every command -/

/-- Settling keeps whatever a state has kept. -/
theorem settle_keepsLegalFrom (s : State) : SettleKeeps (KeepsLegal s) :=
  fun s0 volts x h => h.trans (settle_keepsLegal s0 volts x)

theorem request_keepsLegal {volts : Option Nat} {kind : Byte} {payload : List Byte} {effect : State → State × List Byte}
    (he : ∀ x, KeepsLegal x (effect x).1) : After (KeepsLegal s) (request volts kind payload effect s) :=
  (settle_keepsLegalFrom s).request (fun _ h => h.same (by simp)) (.refl s) fun x h => h.trans (he x)

theorem perform_keepsLegal {volts : Option Nat} {f : State → State} (h : KeepsLegal s (f s)) :
    After (KeepsLegal s) (perform volts f s) := (settle_keepsLegalFrom s).perform (.refl s) h

theorem performWhen_keepsLegal {p : Bool} {volts : Option Nat} {f : State → State} (h : KeepsLegal s (f s)) :
    After (KeepsLegal s) (performWhen p volts f s) := (settle_keepsLegalFrom s).performWhen (.refl s) fun _ => h

/-- A command whose event finds the part running. -/
theorem performWhen_keepsLegal_runs {p : Bool} {volts : Option Nat} {f : State → State}
    (h : s.held = none → KeepsLegal s (f s)) : After (KeepsLegal s) (performWhen p volts f s) := by
  intro t ht
  rcases performWhen_cases volts f ht with ⟨-, rfl⟩ | ⟨-, hh, rfl⟩
  · exact .refl _
  · exact (h hh).trans (settle_keepsLegal _ _ _)

theorem clearHeadEffect_keepsLegal (v : Nat) (r : Coincident) (s : State) : KeepsLegal s (clearHeadEffect v r s).1 := by
  have cleared : KeepsLegal s (haltCleared s) := .of_same (by simp [haltCleared])
  unfold clearHeadEffect
  split
  · split
    · exact (cleared.trans (coincide_keepsLegal r _)).trans (engineChanged_keepsLegal _ _ _)
    · exact .refl s
  · exact .refl s

theorem paperRestored_keepsLegal (v : Nat) (r : Coincident) (s : State) : KeepsLegal s (paperRestored v r s) := by
  have timed : KeepsLegal s (paperTimed s) := .of_same (by simp [paperTimed])
  exact (timed.trans (coincide_keepsLegal r _)).trans (engineChanged_keepsLegal _ _ _)

theorem execStoreReadBlock_keepsLegal (index : Half) (s : State) :
    After (KeepsLegal s) (execStoreReadBlock index s) := by
  unfold execStoreReadBlock
  refine perform_keepsLegal ?_
  split
  · unfold askLinkRead
    (repeat' split) <;> exact .of_same (by simp)
  · exact .of_same (by simp)

theorem execSupplyMeasurement_keepsLegal (v : Nat) (r : Therm) (m : Resumption) (s : State) :
    After (KeepsLegal s) (execSupplyMeasurement v r m s) := by
  unfold execSupplyMeasurement
  split
  · exact after_next (measureHeld_keepsLegal _ _ _)
  · exact perform_keepsLegal (measure_keepsLegal _ _ _ _ _)

theorem execStartUp_keepsLegal (v : Nat) (r : Therm) (paper : Bool) (s : State) :
    After (KeepsLegal s) (execStartUp v r paper s) := by
  unfold execStartUp
  split
  · exact after_next (.refl s)
  split
  · exact after_next ((startPart_keepsLegal _ _ _ _ _).trans (settle_keepsLegal _ _ _))
  · exact after_next (measureHeld_keepsLegal _ _ _)

theorem execUnknownRequest_keepsLegal (k : Byte) (p : List Byte) (s : State) :
    After (KeepsLegal s) (execUnknownRequest k p s) := by
  unfold execUnknownRequest
  split
  · exact after_next (.refl s)
  split
  · exact perform_keepsLegal (.of_same (by simp))
  · exact request_keepsLegal fun x => .refl x

/-- R180: when the reply to a Reset has gone, the reset takes hold. -/
theorem execLinkFrameSent_keepsLegal (s : State) : After (KeepsLegal s) (execLinkFrameSent s) := by
  unfold execLinkFrameSent
  split
  · refine perform_keepsLegal ?_
    unfold frameSent
    split
    · exact resetPart_keepsLegal _ _
    · exact .of_same (by simp)
  · exact after_next (.refl s)

theorem exec_keepsLegal (c : Instr) (s : State) : After (KeepsLegal s) (exec c s) := by
  cases c with
  -- The Engine and the head
  | dotLineComplete _ => exact performWhen_keepsLegal_runs (completeLine_keepsLegal _)
  | paperSensorReading _ => exact perform_keepsLegal (paperReading_keepsLegal _ s)
  | paperPresentExpiry _ => exact performWhen_keepsLegal (paperRestored_keepsLegal _ _ s)
  | hotTimerExpiry => exact performWhen_keepsLegal (hotHalt_keepsLegal s)
  | clearHead _ => exact request_keepsLegal (clearHeadEffect_keepsLegal _ _)
  | elementMeasurementComplete _ => exact performWhen_keepsLegal (completeMeasurement_keepsLegal _ s)
  | setHeadMark _ _ => exact request_keepsLegal (setHeadMarkEffect_keepsLegal _ _)
  | clearHeadMap => exact request_keepsLegal clearHeadMapEffect_keepsLegal
  | setParameter _ _ => exact request_keepsLegal (setParameterEffect_keepsLegal _ _)
  -- The supply, resets and the link
  | supplyMeasurement _ _ _ => exact execSupplyMeasurement_keepsLegal _ _ _ s
  | powerOn => exact after_next (resetPart_keepsLegal _ _)
  | startUp _ _ _ => exact execStartUp_keepsLegal _ _ _ s
  | linkFrameSent => exact execLinkFrameSent_keepsLegal s
  | unknownRequest _ _ => exact execUnknownRequest_keepsLegal _ _ s
  | storeReadBlock _ => exact execStoreReadBlock_keepsLegal _ s
  -- Events that touch neither the Engine nor the head's records
  | keyScan _ => exact perform_keepsLegal (.of_same (by simp))
  | linkByteReceived _ goodStop => cases goodStop <;> exact perform_keepsLegal (.of_same (by simp))
  | shiftStageEmpties => exact performWhen_keepsLegal (by dsimp only; split <;> exact .of_same (by simp))
  | breakWatchMark | autoRepeatExpiry =>
    simp only [exec, execBreakWatchMark, execAutoRepeatExpiry]
    split
    · exact perform_keepsLegal (.of_same (by simp))
    · exact after_next (.refl s)
  | printDeposit _ | composerTakeHead _ =>
    simp only [exec, execPrintDeposit, execComposerTakeHead]
    split
    · exact performWhen_keepsLegal (.of_same (by simp))
    · exact after_next (.refl s)
  | carrierMeasurement _ | qualifyTimeExpiry | connectTimeout | lossTimeExpiry | receiveCharacterComplete _
  | breakReceived | markWaitEnd | dispatchHead | textHeadDelivery | holdingStageRefill | breakSpaceEnd
  | breakMarkEnd | translateKeyHead _ | feedRepeatExpiry _ _ | beeperToneEnd _ | ownershipTimeout | idleFlushExpiry _
  | coolDownExpiry | elementPatrolExpiry | statusReadComplete _ | blockReadRetry | blockReadComplete _ | writeCompareMismatch
  | blockWriteAttemptComplete _ | storePatrolExpiry | gapTimeout | candidateStartBit | falseStart =>
    exact performWhen_keepsLegal (.of_same (by simp))
  -- Requests that touch neither the Engine nor the head's records
  | connect _ | drop | transmitText _ | sendBreak | setAnswerback _ | setKeymapEntry _ _ _ | setKeyboardMode _ | lockKeyboard _
  | readKeys | printText _ | paperFeed _ _ | readHeadMap | delete _ | formatStore | remount | storeInfo | docList | docInfo _
  | send _ | stopSend | reprint _ _ | stopReprint | composeStart _ _ | composeEnd | reset | identify | getStatus _
  | getParameter _ | readFaults | clearFaults =>
    refine request_keepsLegal fun x => ?_
    simp only [connectEffect, dropEffect, transmitTextEffect, sendBreakEffect, setAnswerbackEffect, setKeymapEntryEffect,
      setKeyboardModeEffect, lockKeyboardEffect, readKeysEffect, printTextEffect, paperFeedEffect, readHeadMapEffect,
      deleteEffect, formatStoreEffect, remountEffect, storeInfoEffect, docListEffect, docInfoEffect, sendEffect,
      stopSendEffect, reprintEffect, stopReprintEffect, composeStartEffect, composeEndEffect, resetEffect, identifyEffect,
      getStatusEffect, getParameterEffect, readFaultsEffect, clearFaultsEffect]
    (repeat' split) <;> exact .of_same (by simp)

/-- Settles O58: every operation keeps each of the two invariants, and a reset makes them hold. -/
theorem everyStepKeepsTheEngineAndHeadLegal : Obligations.EveryStepKeepsTheEngineAndHeadLegal := by
  unfold Obligations.EveryStepKeepsTheEngineAndHeadLegal
  have keeps (s t : State) (ht : step s = .next t) : KeepsLegal s t :=
    step_keeps (fun _ _ h => h.same (by simp)) (fun c _ h _ hx => h.trans (exec_keepsLegal c _ _ hx)) (.refl s) t ht
  exact ⟨fun s t h ht => (keeps s t ht).engine h, fun s t h ht => (keeps s t ht).head h⟩

end Sys2Proof.Machine
end

section
/-! PROOF. The Engine at a boundary at which something stands (R110, R111). -/

namespace Sys2Proof.Machine

variable {s : State} {v : Nat} {evs : List PrintEvent} {h : EngineState}

/-- R110, R111: what stands after the conditions are judged at a boundary. -/
theorem judged_standing (p : Power) (r : Therm) (e : Engine) : (judgeConditions p r e).1.standing =
    if e.haltDue then some .halted else if !e.paper || e.paperCond then some .paperOut
      else if p = .critical then some .powerHold else if isHot r || e.hotCond then some .hotHold else none := by
  obtain ⟨halt, paper, power, hot, -⟩ := judgeConditions_fst p r e
  simp [standing_eq, halt, paper, power, hot]

theorem judged_standing_none {p : Power} {r : Therm} {e : Engine} : (judgeConditions p r e).1.standing = none ↔
    e.haltDue = false ∧ e.paper = true ∧ e.paperCond = false ∧ p ≠ .critical ∧ isHot r = false ∧ e.hotCond = false := by
  rw [judged_standing]
  grind

/-- R111: a boundary at which something stands starts no dot line and leaves what it prints from as it is. -/
theorem atBoundary_held (hs : (judgeConditions s.supply.power s.supply.therm s.engine).1.standing = some h) :
    let t := atBoundary v evs s
    t.engine.state = h ∧ t.engine.inFlight = s.engine.inFlight ∧ t.engine.position = s.engine.position ∧
    t.strobe.plan = s.strobe.plan ∧ t.comp = s.comp ∧ t.supply = s.supply ∧ t.mem = s.mem := by
  have judged := judgeConditions_fst s.supply.power s.supply.therm s.engine
  rw [atBoundary_holds v evs s hs]
  simp [judged, setEngineState]

/-- Settles O35: what stands is the first line that applies, in the order of the rule. -/
theorem boundaryTakesTheFirstStanding : Obligations.BoundaryTakesTheFirstStanding := by
  unfold Obligations.BoundaryTakesTheFirstStanding
  intro v evs s t e
  have takes {h : EngineState} (hs : (judgeConditions s.supply.power s.supply.therm s.engine).1.standing = some h) :
      t.engine.state = h := (atBoundary_held hs).1
  have standing := judged_standing s.supply.power s.supply.therm s.engine
  refine ⟨fun (halt : s.engine.haltDue = true) => takes ?_,
    fun (halt : s.engine.haltDue = false) (paper : s.engine.paper = false ∨ s.engine.paperCond = true) => takes ?_,
    fun (halt : s.engine.haltDue = false) (paper : s.engine.paper = true) (cond : s.engine.paperCond = false) power =>
      takes ?_,
    fun (halt : s.engine.haltDue = false) (paper : s.engine.paper = true) (cond : s.engine.paperCond = false) power
      (hot : isHot s.supply.therm = true ∨ s.engine.hotCond = true) => takes ?_, fun holds => ?_⟩
  · rw [standing, if_pos halt]
  · rw [standing, if_neg (by simp [halt]), if_pos (by simpa using paper)]
  · rw [standing, if_neg (by simp [halt]), if_neg (by simp [paper, cond]), if_pos power]
  · rw [standing, if_neg (by simp [halt]), if_neg (by simp [paper, cond]), if_neg power, if_pos (by simpa using hot)]
  · cases hs : (judgeConditions s.supply.power s.supply.therm s.engine).1.standing with
    | some h => exact (atBoundary_held hs).2
    | none =>
      obtain ⟨halt, paper, cond, power, therm, hot⟩ := judged_standing_none.mp hs
      simp [e, halt, paper, cond, power, therm, hot] at holds

end Sys2Proof.Machine
end

section
/-! PROOF. A periodic measurement (R110, R111, R117, R119, R120, R169 to R171): the readings, what of the Engine they judge, and
what a held Engine makes of a change. -/

namespace Sys2Proof.Machine

variable {s x z : State} {v w : Nat} {r : Therm} {p : Power} {paper : Option Bool} {evs : List PrintEvent} {e : Engine}
  {h : EngineState}

/-! ### The readings -/

/-- R170: the power states by their thresholds, with 200 mV to pass on the way up. -/
theorem nextPower_cases (p : Power) {l c : Nat} (v : Nat) (hcl : c + 200 ≤ l) :
    (p = .normal → nextPower p l c v = if v < c then .critical else if v < l then .low else .normal) ∧
    (p = .low → nextPower p l c v = if v < c then .critical else if l + 200 ≤ v then .normal else .low) ∧
    (p = .critical →
      nextPower p l c v = if v < c + 200 then .critical else if v < l + 200 then .low else .normal) := by
  refine ⟨by rintro rfl; rfl, by rintro rfl; rfl, ?_⟩
  rintro rfl
  by_cases hc : v < c + 200
  · rw [nextPower, if_pos hc, if_neg (by omega), if_neg (by omega)]
  by_cases hl : v < l + 200
  · rw [nextPower, if_neg hc, if_pos hl, if_neg (by omega), if_pos (by omega)]
  · rw [nextPower, if_neg hc, if_neg hl, if_pos (by omega)]

theorem Keeps.setEngine (k : Keeps x z) (e : Engine) : Keeps (x.setEngine e) (z.setEngine e) := { k with engine := rfl }

theorem Keeps.setHead (k : Keeps x z) (c : HeadCheck) : Keeps (x.setHead c) (z.setHead c) := { k with head := rfl }

theorem recordPower_keeps (x : State) : Keeps x (recordPower x) := by constructor <;> simp

/-- R169, R170: the latest readings, and the power state after them. -/
def readingsTaken (v : Nat) (r : Therm) (s : State) : State :=
  s.setSupply ⟨v, r, nextPower s.supply.power s.params.lowThreshold s.params.criticalThreshold v⟩

theorem judgePower_keeps (v : Nat) (r : Therm) (s : State) :
    Keeps (readingsTaken v r s) (judgePower v (s.setSupply { s.supply with volts := v, therm := r })) := by
  unfold judgePower
  dsimp only
  split
  next same => exact { Keeps.refl _ with supply := by simpa [readingsTaken] using same.symm }
  · exact recordPower_keeps _

/-- R119: the thermistor fault flag follows the reading. -/
theorem thermFlag_keeps (s : State) :
    Keeps (s.setEngine { s.engine with thermFault := isFailed s.supply.therm }) (thermFlag s) := by
  unfold thermFlag
  dsimp only
  split <;> constructor <;> simp

theorem supplyReading_keeps (h5 : 5000 ≤ v) (h12 : v ≤ 12000) (r : Therm) (s : State) :
    Keeps ((readingsTaken v r s).setEngine { s.engine with thermFault := isFailed r }) (supplyReading v r s) := by
  have judged := judgePower_keeps v r s
  have flag := thermFlag_keeps (judgePower v (s.setSupply { s.supply with volts := v, therm := r }))
  rw [judged.engine, judged.supply] at flag
  have unfolded : supplyReading v r s = thermFlag (judgePower v (s.setSupply { s.supply with volts := v, therm := r })) := by
    simp [supplyReading, measured, Nat.min_eq_left h12, brownoutLevel, Nat.not_lt.mpr h5]
  exact unfolded ▸ (judged.setEngine { s.engine with thermFault := isFailed r }).trans flag

/-- R171: a reading below the brownout level resets the part. -/
theorem supplyReading_brownout (h5 : v < 5000) (r : Therm) (s : State) : supplyReading v r s =
    resetPart .brownout (s.setSupply { s.supply with volts := v, therm := r }) := by
  have h12 : v ≤ 12000 := by omega
  simp [supplyReading, measured, Nat.min_eq_left h12, brownoutLevel, h5]

/-! ### What a measurement judges -/

/-- R120: the power condition judged while the Engine is held, and in IDLE when the power is back. -/
def powerJudged (p : Power) (e : Engine) : Engine × List PrintEvent :=
  if e.state.isHeld || (e.state = .idle && p ≠ .critical) then judgePowerCond p e else (e, [])

/-- R117: the hot condition judged: heat while the Engine is held, cooling in any state. -/
def heatJudged (r : Therm) (e : Engine) : Engine × List PrintEvent :=
  let hot := if e.state.isHeld then judgeHeat r e else (e, [])
  let cool := judgeCool r hot.1
  (cool.1, hot.2 ++ cool.2)

/-- R110, R117, R119, R120: the Engine with the readings of a measurement judged, and the events of the changes. -/
def measurementJudged (p : Power) (r : Therm) (paper : Option Bool) (e : Engine) : Engine × List PrintEvent :=
  let power := powerJudged p { e with thermFault := isFailed r, paper := paper.getD e.paper }
  let heat := heatJudged r power.1
  (heat.1, power.2 ++ heat.2)

theorem powerCondition_eq (s : State) : powerCondition s =
    (s.setEngine (powerJudged s.supply.power s.engine).1, (powerJudged s.supply.power s.engine).2) := by
  unfold powerCondition powerJudged
  split <;> rfl

theorem heatCondition_eq (s : State) : heatCondition s =
    (s.setEngine (heatJudged s.supply.therm s.engine).1, (heatJudged s.supply.therm s.engine).2) := rfl

theorem paperSeen_eq (paper : Option Bool) (s : State) :
    paperSeen paper s = s.setEngine { s.engine with paper := paper.getD s.engine.paper } := by
  cases paper <;> rfl

/-- R110, R111, R169: a measurement that is no brownout is what the Engine makes of its judgement. -/
theorem measure_eq (hh : s.held = none) (h5 : 5000 ≤ v) (h12 : v ≤ 12000) :
    let j := measurementJudged (readingsTaken v r s).supply.power r paper s.engine
    measure v r w paper s = engineMeasured w j.2 ((supplyReading v r s).setEngine j.1) := by
  have k := supplyReading_keeps h5 h12 r s
  have runs : ¬ (supplyReading v r s).held.isSome := by simp [k.held, readingsTaken, hh]
  unfold measure
  dsimp only
  rw [if_neg runs, powerCondition_eq, heatCondition_eq, paperSeen_eq]
  simp [measurementJudged, k.engine, k.supply, readingsTaken, State.setEngine]

/-! ### The conditions it leaves -/

theorem judgePowerCond_eq (p : Power) (e : Engine) :
    (judgePowerCond p e).1 = { e with powerCond := decide (p = .critical) } ∧
    ((judgePowerCond p e).2 = [] ↔ decide (p = .critical) = e.powerCond) := by
  cases e with | mk _ _ _ _ cond _ _ _ _ _ _ _ => cases p <;> cases cond <;> simp [judgePowerCond]

theorem judgeHeat_eq (r : Therm) (e : Engine) :
    (judgeHeat r e).1 = { e with
      hotCond := isHot r || e.hotCond
      hotTimer := if isHot r && !e.hotCond then .running 30 else e.hotTimer } ∧
    ((judgeHeat r e).2 = [] ↔ (isHot r || e.hotCond) = e.hotCond) := by
  cases e with | mk _ _ _ _ _ cond _ _ _ _ _ _ => cases hr : isHot r <;> cases cond <;> simp [judgeHeat, hr]

theorem judgeCool_eq (r : Therm) (e : Engine) :
    (judgeCool r e).1 = { e with
      hotCond := if isCool r then false else e.hotCond
      hotTimer := if isCool r && e.hotCond then .stopped else e.hotTimer } ∧
    ((judgeCool r e).2 = [] ↔ (if isCool r then false else e.hotCond) = e.hotCond) := by
  cases e with | mk _ _ _ _ _ cond _ _ _ _ _ _ => cases hr : isCool r <;> cases cond <;> simp [judgeCool, hr]

theorem powerJudged_working (hs : e.state = .printing ∨ e.state = .feeding) : powerJudged p e = (e, []) := by
  rcases hs with hs | hs <;> exact if_neg (by simp [hs, EngineState.isHeld])

theorem powerJudged_idle (hs : e.state = .idle) :
    (powerJudged p e).1 = { e with powerCond := if p = .critical then e.powerCond else false } := by
  by_cases hp : p = .critical
  · have kept : powerJudged p e = (e, []) := if_neg (by simp [hs, hp, EngineState.isHeld])
    rw [kept, if_pos hp]
  · have judged : powerJudged p e = judgePowerCond p e := if_pos (by simp [hs, hp])
    rw [judged, (judgePowerCond_eq p e).1, if_neg hp, decide_eq_false hp]

theorem powerJudged_held (hi : e.state.isHeld = true) : powerJudged p e = judgePowerCond p e := if_pos (by simp [hi])

theorem heatJudged_working (hi : e.state.isHeld = false) : heatJudged r e = judgeCool r e := by
  simp [heatJudged, hi]

theorem isHot_of_isCool (hc : isCool r = true) : isHot r = false := by
  cases r with
  | temp c =>
    simp only [isCool, isHot, decide_eq_true_eq, decide_eq_false_iff_not] at hc ⊢
    omega
  | openCircuit | shorted => rfl

/-- R117: a held Engine's hot condition after a reading, which is never both hot and cool. -/
theorem heatJudged_held (hi : e.state.isHeld = true) :
    (heatJudged r e).1 = { e with
      hotCond := if isCool r then false else isHot r || e.hotCond
      hotTimer := if isCool r && e.hotCond then .stopped else if isHot r && !e.hotCond then .running 30 else e.hotTimer } ∧
    ((heatJudged r e).2 = [] ↔ (if isCool r then false else isHot r || e.hotCond) = e.hotCond) := by
  cases hc : isCool r with
  | true =>
    have noHeat : judgeHeat r e = (e, []) := by simp [judgeHeat, isHot_of_isCool hc]
    simp [heatJudged, hi, noHeat, judgeCool_eq, hc, isHot_of_isCool hc]
  | false =>
    have noCooling (e : Engine) : judgeCool r e = (e, []) := by simp [judgeCool, hc]
    simp [heatJudged, hi, noCooling, judgeHeat_eq]

/-- R110, R117, R119, R120: the held Engine with the readings of a measurement judged. -/
def heldJudged (p : Power) (r : Therm) (paper : Option Bool) (e : Engine) : Engine := { e with
  thermFault := isFailed r
  paper := paper.getD e.paper
  powerCond := decide (p = .critical)
  hotCond := if isCool r then false else isHot r || e.hotCond
  hotTimer := if isCool r && e.hotCond then .stopped else if isHot r && !e.hotCond then .running 30 else e.hotTimer }

/-- The events of a held Engine's judgement are those of a condition that changes. -/
theorem measurementJudged_held (hi : e.state.isHeld = true) :
    (measurementJudged p r paper e).1 = heldJudged p r paper e ∧
    ((measurementJudged p r paper e).2 = [] ↔ (heldJudged p r paper e).powerCond = e.powerCond ∧
      (heldJudged p r paper e).hotCond = e.hotCond) := by
  have power (x : Engine) (hx : x.state = e.state) : powerJudged p x = judgePowerCond p x := powerJudged_held (by rw [hx, hi])
  have heat (x : Engine) (hx : x.state = e.state) := heatJudged_held (r := r) (e := x) (by rw [hx, hi])
  simp [measurementJudged, power, heat, judgePowerCond_eq, heldJudged]

/-- R117, R119: what a measurement judges of a working Engine. -/
theorem measurementJudged_working (hs : e.state = .printing ∨ e.state = .feeding) :
    (measurementJudged p r paper e).1 = { e with
      thermFault := isFailed r
      paper := paper.getD e.paper
      hotCond := if isCool r then false else e.hotCond
      hotTimer := if isCool r && e.hotCond then .stopped else e.hotTimer } := by
  have hi : e.state.isHeld = false := by rcases hs with hs | hs <;> rw [hs] <;> rfl
  simp [measurementJudged, powerJudged_working, hs, heatJudged_working, hi, judgeCool_eq]

/-- R117, R119, R120: what a measurement judges of an IDLE Engine. -/
theorem measurementJudged_idle (hs : e.state = .idle) :
    (measurementJudged p r paper e).1 = { e with
      thermFault := isFailed r
      paper := paper.getD e.paper
      powerCond := if p = .critical then e.powerCond else false
      hotCond := if isCool r then false else e.hotCond
      hotTimer := if isCool r && e.hotCond then .stopped else e.hotTimer } := by
  have power (x : Engine) (hx : x.state = e.state) := powerJudged_idle (p := p) (e := x) (hx.trans hs)
  have heat (x : Engine) (hx : x.state = e.state) : heatJudged r x = judgeCool r x :=
    heatJudged_working (by rw [hx, hs]; rfl)
  simp [measurementJudged, power, heat, judgeCool_eq]

/-! ### What the Engine makes of it -/

/-- R110: an Engine that is not held only records what a measurement changes. -/
theorem engineMeasured_working (hh : z.held = none) (hi : z.engine.state.isHeld = false) :
    Keeps z (engineMeasured w evs z) := by
  unfold engineMeasured
  split
  · exact .refl z
  · rw [engineChanged_working hh hi]
    exact recordPrint_keeps evs z

/-- What a step has recorded with an effect that agrees with `x`. -/
theorem Answers.of_recorded_keeps {c : Instr} (hx : exec c s = .next (settle s (some w) (recordPrint evs z)))
    (k : Keeps x z) (hn : NothingToStart x) : Answers c s x :=
  have kept := k.trans (recordPrint_keeps evs z)
  .of_settle_quiet hx (hn.of_keeps kept) kept

theorem Keeps.heldIn (k : Keeps x z) (h : EngineState) : Keeps (heldIn h x) (heldIn h z) := by
  unfold Machine.heldIn
  rw [k.engine, k.head]
  exact (k.setEngine _).setHead _

theorem Keeps.engineAtRest (k : Keeps x z) : Keeps (engineAtRest x) (engineAtRest z) := by
  unfold Machine.engineAtRest
  rw [k.engine, k.head, k.params]
  exact (k.setEngine _).setHead _

theorem HoldCleared.of_keeps (hc : HoldCleared x) (k : Keeps x z) : HoldCleared z := by
  constructor <;> simp [k.engine, k.supply, hc.haltDue, hc.paperCond, hc.powerCond, hc.hotCond, hc.power, hc.therm]

/-- R91, R169: the snapshot of a dot line takes no thermistor reading. -/
theorem atBoundary_therm (h5 : 5000 ≤ v) (evs : List PrintEvent) (s : State) :
    (atBoundary v evs s).supply.therm = s.supply.therm := by
  have h5 : 5000 ≤ measured v := by unfold measured; omega
  unfold atBoundary
  dsimp only
  split
  · simp
  · split
    · rw [startDotLine_eq, snapMeasure_runs h5]
      dsimp only
      split <;> simp [linePlanned]
    · simp

/-- R169: the state that a measurement brings a held Engine to, before the Engine takes what has changed. -/
def heldMeasured (v : Nat) (r : Therm) (paper : Option Bool) (s : State) : State :=
  (readingsTaken v r s).setEngine (heldJudged (readingsTaken v r s).supply.power r paper s.engine)

section Answers

variable {c : Coincident} (hh : s.held = none) (h5 : 5000 ≤ v) (h12 : v ≤ 12000)
include hh h5 h12

/-- R169: a measurement answers what the Engine makes of its judgement, from whatever agrees with the readings taken. -/
theorem exec_supplyMeasurement {j : Engine}
    (hj : (measurementJudged (readingsTaken v r s).supply.power r c.paper s.engine).1 = j) :
    ∃ z evs, Keeps ((readingsTaken v r s).setEngine j) z ∧
      evs = (measurementJudged (readingsTaken v r s).supply.power r c.paper s.engine).2 ∧
      exec (.supplyMeasurement v r ⟨w, c⟩) s = .next (settle s (some w) (engineMeasured w evs z)) := by
  have run : exec (.supplyMeasurement v r ⟨w, c⟩) s = .next (settle s (some w) (measure v r w c.paper s)) :=
    (if_neg (by simp [hh])).trans (perform_runs _ _ hh)
  rw [measure_eq hh h5 h12, hj] at run
  exact ⟨_, _, (supplyReading_keeps h5 h12 r s).setEngine j, rfl, run⟩

/-- R110, R169: a measurement of an Engine that is not held. -/
theorem supplyMeasurement_working {j : Engine} (hi : j.state.isHeld = false)
    (hj : (measurementJudged (readingsTaken v r s).supply.power r c.paper s.engine).1 = j)
    (hn : NothingToStart ((readingsTaken v r s).setEngine j)) :
    Answers (.supplyMeasurement v r ⟨w, c⟩) s ((readingsTaken v r s).setEngine j) := by
  obtain ⟨z, evs, k, -, run⟩ := exec_supplyMeasurement (w := w) hh h5 h12 hj
  have kept := k.trans (engineMeasured_working (w := w) (evs := evs) (k.held.trans hh) (by rw [k.engine]; exact hi))
  exact .of_settle_quiet run (hn.of_keeps kept) kept

variable (hi : s.engine.state.isHeld = true)
include hi

/-- R111: nothing has changed for the held Engine. -/
theorem supplyMeasurement_unchanged
    (same : (heldMeasured v r c.paper s).engine.powerCond = s.engine.powerCond ∧
      (heldMeasured v r c.paper s).engine.hotCond = s.engine.hotCond) :
    Answers (.supplyMeasurement v r ⟨w, c⟩) s (heldMeasured v r c.paper s) := by
  obtain ⟨judged, events⟩ :=
    measurementJudged_held (p := (readingsTaken v r s).supply.power) (r := r) (paper := c.paper) hi
  obtain ⟨z, evs, k, rfl, run⟩ := exec_supplyMeasurement (w := w) hh h5 h12 judged
  rw [events.mpr same, engineMeasured, if_pos rfl] at run
  have held : z.engine.state.isHeld = true := by rw [k.engine]; exact hi
  exact .of_settle_quiet run (.inl (EngineState.isHeld_ne held).1) k

variable (changed : (heldMeasured v r c.paper s).engine.powerCond ≠ s.engine.powerCond ∨
  (heldMeasured v r c.paper s).engine.hotCond ≠ s.engine.hotCond)
include changed

/-- R111: the held Engine judges what has changed. -/
theorem exec_supplyMeasurement_changed : ∃ z evs, Keeps (heldMeasured v r c.paper s) z ∧ z.held = none ∧
    z.engine.state.isHeld = true ∧
    exec (.supplyMeasurement v r ⟨w, c⟩) s = .next (settle s (some w) (engineChanged w evs z)) := by
  obtain ⟨judged, events⟩ :=
    measurementJudged_held (p := (readingsTaken v r s).supply.power) (r := r) (paper := c.paper) hi
  obtain ⟨z, evs, k, rfl, run⟩ := exec_supplyMeasurement (w := w) hh h5 h12 judged
  have some : (measurementJudged (readingsTaken v r s).supply.power r c.paper s.engine).2 ≠ [] :=
    fun none => changed.elim (absurd (events.mp none).1 ·) (absurd (events.mp none).2 ·)
  rw [engineMeasured, if_neg some] at run
  exact ⟨z, _, k, k.held.trans hh, by rw [k.engine]; exact hi, run⟩

/-- R111: something still stands, or stands now. -/
theorem supplyMeasurement_holds (hs : (heldMeasured v r c.paper s).engine.standing = some h) :
    Answers (.supplyMeasurement v r ⟨w, c⟩) s (heldIn h (heldMeasured v r c.paper s)) := by
  obtain ⟨z, evs, k, held, hz, run⟩ := exec_supplyMeasurement_changed (w := w) hh h5 h12 hi changed
  rw [engineChanged_stands held hz (k.engine ▸ hs)] at run
  exact .of_recorded_keeps run (k.heldIn h) (.inl (EngineState.isHeld_ne (standing_isHeld hs)).1)

variable (clear : HoldCleared (heldMeasured v r c.paper s))
include clear

/-- R115: an empty reading at the same moment holds the Engine again (log entry 41). -/
theorem supplyMeasurement_paperOut (hp : (heldMeasured v r c.paper s).engine.paper = false) :
    Answers (.supplyMeasurement v r ⟨w, c⟩) s (heldIn .paperOut ((heldMeasured v r c.paper s).setEngine
      { (heldMeasured v r c.paper s).engine with paperCond := true })) := by
  obtain ⟨z, evs, k, held, hz, run⟩ := exec_supplyMeasurement_changed (w := w) hh h5 h12 hi changed
  rw [engineChanged_paperOut held hz (clear.of_keeps k) (by rw [k.engine, hp]), k.engine] at run
  exact .of_recorded_keeps run ((k.setEngine _).heldIn .paperOut) (.inl nofun)

/-- R114: without a job the Engine enters IDLE (log entry 34). -/
theorem supplyMeasurement_idles (hp : (heldMeasured v r c.paper s).engine.paper = true) (ho : s.comp.output = []) :
    Answers (.supplyMeasurement v r ⟨w, c⟩) s (engineAtRest (heldMeasured v r c.paper s)) := by
  obtain ⟨z, evs, k, held, hz, run⟩ := exec_supplyMeasurement_changed (w := w) hh h5 h12 hi changed
  rw [engineChanged_idles held hz (clear.of_keeps k) (by rw [k.engine, hp]) (k.output.trans ho)] at run
  exact .of_recorded_keeps run k.engineAtRest (.inr ho)

/-- R111, R112: the Engine's job goes on. -/
theorem supplyMeasurement_resumes {job : Job} {rest : List Job} (hp : (heldMeasured v r c.paper s).engine.paper = true)
    (ho : s.comp.output = job :: rest) (hw : 5000 ≤ w) : ∃ t, exec (.supplyMeasurement v r ⟨w, c⟩) s = .next t ∧
      Resumed w job (heldMeasured v r c.paper s) t ∧ t.supply.therm = r := by
  obtain ⟨z, evs, k, held, hz, run⟩ := exec_supplyMeasurement_changed (w := w) hh h5 h12 hi changed
  have cleared := clear.of_keeps k
  have resumed := engineChanged_resumes (evs := evs) held hz cleared (by rw [k.engine, hp]) (k.output.trans ho) hw
  have therm : (engineChanged w evs z).supply.therm = r := by
    rw [engineChanged_boundary held hz cleared, atBoundary_therm hw, k.supply]
    rfl
  have quiet : settle s (some w) (engineChanged w evs z) = settle s none (engineChanged w evs z) :=
    settle_quiet s w (.inl (by rw [resumed.engine]; exact job_working_ne_idle job))
  obtain ⟨runs, engine, output, volts⟩ := resumed.settled s
  rw [k.engine] at engine
  exact ⟨_, run, ⟨runs, engine, output.trans k.output, volts⟩, by rw [quiet, (settle_keeps _ _).supply, therm]⟩

end Answers

/-- R111: when neither a halt, nor a condition that was or is judged stands, nothing holds the Engine. -/
theorem heldMeasured_cleared (halt : s.engine.haltDue = false) (cond : s.engine.paperCond = false)
    (power : (heldMeasured v r paper s).engine.powerCond = false) (hot : (heldMeasured v r paper s).engine.hotCond = false) :
    HoldCleared (heldMeasured v r paper s) where
  haltDue := halt
  paperCond := cond
  powerCond := power
  hotCond := hot
  power := of_decide_eq_false power
  therm := by
    show isHot r = false
    cases hc : isCool r with
    | true => exact isHot_of_isCool hc
    | false =>
      simp only [heldMeasured, heldJudged, State.setEngine_engine, hc, Bool.false_eq_true, if_false,
        Bool.or_eq_false_iff] at hot
      exact hot.1

/-- Settles O47: the readings are taken as they come, and then the Engine works, is IDLE, or judges what has changed. -/
theorem measurementsActOnPowerAndHeat : Obligations.MeasurementsActOnPowerAndHeat := by
  unfold Obligations.MeasurementsActOnPowerAndHeat
  refine ⟨fun p l c v hcl => nextPower_cases p v hcl, ?_⟩
  intro v w r m s hh h12 c power e paper read stopped
  refine ⟨fun h5 => ?_, fun h5 hs => ?_, fun h5 hs ho => ?_, fun h5 hi => ?_⟩
  · have run : exec c s = .next (settle s (some w) (measure v r w m.paper s)) :=
      (if_neg (by simp [hh])).trans (perform_runs _ _ hh)
    have brownout : measure v r w m.paper s =
        resetPart .brownout (s.setSupply { s.supply with volts := v, therm := r }) := by
      simp only [measure, supplyReading_brownout h5]
      rfl
    rw [brownout, settle_held _ _ (Option.some_ne_none _)] at run
    exact run
  · have working : s.engine.state.isHeld = false ∧ s.engine.state ≠ .idle := by
      rcases hs with hs | hs <;> rw [show s.engine.state = _ from hs] <;> exact ⟨rfl, nofun⟩
    exact supplyMeasurement_working hh h5 h12 working.1 (measurementJudged_working hs) (.inl working.2)
  · have idle : s.engine.state.isHeld = false := by rw [show s.engine.state = .idle from hs]; rfl
    exact supplyMeasurement_working hh h5 h12 idle (measurementJudged_idle hs) (.inr ho)
  · intro powerCond hotCond changed judged takes
    have holds (hch : changed) {h : EngineState} (hs : (heldMeasured v r m.paper s).engine.standing = some h) : takes h :=
      supplyMeasurement_holds hh h5 h12 hi hch hs
    have standing : (heldMeasured v r m.paper s).engine.standing =
        if e.haltDue then some .halted else if e.paperCond then some .paperOut
        else if powerCond then some .powerHold else if hotCond then some .hotHold else none := rfl
    refine ⟨fun same => ?_, fun hch hd => ?_, fun hch hd hc => ?_, fun hch hd hc hp => ?_, fun hch hd hc hp ht => ?_,
      fun hch hd hc hp ht => ?_⟩
    · exact supplyMeasurement_unchanged hh h5 h12 hi ((not_or.mp same).imp Decidable.not_not.mp Decidable.not_not.mp)
    · exact holds hch (standing.trans (if_pos hd))
    · exact holds hch (by rw [standing, hd, hc]; rfl)
    · exact holds hch (by rw [standing, hd, hc, hp]; rfl)
    · exact holds hch (by rw [standing, hd, hc, hp, ht]; rfl)
    · have cleared : HoldCleared (heldMeasured v r m.paper s) := heldMeasured_cleared hd hc hp ht
      refine ⟨fun empty => supplyMeasurement_paperOut hh h5 h12 hi hch cleared empty,
        fun present ho => supplyMeasurement_idles hh h5 h12 hi hch cleared present ho, fun job rest present ho hw => ?_⟩
      obtain ⟨t, run, ht, therm⟩ := supplyMeasurement_resumes hh h5 h12 hi hch cleared present ho hw
      exact ⟨t, run, ht.held, by rw [ht.engine], by rw [ht.engine], by rw [ht.engine]; rfl, ht.output,
        by rw [ht.engine]; rfl, ht.volts, therm⟩

end Sys2Proof.Machine
end

section
/-! PROOF. The Head check (R123 to R130): the element patrol's readings, failures and passes, and the requests about the head
map. -/

namespace Sys2Proof.Machine

variable {s x y : State} {milliohms e m : Nat}

/-! ### A reading -/

theorem elementReading_of_whole {ohms : Nat} (h : milliohms % (10 * ohms) = 0) :
    elementReading milliohms ohms = min 255 (milliohms / (10 * ohms)) := by simp [elementReading, h]

/-- R124: a reading is the percentage below or the one above. -/
theorem elementReading_cases (milliohms ohms : Nat) :
    elementReading milliohms ohms = min 255 (milliohms / (10 * ohms)) ∨
    elementReading milliohms ohms = min 255 (milliohms / (10 * ohms) + 1) := by
  unfold elementReading
  dsimp only
  split
  · exact .inr rfl
  · exact .inl rfl

theorem judgeReading_pass {r : Nat} (h50 : 50 ≤ r) (h150 : r ≤ 150) : judgeReading r = .pass :=
  (if_neg (Nat.not_lt.mpr h150)).trans (if_neg (Nat.not_lt.mpr h50))

theorem judgeReading_fails {r : Nat} (h : r < 50 ∨ 150 < r) : judgeReading r ≠ .pass := by
  unfold judgeReading
  split
  · nofun
  · rw [if_pos (h.resolve_right ‹_›)]
    nofun

/-- R124: the measurement in flight is over, and its reading is the most recent one. -/
def measurementTaken (milliohms : Nat) (s : State) : State :=
  let reading := elementReading milliohms s.params.headResistance
  s.setHead { s.head with measuring := false, last := some ⟨judgeReading reading, s.head.index, reading⟩ }

theorem completeMeasurement_passes (h50 : 50 ≤ elementReading milliohms s.params.headResistance)
    (h150 : elementReading milliohms s.params.headResistance ≤ 150) :
    completeMeasurement milliohms s = advancePatrol (measurementTaken milliohms s) := by
  simp [completeMeasurement, judgeReading_pass h50 h150, measurementTaken]

theorem completeMeasurement_fails (h : elementReading milliohms s.params.headResistance < 50 ∨
    150 < elementReading milliohms s.params.headResistance) :
    completeMeasurement milliohms s = advancePatrol (failReading s.head.index (measurementTaken milliohms s)) := by
  simp [completeMeasurement, judgeReading_fails h, measurementTaken]

/-! ### The patrol index -/

theorem advancePatrol_within (h : s.head.index < 639) :
    advancePatrol s = s.setHead { s.head with index := s.head.index + 1 } := if_pos (Nat.succ_lt_succ h)

theorem advancePatrol_wraps (h : s.head.index = 639) : advancePatrol s = s.setHead { s.head with
    index := 0, passes := min 65535 (s.head.passes + 1), records := s.head.records.map HeadRecord.endPass } :=
  if_neg (by simp [h, headDots])

theorem Keeps.advancePatrol (k : Keeps x y) : Keeps (advancePatrol x) (advancePatrol y) := by
  unfold Machine.advancePatrol
  rw [k.head]
  split <;> exact k.setHead _

/-! ### A failing reading -/

theorem recordHead_keeps (event : HeadEvent) (block : Option Nat) (x : State) : Keeps x (recordHead event block x) := by
  constructor <;> simp

theorem failReading_marked (h : (nth s.head.records (headBlock e) {}).mark = some e) : failReading e s = s := if_pos h

/-- R127: a block that has its mark already is degraded. -/
theorem atThreshold_degrades {r : HeadRecord} (hm : r.mark = some m) (b : Nat) (s : State) :
    Keeps (setRecord b { r with degraded := true } s) (atThreshold e b r s) := by
  obtain ⟨count, mark, degraded, failed, clean⟩ := r
  obtain rfl : mark = some m := hm
  cases degraded with
  | true => exact .refl _
  | false => exact (recordFault_keeps _ _ _).trans (recordHead_keeps _ _ _)

section FailReading

variable {r : HeadRecord} (hr : countFailure s.params.faultThreshold (nth s.head.records (headBlock e) {}) = r)
include hr

/-- R126: the count of the block stays below the threshold. -/
theorem failReading_counts (hm : r.mark ≠ some e) (hc : r.count < s.params.faultThreshold) :
    failReading e s = setRecord (headBlock e) r s := by
  subst hr
  exact (if_neg hm).trans (if_neg (Nat.ne_of_lt hc))

/-- R126, R127: the count of the block comes to the threshold. -/
theorem failReading_atThreshold (hm : r.mark ≠ some e) (hc : r.count = s.params.faultThreshold) :
    failReading e s = atThreshold e (headBlock e) r s := by
  subst hr
  exact (if_neg hm).trans (if_pos hc)

/-- R127: the first element of the block at the threshold is marked. -/
theorem failReading_marks (hm : r.mark = none) (hc : r.count = s.params.faultThreshold) :
    Keeps (setRecord (headBlock e) { r with mark := some e, count := 0 } s) (failReading e s) := by
  rw [failReading_atThreshold hr (by simp [hm]) hc, atThreshold, hm]
  exact recordHead_keeps _ _ _

theorem failReading_degrades (hm : r.mark = some m) (hne : m ≠ e) (hc : r.count = s.params.faultThreshold) :
    Keeps (setRecord (headBlock e) { r with degraded := true } s) (failReading e s) := by
  rw [failReading_atThreshold hr (by simp [hm, hne]) hc]
  exact atThreshold_degrades hm _ s

end FailReading

/-! ### The patrol's two commands -/

theorem elementPatrolExpiry_begins (hh : s.held = none) (ht : s.head.timer ≠ .stopped) :
    Answers .elementPatrolExpiry s (beginMeasurement s) :=
  .of_eq (performWhen_runs _ _ ((Timer.isRunning_iff _).mpr ht) hh)

section Complete

variable (hh : s.held = none) (hm : s.head.measuring = true)
include hh hm

theorem exec_elementMeasurementComplete : exec (.elementMeasurementComplete milliohms) s =
    .next (settle s none (completeMeasurement milliohms s)) := performWhen_runs _ _ hm hh

theorem elementMeasurementComplete_passes (h50 : 50 ≤ elementReading milliohms s.params.headResistance)
    (h150 : elementReading milliohms s.params.headResistance ≤ 150) :
    Answers (.elementMeasurementComplete milliohms) s (advancePatrol (measurementTaken milliohms s)) :=
  .of_eq (completeMeasurement_passes h50 h150 ▸ exec_elementMeasurementComplete hh hm)

/-- R124 to R127: a failing reading, where the failure leaves what agrees with `x`. -/
theorem elementMeasurementComplete_fails
    (hf : elementReading milliohms s.params.headResistance < 50 ∨ 150 < elementReading milliohms s.params.headResistance)
    (k : Keeps x (failReading s.head.index (measurementTaken milliohms s))) :
    Answers (.elementMeasurementComplete milliohms) s (advancePatrol x) :=
  .of_settle (completeMeasurement_fails hf ▸ exec_elementMeasurementComplete hh hm) k.advancePatrol

end Complete

/-- Settles O37: a reading below or above, the patrol's next measurement, and a completed one by its reading, its place in
the pass and what its block's record holds. -/
theorem elementPatrolMeasuresAndMarks : Obligations.ElementPatrolMeasuresAndMarks := by
  unfold Obligations.ElementPatrolMeasuresAndMarks
  refine ⟨fun milliohms ohms => ⟨elementReading_of_whole, elementReading_cases milliohms ohms⟩,
    fun milliohms s hh => ⟨elementPatrolExpiry_begins hh, fun hm => ?_⟩⟩
  intro i r e result read
  refine ⟨fun he h50 h150 => ?_, fun he hf => ?_, fun he h50 h150 => ?_⟩
  · have passed := elementMeasurementComplete_passes (milliohms := milliohms) hh hm h50 h150
    rw [advancePatrol_within (s := measurementTaken milliohms s) he] at passed
    exact passed
  · intro rec_ count
    let taken : State := measurementTaken milliohms s
    let left (records : Vector HeadRecord 8) : State := taken.setHead { taken.head with records := records }
    have failed {records : Vector HeadRecord 8} (k : Keeps (left records) (failReading e taken)) :
        Answers i s (read records) := by
      have answers := elementMeasurementComplete_fails hh hm hf k
      rw [advancePatrol_within (s := left records) he] at answers
      exact answers
    refine ⟨fun hmark => failed ?_, fun hmark hc => failed ?_,
      fun hmark hc => failed (failReading_marks (s := taken) rfl hmark hc),
      fun m hmark hne hc => failed (failReading_degrades (s := taken) rfl hmark hne hc)⟩
    · rw [failReading_marked (s := taken) hmark]
      exact .refl _
    · rw [failReading_counts (s := taken) rfl hmark hc]
      exact .refl _
  · have passed := elementMeasurementComplete_passes (milliohms := milliohms) hh hm h50 h150
    have pass : judgeReading r = .pass := judgeReading_pass h50 h150
    rw [advancePatrol_wraps (s := measurementTaken milliohms s) he, measurementTaken, pass,
      show s.head.index = 639 from he] at passed
    exact passed

/-! ### Requests about the head map -/

section SetHeadMark

variable {b : Byte} {element : Half} (ht : Turn (.setHeadMark b element) s)
include ht

theorem setHeadMark_badValue (h : 7 < b.toNat ∨ element ≠ noElement ∧ headBlock element.toNat ≠ b.toNat) :
    Answers (.setHeadMark b element) s (answered (.setHeadMark b element) .badValue [] s) := by
  refine .of_eq (exec_request_answered ht rfl rfl (fun l => ?_) rfl ht.runs)
  rcases h with hb | ⟨hne, hblock⟩
  · exact if_pos hb
  · simp [setHeadMarkEffect, hne, hblock]

variable (hb : b.toNat ≤ 7)
include hb

/-- R129: the element that stands for none empties the record of the block. -/
theorem setHeadMark_none (he : element = noElement) : Answers (.setHeadMark b element) s
    (answered (.setHeadMark b element) .done [] (setRecord b.toNat {} s)) :=
  .of_eq (exec_request_answered ht rfl rfl
    (fun _ => (if_neg (Nat.not_lt.mpr hb)).trans (if_pos he)) rfl ht.runs)

/-- R129: an element of the block is its mark, and nothing else is left in its record. -/
theorem setHeadMark_places (hblock : headBlock element.toNat = b.toNat) : Answers (.setHeadMark b element) s
    (answered (.setHeadMark b element) .done [] (setRecord b.toNat { mark := some element.toNat } s)) := by
  have present : element ≠ noElement := by
    rintro rfl
    have outside : headBlock noElement.toNat = 819 := rfl
    omega
  exact .of_eq (exec_request_answered ht rfl rfl
    (fun _ => (if_neg (Nat.not_lt.mpr hb)).trans ((if_neg present).trans (if_pos hblock))) rfl ht.runs)

end SetHeadMark

/-- Settles O38, SetHeadMark by its block and element, and then ClearHeadMap. -/
theorem headMapIsSetAndCleared : Obligations.HeadMapIsSetAndCleared := by
  unfold Obligations.HeadMapIsSetAndCleared
  refine fun b element s => ⟨fun ht => ⟨fun hb => ?_, fun hb he => ?_, fun hb hblock => ?_, fun _ hne hblock => ?_⟩,
    fun ht => ?_⟩
  · exact setHeadMark_badValue ht (.inl hb)
  · exact setHeadMark_none ht hb he
  · exact setHeadMark_places ht hb hblock
  · exact setHeadMark_badValue ht (.inr ⟨hne, hblock⟩)
  · exact .of_eq (exec_request_answered (x := s.setHead { s.head with records := Vector.replicate 8 {} }) ht rfl rfl
      (fun _ => rfl) rfl ht.runs)

end Sys2Proof.Machine
end

section
/-! PROOF. What every command answers (R171, R172): a next state on the same queue of waiting commands, and nothing new
while the part is held in reset, unless the command is one of the Supply monitor's own. -/

namespace Sys2Proof.Machine

variable {s : State}

/-- The outcome is a next state with the queue of `s`. -/
def KeepsQueue (s : State) (o : Host.Outcome State Fault Refusal) : Prop := ∃ t, o = .next t ∧ t.pending = s.pending

/-- The outcome is a next state with the queue of `s`, and it is `s` itself while the part is held in reset. -/
structure ActsWhenRunning (s : State) (o : Host.Outcome State Fault Refusal) : Prop where
  queue : KeepsQueue s o
  held  : s.held ≠ none → o = .next s

theorem keepsQueue_next {t : State} (h : t.pending = s.pending) : KeepsQueue s (.next t) := ⟨t, rfl, h⟩

/-! ### The frames of a meaning -/

theorem actsWhenRunning_self (s : State) : ActsWhenRunning s (.next s) := ⟨keepsQueue_next rfl, fun _ => rfl⟩

theorem perform_actsWhenRunning {volts : Option Nat} {f : State → State} (h : (f s).pending = s.pending) :
    ActsWhenRunning s (perform volts f s) := by
  refine ⟨?_, perform_held volts f⟩
  by_cases hh : s.held = none
  · rw [perform_runs volts f hh]
    exact keepsQueue_next (by simp [h])
  · rw [perform_held volts f hh]
    exact keepsQueue_next rfl

theorem performWhen_actsWhenRunning {p : Bool} {volts : Option Nat} {f : State → State}
    (h : (f s).pending = s.pending) : ActsWhenRunning s (performWhen p volts f s) := by
  cases p with
  | false => exact actsWhenRunning_self s
  | true => exact perform_actsWhenRunning h

theorem request_actsWhenRunning {volts : Option Nat} {kind : Byte} {payload : List Byte}
    {effect : State → State × List Byte} (he : ∀ x, (effect x).1.pending = x.pending) :
    ActsWhenRunning s (request volts kind payload effect s) := by
  refine perform_actsWhenRunning ?_
  unfold executeRequest
  split <;> simp [he]

/-! ### Requests and their effects -/

theorem execStoreReadBlock_actsWhenRunning (index : Half) (s : State) :
    ActsWhenRunning s (execStoreReadBlock index s) := by
  unfold execStoreReadBlock
  refine perform_actsWhenRunning ?_
  split <;> simp

theorem execUnknownRequest_actsWhenRunning (kind : Byte) (payload : List Byte) (s : State) :
    ActsWhenRunning s (execUnknownRequest kind payload s) := by
  unfold execUnknownRequest
  split
  · exact actsWhenRunning_self s
  split
  · exact perform_actsWhenRunning (by simp)
  · exact request_actsWhenRunning fun _ => rfl

theorem setParameterEffect_pending (id : Byte) (x : Half) (s : State) :
    (setParameterEffect id x s).1.pending = s.pending := by
  unfold setParameterEffect
  (repeat' split) <;> simp

theorem clearHeadEffect_pending (v : Nat) (r : Coincident) (s : State) :
    (clearHeadEffect v r s).1.pending = s.pending := by
  unfold clearHeadEffect
  (repeat' split) <;> simp

/-! ### Every command -/

/-- R171: every command acts on a running part only, except those by which the Supply monitor holds and releases it. -/
theorem exec_actsWhenRunning (c : Instr) (s : State) (measures : ∀ v r m, c ≠ .supplyMeasurement v r m)
    (rises : c ≠ .powerOn) (starts : ∀ v r p, c ≠ .startUp v r p) : ActsWhenRunning s (exec c s) := by
  cases c with
  -- The Supply monitor's own
  | supplyMeasurement v r m => exact absurd rfl (measures v r m)
  | powerOn => exact absurd rfl rises
  | startUp v r p => exact absurd rfl (starts v r p)
  -- Events
  | keyScan _ | paperSensorReading _ => exact perform_actsWhenRunning (by simp)
  | linkByteReceived _ goodStop => cases goodStop <;> exact perform_actsWhenRunning (by simp)
  | shiftStageEmpties => exact performWhen_actsWhenRunning (by dsimp only; split <;> simp)
  | breakWatchMark | autoRepeatExpiry | linkFrameSent =>
    simp only [exec, execBreakWatchMark, execAutoRepeatExpiry, execLinkFrameSent]
    split
    · exact perform_actsWhenRunning (by simp)
    · exact actsWhenRunning_self s
  | printDeposit _ | composerTakeHead _ =>
    simp only [exec, execPrintDeposit, execComposerTakeHead]
    split
    · exact performWhen_actsWhenRunning (by simp)
    · exact actsWhenRunning_self s
  | carrierMeasurement _ | qualifyTimeExpiry | connectTimeout | lossTimeExpiry | receiveCharacterComplete _
  | breakReceived | markWaitEnd | dispatchHead | textHeadDelivery | holdingStageRefill | breakSpaceEnd
  | breakMarkEnd | translateKeyHead _ | feedRepeatExpiry _ _ | beeperToneEnd _ | ownershipTimeout | idleFlushExpiry _
  | dotLineComplete _ | coolDownExpiry | paperPresentExpiry _ | hotTimerExpiry | elementPatrolExpiry
  | elementMeasurementComplete _ | statusReadComplete _ | blockReadRetry | blockReadComplete _ | writeCompareMismatch
  | blockWriteAttemptComplete _ | storePatrolExpiry | gapTimeout | candidateStartBit | falseStart =>
    exact performWhen_actsWhenRunning (by simp)
  -- Requests
  | storeReadBlock _ => exact execStoreReadBlock_actsWhenRunning _ s
  | unknownRequest _ _ => exact execUnknownRequest_actsWhenRunning _ _ s
  | setParameter _ _ => exact request_actsWhenRunning (setParameterEffect_pending _ _)
  | clearHead _ => exact request_actsWhenRunning (clearHeadEffect_pending _ _)
  | connect _ | drop | transmitText _ | sendBreak | setAnswerback _ | setKeymapEntry _ _ _ | setKeyboardMode _ | lockKeyboard _
  | readKeys | printText _ | paperFeed _ _ | setHeadMark _ _ | clearHeadMap | readHeadMap | delete _ | formatStore | remount
  | storeInfo | docList | docInfo _ | send _ | stopSend | reprint _ _ | stopReprint | composeStart _ _ | composeEnd | reset
  | identify | getStatus _ | getParameter _ | readFaults | clearFaults =>
    refine request_actsWhenRunning fun x => ?_
    simp only [connectEffect, dropEffect, transmitTextEffect, sendBreakEffect, setAnswerbackEffect, setKeymapEntryEffect,
      setKeyboardModeEffect, lockKeyboardEffect, readKeysEffect, printTextEffect, paperFeedEffect, setHeadMarkEffect,
      clearHeadMapEffect, readHeadMapEffect, deleteEffect, formatStoreEffect, remountEffect, storeInfoEffect, docListEffect,
      docInfoEffect, sendEffect, stopSendEffect, reprintEffect, stopReprintEffect, composeStartEffect, composeEndEffect,
      resetEffect, identifyEffect, getStatusEffect, getParameterEffect, readFaultsEffect, clearFaultsEffect]
    (repeat' split) <;> simp

/-- Settles O3: what a held part answers to a command that acts on a running one. -/
theorem heldPartIgnoresCommands : Obligations.HeldPartIgnoresCommands := by
  unfold Obligations.HeldPartIgnoresCommands
  intro c s held measures rises starts
  exact (exec_actsWhenRunning c s measures rises starts).held held

theorem execSupplyMeasurement_keepsQueue (v : Nat) (r : Therm) (m : Resumption) (s : State) :
    KeepsQueue s (execSupplyMeasurement v r m s) := by
  unfold execSupplyMeasurement
  split
  · exact keepsQueue_next (by simp)
  · exact (perform_actsWhenRunning (by simp)).queue

theorem execStartUp_keepsQueue (v : Nat) (r : Therm) (paper : Bool) (s : State) :
    KeepsQueue s (execStartUp v r paper s) := by
  unfold execStartUp
  (repeat' split) <;> exact keepsQueue_next (by simp)

/-- Settles O2: the Supply monitor's three commands, and the commands that act on a running part. -/
theorem everyCommandAnswersAndKeepsTheQueue : Obligations.EveryCommandAnswersAndKeepsTheQueue := by
  unfold Obligations.EveryCommandAnswersAndKeepsTheQueue
  intro c s
  by_cases measures : ∃ v r m, c = .supplyMeasurement v r m
  · obtain ⟨v, r, m, rfl⟩ := measures
    exact execSupplyMeasurement_keepsQueue v r m s
  by_cases rises : c = .powerOn
  · subst rises
    exact keepsQueue_next (by simp)
  by_cases starts : ∃ v r p, c = .startUp v r p
  · obtain ⟨v, r, p, rfl⟩ := starts
    exact execStartUp_keepsQueue v r p s
  · exact (exec_actsWhenRunning c s (by simpa using measures) rises (by simpa using starts)).queue

end Sys2Proof.Machine
end

section
/-! PROOF. The Started report (R173, R184): nothing that the settling of the store records touches it. -/

namespace Sys2Proof.Machine

variable (s : State)

/-! ### Recording -/

@[simp] theorem recordLine_started (e : LineEvent) (refused : Option Nat) :
    (recordLine e refused s).reports.started = s.reports.started := by
  unfold recordLine
  split <;> simp

@[simp] theorem recordStore_started (docs : List Nat) (damage : Bool) (outcome : Option StoreOutcome) :
    (recordStore docs damage outcome s).reports.started = s.reports.started := by
  unfold recordStore
  split <;> simp

@[simp] theorem recordDone_started (c : DoneChannel) (o : ChannelOutcome) (docs : List Nat) :
    (recordDone c o docs s).reports.started = s.reports.started := by
  unfold recordDone
  split <;> simp

@[simp] theorem recordFault_started (k : FaultKind) (d : FaultDetail) :
    (recordFault k d s).reports.started = s.reports.started := by
  unfold recordFault
  split
  · simp
  · dsimp only
    split <;> simp

/-! ### Documents -/

@[simp] theorem closeDoc_started (n : Nat) (f : DocFlags → DocFlags) :
    (closeDoc n f s).reports.started = s.reports.started := by simp [closeDoc]

@[simp] theorem damageDoc_started (n : Nat) : (damageDoc n s).reports.started = s.reports.started := by simp [damageDoc]

@[simp] theorem emptiedDoc_started (n : Nat) (st : DocState) :
    (emptiedDoc n st s).reports.started = s.reports.started := by simp [emptiedDoc]

/-! ### The text head offered to TAKE -/

@[simp] theorem recoverOverrun_started : (recoverOverrun s).reports.started = s.reports.started := by
  unfold recoverOverrun
  split <;> simp

@[simp] theorem removeHead_started : (removeHead s).reports.started = s.reports.started := by simp [removeHead]

@[simp] theorem finishHead_started : (finishHead s).reports.started = s.reports.started := by
  unfold finishHead
  split <;> simp

@[simp] theorem takeOverflow_started (n : Nat) : (takeOverflow n s).reports.started = s.reports.started := by
  simp [takeOverflow]

@[simp] theorem offerTake_started : (offerTake s).reports.started = s.reports.started := by
  unfold offerTake
  (repeat' split) <;> simp

@[simp] theorem offerHead_started : (offerHead s).reports.started = s.reports.started := by simp [offerHead]

@[simp] theorem takeNotice_started : (takeNotice s).reports.started = s.reports.started := by simp [takeNotice]

@[simp] theorem takeTurn_started : (takeTurn s).reports.started = s.reports.started := by simp [takeTurn]

/-! ### The channels and directory maintenance -/

@[simp] theorem sendComplete_started : (sendComplete s).reports.started = s.reports.started := by
  unfold sendComplete
  split <;> simp

@[simp] theorem sendTurn_started : (sendTurn s).reports.started = s.reports.started := by
  unfold sendTurn
  split
  · rfl
  · dsimp only
    (repeat' split) <;> simp

@[simp] theorem sendSettle_started : (sendSettle s).reports.started = s.reports.started := by simp [sendSettle]

@[simp] theorem endReprint_started (o : ChannelOutcome) : (endReprint o s).reports.started = s.reports.started := by
  unfold endReprint
  split
  · rfl
  · dsimp only
    split <;> simp

@[simp] theorem reprintSettle_started : (reprintSettle s).reports.started = s.reports.started := by
  unfold reprintSettle
  split
  · rfl
  · dsimp only
    split <;> simp

@[simp] theorem deleteDone_started (j : DeleteJob) : (deleteDone j s).reports.started = s.reports.started := by
  unfold deleteDone
  dsimp only
  split <;> simp

@[simp] theorem deleteTurn_started : (deleteTurn s).reports.started = s.reports.started := by
  unfold deleteTurn
  (repeat' split) <;> simp

@[simp] theorem channelsSettle_started : (channelsSettle s).reports.started = s.reports.started := by
  simp [channelsSettle]

/-! ### The port -/

@[simp] theorem takeWriteFailed_started (w : DataWrite) : (takeWriteFailed w s).reports.started = s.reports.started := by
  unfold takeWriteFailed
  split
  · rfl
  · dsimp only
    split <;> simp

@[simp] theorem composeWriteFailed_started : (composeWriteFailed s).reports.started = s.reports.started := by
  unfold composeWriteFailed
  dsimp only
  split <;> simp

@[simp] theorem dataWriteFailed_started (c : PortClaimant) (w : DataWrite) (b : Option Nat) :
    (dataWriteFailed c w b s).reports.started = s.reports.started := by
  have fault : (writeFault w b s).reports.started = s.reports.started := by simp [writeFault]
  cases c <;> simp [dataWriteFailed, fault]

@[simp] theorem portTurn_started : (portTurn s).reports.started = s.reports.started := by
  unfold portTurn
  (repeat' split) <;> simp

@[simp] theorem storeSettle_started : (storeSettle s).reports.started = s.reports.started := by simp [storeSettle]

end Sys2Proof.Machine
end

section
/-! PROOF. Resets and their release, and the frames that have gone (R171 to R173, R180). -/

namespace Sys2Proof.Machine

variable {s x : State} {c : ResetCause} {v : Nat} {r : Therm} {p : Bool} {f : TxFrame}

/-! ### The Started report -/

theorem reports_first_started {reports : Reports} {report : StartedReport} (h : reports.started = some report) :
    reports.first = some (0x40, report.bytes, { reports with started := none }) := by simp [Reports.first, h]

/-- R180: to an empty link a Started report that waits goes out first, as the step settles. -/
theorem settle_sendsStarted (s0 : State) (hh : x.held = none) (hl : x.link = {}) {report : StartedReport}
    (hr : x.reports.started = some report) :
    (settle s0 none x).link.sending = some ⟨.report, 0x40, report.bytes⟩ := by
  simp only [settle, hh, Option.isSome_none, Bool.false_eq_true, if_false]
  generalize hy : idleTimerSettle s0 (ownerTimerSettle (arbitrate (echoSettle s0 (storeSettle x)))) = y
  have held : y.held = none := by simp [← hy, hh]
  have link : y.link = {} := by simp [← hy, hl]
  have started : y.reports.started = some report := by simp [← hy, hr]
  rw [if_neg (by simp [held]),
    transmitNext_report (by rw [link]) (by rw [link]) (by rw [link]) (reports_first_started started)]
  rfl

/-! ### Start-up -/

/-- R169, R171: below the release level the measurement that could have released the part is only a reading. -/
theorem startUp_below (hs : s.held = some c) (hc : c ≠ .link) (hv : v < 5200) :
    exec (.startUp v r p) s = .next (s.setSupply { s.supply with volts := v, therm := r }) := by
  have reading : measured v = v := Nat.min_eq_left (by omega)
  have stays : releasesReset c v = false := by
    cases c with
    | link => exact absurd rfl hc
    | powerOn | brownout => exact decide_eq_false (Nat.not_le.mpr hv)
  have taken : measureHeld v r s = s.setSupply { s.supply with volts := v, therm := r } := by
    simp [measureHeld, reading, hs, hc]
  show execStartUp v r p s = _
  simp [execStartUp, hs, reading, stays, taken]

/-- R171: 5200 mV and more releases every reset. -/
theorem startUp_releases (hs : s.held = some c) (hv : 5200 ≤ v) (h12 : v ≤ 12000) :
    exec (.startUp v r p) s = .next (settle s none (startPart c v r p s)) := by
  have reading : measured v = v := Nat.min_eq_left h12
  have released : releasesReset c v = true := by
    cases c with
    | powerOn | brownout => exact decide_eq_true hv
    | link => exact decide_eq_true (Nat.le_trans (by decide) hv)
  show execStartUp v r p s = _
  simp [execStartUp, hs, reading, released]

/-- R136, R173: the part as it starts: the first readings, the patrol's timer, and a mount that begins. -/
def partReleased (v : Nat) (r : Therm) (p : Bool) (s : State) : State :=
  ((((s.setHeld none).setSupply ⟨v, r, firstPower s.params v⟩).setEngine { s.engine with paper := p }).setHead
    { s.head with timer := .running 50 }).setStore { s.store with
      state := .mounting, mountNext := none, patrolPos := 0, patrolTimer := .stopped,
      free := (List.range' 1 511).filter fun b => !s.store.bad.contains b }

theorem startPart_keeps (c : ResetCause) (h12 : v ≤ 12000) (r : Therm) (p : Bool) (s : State) :
    Keeps (partReleased v r p s) (startPart c v r p s) := by
  have reading : measured v = v := Nat.min_eq_left h12
  constructor <;> simp [startPart, partReleased, beginMount, emptyDirectory, reading]

theorem startPart_started (c : ResetCause) (h12 : v ≤ 12000) (r : Therm) (p : Bool) (s : State) :
    (startPart c v r p s).reports.started = some ⟨c, firstPower s.params v, v⟩ := by
  have reading : measured v = v := Nat.min_eq_left h12
  simp [startPart, reading]

/-! ### The frames that have gone -/

theorem isResetReply_iff : isResetReply f = true ↔ f.source = .reply ∧ f.kind = 0x85 ∧ f.payload = [0x00] := by
  simp only [isResetReply, Bool.and_eq_true, decide_eq_true_eq, and_assoc]
  rfl

theorem exec_linkFrameSent (hh : s.held = none) (hf : s.link.sending = some f) :
    exec .linkFrameSent s = .next (settle s none (frameSent f s)) := by
  have frame : exec .linkFrameSent s = perform none (frameSent f) s := by
    show execLinkFrameSent s = _
    simp [execLinkFrameSent, hf]
  rw [frame, perform_runs none _ hh]

/-- R180: a frame that is not the reply to Reset has gone: a reply leaves its slot. -/
theorem linkFrameSent_answers (hh : s.held = none) (hf : s.link.sending = some f)
    (hr : ¬ (f.source = .reply ∧ f.kind = 0x85 ∧ f.payload = [0x00])) :
    Answers .linkFrameSent s (s.setLink { s.link with reply := if f.source = .reply then none else s.link.reply }) := by
  have run := exec_linkFrameSent hh hf
  rw [frameSent, if_neg (mt isResetReply_iff.mp hr)] at run
  exact .of_settle run (by constructor <;> simp [frameGone])

/-- R172, R180: the reply to Reset has gone, and the LINK reset holds the part. -/
theorem linkFrameSent_resets (hh : s.held = none) (hf : s.link.sending = some f) (hr : isResetReply f = true) :
    exec .linkFrameSent s = .next (resetPart .link (frameGone f s)) := by
  have run := exec_linkFrameSent hh hf
  rwa [frameSent, if_pos hr, settle_held _ _ (by simp [resetPart])] at run

/-- Settles O48: a reset takes hold, a measurement below and above the release level, Reset, and the frames. -/
theorem resetsTakeHoldAndAreReleased : Obligations.ResetsTakeHoldAndAreReleased := by
  unfold Obligations.ResetsTakeHoldAndAreReleased
  intro v t p c s
  refine ⟨rfl, startUp_below, fun hs hv h12 => ?_, fun ht => ?_, fun f => linkFrameSent_answers,
    fun f hh hf hsource hkind hpayload => ?_⟩
  · refine ⟨_, startUp_releases hs hv h12, (startPart_keeps c h12 t p s).trans (settle_keeps s _), fun hl => ?_⟩
    exact settle_sendsStarted s (by simp [startPart]) (by simpa using hl) (startPart_started c h12 t p s)
  · exact .of_eq (exec_request_answered ht rfl rfl (fun _ => rfl) rfl ht.runs)
  · exact ⟨_, linkFrameSent_resets hh hf (isResetReply_iff.mpr ⟨hsource, hkind, hpayload⟩), rfl, rfl, rfl, by simp⟩

end Sys2Proof.Machine
end

section
/-! PROOF. The link's receiver and the frames on the wire (R175 to R179): the places of a frame, what becomes of a whole one, and
the bytes of a request's frame taken one by one. -/

namespace Sys2Proof.Machine

variable {s x : State} {b k n : Byte} {p got : List Byte} {f : TxFrame}

/-! ### A whole frame -/

theorem frameArrives_wrongKind {r : Request} (h : r.kind = 0 ∨ 0x40 ≤ r.kind.toNat) :
    frameArrives r s = makeReject 0x22 r.kind s := if_pos (by simpa using h)

/-- R177, step 3: two requests wait already. -/
theorem frameArrives_full {r : Request} (hk : ¬ (r.kind = 0 ∨ 0x40 ≤ r.kind.toNat)) (hq : 2 ≤ s.link.queue.length) :
    frameArrives r s = makeReject 0x23 r.kind s := by
  rw [frameArrives, if_neg (by simpa using hk), if_pos hq]

theorem requestKind_iff : ¬ (k = 0 ∨ 0x40 ≤ k.toNat) ↔ 1 ≤ k.toNat ∧ k.toNat ≤ 0x3F := by
  rw [← BitVec.toNat_inj, show (0 : Byte).toNat = 0 from rfl]
  omega

/-- R177, step 4: the request joins the queue. -/
theorem frameArrives_queued {r : Request} (h1 : 1 ≤ r.kind.toNat) (h2 : r.kind.toNat ≤ 0x3F)
    (hq : s.link.queue.length < 2) :
    frameArrives r s = s.setLink { s.link with queue := s.link.queue ++ [r] } := by
  rw [frameArrives, if_neg (by simpa using requestKind_iff.mpr ⟨h1, h2⟩), if_neg (Nat.not_le.mpr hq)]

theorem judgeFrame_good (h : k + n + got.foldl (· + ·) 0 + b = 0) : judgeFrame k n got b s = frameArrives ⟨k, got⟩ s :=
  if_pos (by simpa [checkHolds] using h)

theorem judgeFrame_bad (h : k + n + got.foldl (· + ·) 0 + b ≠ 0) : judgeFrame k n got b s = makeReject 0x20 k s :=
  if_neg (by simpa [checkHolds] using h)

/-- R177, R178: a frame that fails one of the first three steps makes a LinkReject. -/
theorem judgeFrame_rejects
    (h : k + n + got.foldl (· + ·) 0 + b ≠ 0 ∨ k = 0 ∨ 0x40 ≤ k.toNat ∨ 2 ≤ s.link.queue.length) :
    ∃ reason, judgeFrame k n got b s = makeReject reason k s := by
  by_cases hsum : k + n + got.foldl (· + ·) 0 + b = 0
  · rw [judgeFrame_good hsum]
    by_cases hk : k = 0 ∨ 0x40 ≤ k.toNat
    · exact ⟨_, frameArrives_wrongKind hk⟩
    · rcases h with bad | zero | high | full
      · exact absurd hsum bad
      · exact absurd (.inl zero) hk
      · exact absurd (.inr high) hk
      · exact ⟨_, frameArrives_full hk full⟩
  · exact ⟨_, judgeFrame_bad hsum⟩

/-- R178: `Keeps` leaves the LinkReject slot out, as settling may send from it, so a reject made changes nothing else. -/
theorem keeps_makeReject (reason kind : Byte) (x : State) : Keeps x (makeReject reason kind x) := by
  constructor <;> simp

/-! ### The receiver's places -/

@[simp] theorem setRx_rx (rx : LinkRx) (gap : Timer) (s : State) : (setRx rx gap s).link.rx = rx := rfl

@[simp] theorem setRx_setRx (rx rx' : LinkRx) (gap gap' : Timer) (s : State) :
    setRx rx gap (setRx rx' gap' s) = setRx rx gap s := rfl

@[simp] theorem toHunt_setRx (rx : LinkRx) (gap : Timer) (s : State) : toHunt (setRx rx gap s) = toHunt s := rfl

theorem receiveByte_lead (h : s.link.rx = .hunt) : receiveByte 0xA5 s = setRx .kind .stopped s := by
  simp [receiveByte, h]

theorem receiveByte_notLead (h : s.link.rx = .hunt) (hb : b ≠ 0xA5) : receiveByte b s = s := by
  simp only [receiveByte, h, if_neg hb]

theorem receiveByte_kind (h : s.link.rx = .kind) : receiveByte b s = setRx (.length b) gapLimit s := by
  simp [receiveByte, h]

/-- R176: a length above 240 is none of a frame's. -/
theorem receiveByte_tooLong (h : s.link.rx = .length k) (hb : 240 < b.toNat) : receiveByte b s = toHunt s := by
  simp [receiveByte, h, hb]

/-- R176: the length of an empty payload: the check byte follows. -/
theorem receiveByte_emptyLength (h : s.link.rx = .length k) : receiveByte 0 s = setRx (.check k 0 []) gapLimit s := by
  simp [receiveByte, h]

theorem receiveByte_length (h : s.link.rx = .length k) (h0 : b ≠ 0) (hb : b.toNat ≤ 240) :
    receiveByte b s = setRx (.payload k b []) gapLimit s := by
  simp only [receiveByte, h, if_neg (Nat.not_lt.mpr hb), if_neg h0]

/-- R176: the payload's last byte: the check byte follows. -/
theorem receiveByte_payloadEnd (h : s.link.rx = .payload k n got) (hn : n.toNat ≤ got.length + 1) :
    receiveByte b s = setRx (.check k n (got ++ [b])) gapLimit s := by
  simp [receiveByte, h, hn]

theorem receiveByte_payload (h : s.link.rx = .payload k n got) (hn : got.length + 1 < n.toNat) :
    receiveByte b s = setRx (.payload k n (got ++ [b])) gapLimit s := by
  simp [receiveByte, h, Nat.not_le.mpr hn]

theorem receiveByte_check (h : s.link.rx = .check k n got) : receiveByte b s = judgeFrame k n got b (toHunt s) := by
  simp [receiveByte, h]

/-- R177: the byte that completes a frame whose check is good and whose request has a place. -/
theorem receiveByte_queues (h : s.link.rx = .check k n got) (hsum : k + n + got.foldl (· + ·) 0 + b = 0)
    (h1 : 1 ≤ k.toNat) (h2 : k.toNat ≤ 0x3F) (hq : s.link.queue.length < 2) :
    receiveByte b s =
      s.setLink { s.link with rx := .hunt, gapTimer := .stopped, queue := s.link.queue ++ [⟨k, got⟩] } := by
  rw [receiveByte_check h, judgeFrame_good hsum, frameArrives_queued h1 h2 (by simpa using hq)]
  rfl

/-- R177, R178: the byte that completes a frame that is rejected. -/
theorem receiveByte_rejects (h : s.link.rx = .check k n got)
    (hr : k + n + got.foldl (· + ·) 0 + b ≠ 0 ∨ k = 0 ∨ 0x40 ≤ k.toNat ∨ 2 ≤ s.link.queue.length) :
    ∃ reason, receiveByte b s = makeReject reason k (toHunt s) := by
  rw [receiveByte_check h]
  exact judgeFrame_rejects (by simpa using hr)

/-! ### Requests that the catalogue does not allow -/

theorem unknownOutcome_unknownKind (h : catalogueLengths k.toNat = none) : unknownOutcome k p = some .unknownKind := by
  simp only [unknownOutcome, h]

theorem unknownOutcome_badLength {lo hi : Nat} (h : catalogueLengths k.toNat = some (lo, hi))
    (hp : p.length < lo ∨ hi < p.length) : unknownOutcome k p = some .badLength := by
  have outside : ¬ (decide (lo ≤ p.length) && decide (p.length ≤ hi)) = true := by
    simp only [Bool.and_eq_true, decide_eq_true_eq]; omega
  simp only [unknownOutcome, h, if_neg outside]

/-- R177: such a request, of a kind that joins the queue, answers its outcome in its turn. -/
theorem unknownRequest_answers {o : ReplyCode} (ht : Turn (.unknownRequest k p) s) (h1 : 1 ≤ k.toNat)
    (h2 : k.toNat ≤ 0x3F) (ho : unknownOutcome k p = some o) :
    Answers (.unknownRequest k p) s (answered (.unknownRequest k p) o [] s) := by
  have run : exec (.unknownRequest k p) s = request none k p (replies o []) s := by
    show execUnknownRequest k p s = _
    simp only [execUnknownRequest, ho]
    exact if_neg (by simpa using requestKind_iff.mpr ⟨h1, h2⟩)
  exact .of_eq (exec_request_answered ht rfl run (fun _ => rfl) rfl ht.runs)

/-! ### What the link's commands answer -/

theorem linkByteReceived_badStop_answers (h : s.held = none) :
    Answers (.linkByteReceived b false) s (toHunt s) := .of_eq (perform_runs none _ h)

theorem linkByteReceived_answers (h : s.held = none) (hx : receiveByte b s = x) :
    Answers (.linkByteReceived b true) s x := by
  subst hx
  exact .of_eq (perform_runs none _ h)

theorem linkByteReceived_rejects (h : s.held = none) {reason : Byte} (hx : receiveByte b s = makeReject reason k x) :
    Answers (.linkByteReceived b true) s x :=
  .of_settle (perform_runs none (receiveByte b) h) (hx ▸ keeps_makeReject reason k x)

theorem gapTimeout_answers (h : s.held = none) (hg : s.link.gapTimer ≠ .stopped) : Answers .gapTimeout s (toHunt s) :=
  .of_eq (performWhen_runs none _ ((Timer.isRunning_iff _).mpr hg) h)

/-- Settles O51, place by place. -/
theorem linkReceiverFollowsItsPlaces : Obligations.LinkReceiverFollowsItsPlaces := by
  unfold Obligations.LinkReceiverFollowsItsPlaces
  intro b s hh at_ i
  refine ⟨linkByteReceived_badStop_answers hh, fun hunt hb => ?lead, fun hunt hb => ?notLead, fun kind => ?kind,
    fun k length => ⟨fun hb => ?tooLong, fun hb => ?emptyLength, fun h0 hb => ?length⟩,
    fun k n got payload => ⟨fun hn => ?payloadEnd, fun hn => ?payload⟩,
    fun k n got check => ⟨fun hsum h1 h2 hq => ?queued, fun hr => ?rejected⟩, gapTimeout_answers hh,
    fun k p ht h1 h2 => ⟨fun hc => ?unknownKind, fun lo hi hc hp => ?badLength⟩⟩
  case lead => exact linkByteReceived_answers hh (hb ▸ receiveByte_lead hunt)
  case notLead => exact linkByteReceived_answers hh (receiveByte_notLead hunt hb)
  case kind => exact linkByteReceived_answers hh (receiveByte_kind kind)
  case tooLong => exact linkByteReceived_answers hh (receiveByte_tooLong length hb)
  case emptyLength => exact linkByteReceived_answers hh (hb ▸ receiveByte_emptyLength length)
  case length => exact linkByteReceived_answers hh (receiveByte_length length h0 hb)
  case payloadEnd => exact linkByteReceived_answers hh (receiveByte_payloadEnd payload hn)
  case payload => exact linkByteReceived_answers hh (receiveByte_payload payload hn)
  case queued => exact linkByteReceived_answers hh (receiveByte_queues check hsum h1 h2 hq)
  case rejected =>
    obtain ⟨reason, rejected⟩ := receiveByte_rejects check hr
    exact linkByteReceived_rejects hh rejected
  case unknownKind => exact unknownRequest_answers ht h1 h2 (unknownOutcome_unknownKind hc)
  case badLength => exact unknownRequest_answers ht h1 h2 (unknownOutcome_badLength hc hp)

/-! ### The bytes of a request's frame -/

/-- R175: the check byte makes the sum zero. -/
theorem add_frameCheck (kind : Byte) (payload : List Byte) :
    kind + BitVec.ofNat 8 payload.length + payload.foldl (· + ·) 0 + frameCheck kind payload = 0 := by
  rw [frameCheck, BitVec.ofNat_eq_ofNat, BitVec.zero_sub, BitVec.add_right_neg]

theorem TxFrame.bytes_eq (f : TxFrame) :
    f.bytes = [0xA5, f.kind, BitVec.ofNat 8 f.payload.length] ++ f.payload ++ [frameCheck f.kind f.payload] := rfl

/-- R176: the receiver takes the bytes of a payload one by one, up to the check byte. -/
theorem receiveByte_foldl_payload (hp : p ≠ []) (hn : got.length + p.length = n.toNat)
    (h : s.link.rx = .payload k n got) :
    p.foldl (fun s b => receiveByte b s) s = setRx (.check k n (got ++ p)) gapLimit s := by
  induction p generalizing got s with
  | nil => exact absurd rfl hp
  | cons b rest ih =>
    rw [List.foldl_cons]
    simp only [List.length_cons] at hn
    cases rest with
    | nil => exact receiveByte_payloadEnd h (by simp at hn; omega)
    | cons c rest =>
      rw [receiveByte_payload h (by simp at hn; omega), ih (by simp) (by simp at hn ⊢; omega) rfl]
      simp

/-- R176: the lead byte, the kind, the length and the payload of a frame, up to the check byte. -/
theorem receiveByte_foldl_untilCheck (h : s.link.rx = .hunt) (hp : p.length ≤ 240) :
    ([0xA5, k, BitVec.ofNat 8 p.length] ++ p).foldl (fun s b => receiveByte b s) s =
      setRx (.check k (BitVec.ofNat 8 p.length) p) gapLimit s := by
  have length : (BitVec.ofNat 8 p.length).toNat = p.length := by
    rw [BitVec.toNat_ofNat]; exact Nat.mod_eq_of_lt (by omega)
  simp only [List.cons_append, List.nil_append, List.foldl_cons, receiveByte_lead h, receiveByte_kind (setRx_rx ..),
    setRx_setRx]
  by_cases hnil : p = []
  · subst hnil
    exact receiveByte_emptyLength rfl
  · have nonzero : BitVec.ofNat 8 p.length ≠ 0 := fun h0 => hnil (List.length_eq_zero_iff.mp (length ▸ congrArg _ h0))
    rw [receiveByte_length (setRx_rx ..) nonzero (length.symm ▸ hp),
      receiveByte_foldl_payload hnil (by simp [length]) (setRx_rx ..)]
    rfl

/-- Settles O53: up to the check byte the receiver only collects, and the check byte completes a good frame. -/
theorem frameBytesGiveTheRequest : Obligations.FrameBytesGiveTheRequest := by
  unfold Obligations.FrameBytesGiveTheRequest
  intro source k p s h1 h2 hp hunt hq
  rw [TxFrame.bytes_eq, List.foldl_append, receiveByte_foldl_untilCheck hunt hp, List.foldl_cons, List.foldl_nil,
    receiveByte_queues (setRx_rx ..) (add_frameCheck k p) h1 h2 (by simpa using hq), ← hunt]
  rfl

/-! ### The kinds of frames -/

theorem TxFrame.bytes_length (f : TxFrame) : f.bytes.length = f.payload.length + 4 := by
  simp only [TxFrame.bytes_eq, List.length_append, List.length_cons, List.length_nil]
  omega

/-- R184: the kinds of reports. -/
theorem reports_first_kind {r rest : Reports} (h : r.first = some (k, p, rest)) :
    0x40 ≤ k.toNat ∧ k.toNat ≤ 0x4F := by
  unfold Reports.first at h
  repeat' split at h
  all_goals cases h <;> decide

/-- R180: what an idle transmitter takes, when neither a reply nor a LinkReject waits, is a report. -/
theorem transmitNext_sends_report (h : s.link.sending = none) (ha : s.link.reply = none) (hj : s.link.reject = none)
    (hf : (transmitNext s).link.sending = some f) :
    f.source = .report ∧ 0x40 ≤ f.kind.toNat ∧ f.kind.toNat ≤ 0x4F := by
  cases hr : s.reports.first with
  | none => simp [transmitNext_quiet h ha hj hr, h] at hf
  | some first =>
    obtain ⟨k, p, rest⟩ := first
    rw [transmitNext_report h ha hj hr] at hf
    cases hf
    exact ⟨rfl, reports_first_kind hr⟩

/-- Settles O52: the fields of a frame, what the transmitter takes, and the kinds that are no request's. -/
theorem framesOnTheWire : Obligations.FramesOnTheWire := by
  unfold Obligations.FramesOnTheWire
  refine ⟨fun f => ⟨_, f.bytes_eq, add_frameCheck _ _, f.bytes_length⟩,
    fun s f idle hf =>
      ⟨fun r ha => ?reply, fun j ha hj => ?reject, fun ha hj => transmitNext_sends_report idle ha hj hf⟩,
    fun _ _ => frameArrives_wrongKind, fun _ => rfl⟩
  case reply =>
    rw [transmitNext_reply idle ha] at hf
    cases hf
    exact ⟨rfl, rfl, rfl⟩
  case reject =>
    rw [transmitNext_reject idle ha hj] at hf
    cases hf
    exact ⟨rfl, rfl⟩

end Sys2Proof.Machine
end

section
/-! PROOF. One step takes the front of the queue (95_what_each_step_holds.md). -/

namespace Sys2Proof.Machine

variable {s : State} {c : Instr} {rest : List Instr}

/-! ### The queue written and written back -/

@[simp] theorem State.setPending_setPending (s : State) (p q : List Instr) :
    (s.setPending p).setPending q = s.setPending q := rfl

@[simp] theorem State.setPending_own (s : State) : s.setPending s.pending = s := rfl

/-! ### The step on a queue that holds a command -/

theorem step_of_pending_cons (h : s.pending = c :: rest) : step s = exec c (s.setPending rest) := by
  unfold step
  rw [h]

/-- Settles O1: what the step leaves of the queue is the queue as it was before the command was put in front. -/
theorem stepRunsTheFrontCommand : Obligations.StepRunsTheFrontCommand := by
  unfold Obligations.StepRunsTheFrontCommand
  intro c s
  calc step (s.setPending (c :: s.pending))
      = exec c ((s.setPending (c :: s.pending)).setPending s.pending) := step_of_pending_cons (s.setPending_pending _)
    _ = exec c s := by rw [State.setPending_setPending, State.setPending_own]

end Sys2Proof.Machine
end

section
/-! PROOF. The layout of a block in the store memory and its check (R133, R134): what `withCheck` makes of a body, the data
block, the label and the free block. -/

namespace Sys2Proof.Machine

variable {s : State} {body bytes : List Byte} {w : DataWrite} {i b : Nat}

/-! ### The body of a block and its check -/

/-- The 62 bytes of a block before its check. -/
def blockBody (body : List Byte) : List Byte := (List.range 62).map fun i => body.getD i 0

theorem withCheck_eq (body : List Byte) : withCheck body = blockBody body ++ halfBytes (crc (blockBody body)) := rfl

@[simp] theorem length_blockBody (body : List Byte) : (blockBody body).length = 62 := by simp [blockBody]

theorem blockBody_getD (body : List Byte) (h : i < 62) : (blockBody body).getD i 0 = body.getD i 0 := by
  simp [blockBody, List.getD_eq_getElem?_getD, h]

theorem blockBody_append_getD (body rest : List Byte) (h : i < 62) :
    (blockBody body ++ rest).getD i 0 = body.getD i 0 := by
  rw [List.getD_eq_getElem?_getD, List.getElem?_append_left ((length_blockBody body).symm ▸ h),
    ← List.getD_eq_getElem?_getD, blockBody_getD body h]

/-- The body is read off the first 62 bytes alone. -/
theorem blockBody_append (body rest : List Byte) : blockBody (blockBody body ++ rest) = blockBody body :=
  List.map_congr_left fun _ hi => blockBody_append_getD body rest (List.mem_range.mp hi)

theorem withCheck_take (body : List Byte) : (withCheck body).take 62 = blockBody body := by
  rw [withCheck_eq, List.take_left' (length_blockBody body)]

theorem withCheck_drop (body : List Byte) : (withCheck body).drop 62 = halfBytes (crc (blockBody body)) := by
  rw [withCheck_eq, List.drop_left' (length_blockBody body)]

theorem length_withCheck (body : List Byte) : (withCheck body).length = 64 := by
  simp [withCheck_eq, halfBytes, byte2]

theorem withCheck_getD (body : List Byte) (h : i < 62) : (withCheck body).getD i 0 = body.getD i 0 := by
  rw [withCheck_eq, blockBody_append_getD body _ h]

/-- R133: the check written is the check of the body that is read back. -/
theorem passesCheck_withCheck (body : List Byte) : passesCheck (withCheck body) = true := by
  have check (x y : Byte) : passesCheck (blockBody body ++ [x, y]) = decide (halfBytes (crc (blockBody body)) = [x, y]) := by
    rw [passesCheck, ← blockBody, blockBody_append]
    simp [List.getD_eq_getElem?_getD]
  simp only [withCheck_eq, halfBytes, byte2, check, decide_true]

/-! ### Data blocks -/

theorem dataImage_char {c : Byte} (hlen : w.chars.length ≤ 58) (h : w.chars[i]? = some c) :
    (dataImage w).getD (4 + i) 0 = c := by
  have hi : i < w.chars.length := (List.getElem?_eq_some_iff.mp h).1
  rw [dataImage, withCheck_getD _ (by omega), List.getD_eq_getElem?_getD, List.getElem?_append_right (by simp)]
  simp [h]

theorem dataImage_beyond (hfill : w.chars.length ≤ i) (hi : i < 58) : (dataImage w).getD (4 + i) 0 = 0 := by
  rw [dataImage, withCheck_getD _ (by omega), List.getD_eq_getElem?_getD, List.getElem?_append_right (by simp)]
  simp [hfill]

theorem storeByte_code (c : Code) (poisoned : Bool) : (storeByte c poisoned).setWidth 7 = c := by
  cases poisoned <;> (apply BitVec.eq_of_getLsbD_eq; simp [storeByte])

theorem storeByte_poisoned (c : Code) (poisoned : Bool) : (storeByte c poisoned).getLsbD 7 = poisoned := by
  cases poisoned <;> simp [storeByte]

/-- Settles O42: every image by `withCheck`, the fields of a data block by their places in its body, and the worked check. -/
theorem writtenBlocksPassTheirCheck : Obligations.WrittenBlocksPassTheirCheck := by
  unfold Obligations.WrittenBlocksPassTheirCheck
  refine ⟨fun body => ⟨length_withCheck body, passesCheck_withCheck body, fun _ => withCheck_getD body⟩, fun w hlen => ?_,
    fun c poisoned => ⟨storeByte_code c poisoned, storeByte_poisoned c poisoned⟩, by decide +kernel⟩
  have field {i : Nat} (hi : i < 62) := withCheck_getD
    ([BitVec.ofNat 8 w.document, BitVec.ofNat 8 w.seq, BitVec.ofNat 8 w.chars.length, w.flags] ++ w.chars) hi
  exact ⟨length_withCheck _, passesCheck_withCheck _, field (i := 0) (by decide), field (i := 1) (by decide),
    field (i := 2) (by decide), field (i := 3) (by decide), fun _ _ => dataImage_char hlen,
    fun _ => dataImage_beyond⟩

/-! ### The label and the free block -/

theorem mountRead_label {r : ReadResult} (hr : r.passed = true) (h : bytes = labelImage) (s : State) :
    mountRead r bytes 0 s = mountOn 0 s := by
  subst h
  simp [mountRead, hr, isLabel]

/-- R136: a memory without the label is UNFORMATTED. -/
theorem mountRead_unformatted {r : ReadResult} (h : r.passed = false ∨ bytes ≠ labelImage) (s : State) :
    mountRead r bytes 0 s = mountEnds .unformatted .unformatted s := by
  have unlabelled : (r.passed && isLabel bytes) = false := by
    rw [Bool.and_eq_false_iff, isLabel, decide_eq_false_iff_not]
    exact h
  rw [mountRead, if_pos rfl, unlabelled, if_neg Bool.false_ne_true]

theorem mountBlock_free {r : ReadResult} (h : bytes.getD 0 0 = 0) (b : Nat) (s : State) :
    mountBlock r bytes b s = s := by
  simp only [mountBlock, h]
  simp

/-- Settles O43: the bytes of the two images, and the three readings of the mount. -/
theorem labelAndFreeBlockImages : Obligations.LabelAndFreeBlockImages := by
  unfold Obligations.LabelAndFreeBlockImages
  refine ⟨length_withCheck _, rfl, rfl, ?_, length_withCheck _, ?_, ?_, fun r bytes s =>
    ⟨fun ⟨hr, h⟩ => mountRead_label hr h s, fun h => ?_, fun b _ h => mountBlock_free h b s⟩⟩
  · rw [labelImage, withCheck_drop, withCheck_take]
  · rw [freeImage, withCheck_take]
    rfl
  · rw [freeImage, withCheck_drop, withCheck_take]
  · simp [mountRead_unformatted h s, mountEnds]

end Sys2Proof.Machine
end

section
/-! PROOF. A reset in a measurement's own step (R145, R171, R172): the settling of a SUPPLY_MEASUREMENT may start a block write
and then a dot line whose snapshot is a brownout, so that the reset spoils a block of which no write was in flight. -/

namespace Sys2Proof.Machine

variable {s : State} {job : Job} {rest : List Job} {v i : Nat} {f : InFlight}

/-! ### The reset -/

theorem abandonWrite_of_isWrite (hf : s.store.inFlight = some f) (hw : f.op.isWrite = true) :
    abandonWrite s = spoilBlock f.block s := by
  obtain ⟨c, op, b, again, discarded⟩ := f
  cases op with
  | statusRead | read => simp [PortOp.isWrite] at hw
  | dataWrite w => simp [abandonWrite, hf]
  | releaseWrite => simp [abandonWrite, hf]

/-- R145: a reset leaves the block of the write in flight in an unknown state. -/
theorem read_resetPart_inside (c : ResetCause) (hf : s.store.inFlight = some f) (hw : f.op.isWrite = true)
    (hm : Memory.wf s.mem = true) (hi : i < 64) :
    Memory.read (resetPart c s).mem (64 * f.block + i) = Config.unknownByte s.draws i := by
  have spoilt : (resetPart c s).mem = (spoilBlock f.block s).mem := by
    rw [← abandonWrite_of_isWrite hf hw]
    rfl
  rw [spoilt, spoilBlock, State.setDraws_mem, writeBlock, State.setMem_mem,
    Memory.read_writeBytes_inside _ _ _ hm (by simpa using hi)]
  simp [sized, hi]

/-! ### A snapshot that is a brownout -/

/-- R91, R171: the reset finds the store as it was when the dot line started. -/
theorem engineSettle_brownout (idle : s.engine.state = .idle) (placed : s.comp.output = job :: rest)
    (stands : (judgeConditions s.supply.power s.supply.therm s.engine).1.standing = none) (hv : v < 5000) :
    ∃ x : State, engineSettle v s = resetPart .brownout x ∧ x.store = s.store ∧ x.mem = s.mem ∧ x.draws = s.draws := by
  have low : measured v < brownoutLevel := by unfold measured brownoutLevel; omega
  have settles : engineSettle v s = atBoundary v [] (s.setEngine { s.engine with position := some 0 }) := by
    simp [engineSettle, idle, placed]
  have still : (judgeConditions s.supply.power s.supply.therm { s.engine with position := some 0 }).1.standing = none := by
    simpa [standing_eq, judgeConditions_fst] using stands
  rw [settles, atBoundary_starts v [] (s.setEngine { s.engine with position := some 0 }) still placed, startDotLine_eq]
  simp only [snapMeasure, if_pos low]
  exact ⟨_, rfl, by simp [linePlanned], by simp [linePlanned], by simp [linePlanned]⟩

/-- The settling of a step comes to the store port before the Engine. -/
theorem settle_brownout (s0 : State) (runs : s.held = none) (idle : s.engine.state = .idle)
    (placed : s.comp.output = job :: rest)
    (stands : (judgeConditions s.supply.power s.supply.therm s.engine).1.standing = none) (hv : v < 5000) :
    ∃ x : State, settle s0 (some v) s = resetPart .brownout x ∧ x.store.inFlight = (storeSettle s).store.inFlight ∧
      x.mem = s.mem ∧ x.draws = s.draws := by
  have kept := storeInputSettle_keeps s0 s
  obtain ⟨x, hx, store, mem, draws⟩ := engineSettle_brownout (by rw [kept.engine, idle]) (kept.output.trans placed)
    (by rw [kept.engine, kept.supply]; exact stands) hv
  refine ⟨x, ?_, by simp [store], mem.trans kept.mem, draws.trans kept.draws⟩
  simp only [settle, runs, hx]
  rfl

/-! ### The witness -/

/-- The store with document 1 being deleted: its one block, block 5, waits for its release. -/
def deletingStore : Store where
  state := .ready
  dir := put (Vector.replicate 31 {}) 0 { state := .deleting, blocks := [⟨0, 5, 58, 0⟩] }
  free := (List.range' 1 511).filter (· ≠ 5)
  jobs := [⟨1, false⟩]

/-- A part that runs on a good battery, with a delete's release waiting and with a feed for an IDLE Engine. -/
def releaseAndFeedWait (m : Memory) : State where
  held := none
  mem := m
  store := deletingStore
  comp := { output := [.feed 1 none] }
  supply := ⟨7200, .temp 25, .normal⟩

/-- Some memory's first byte of block 5 is not what the first block in an unknown state begins with. -/
theorem exists_knownMemory : ∃ m : Memory, (m = [] ∨ m = [(320, 1)]) ∧ Memory.read m 320 ≠ Config.unknownByte 0 0 := by
  by_cases h : Config.unknownByte 0 0 = 0
  · exact ⟨[(320, 1)], .inr rfl, by rw [h]; decide⟩
  · exact ⟨[], .inl rfl, fun e => h e.symm⟩

/-- The release starts in the settling. -/
theorem releaseAndFeedWait_starts {m : Memory} (hm : m = [] ∨ m = [(320, 1)]) :
    (storeSettle (releaseAndFeedWait m)).store.inFlight = some ⟨.maintenance, .releaseWrite, 5, false, false⟩ := by
  rcases hm with rfl | rfl <;> decide +kernel

theorem measure_releaseAndFeedWait (m : Memory) :
    measure 7200 (.temp 25) 4000 none (releaseAndFeedWait m) = releaseAndFeedWait m := by rfl

/-- A measurement of 7200 mV that changes nothing, with a snapshot of 4000 mV. -/
def measurementWithLowSnapshot : Instr := .supplyMeasurement 7200 (.temp 25) ⟨4000, {}⟩

/-- The measurement ends in a reset that finds the release in flight and the memory as it was. -/
theorem releaseAndFeedWait_measured {m : Memory} (hm : m = [] ∨ m = [(320, 1)]) : ∃ x : State,
    exec measurementWithLowSnapshot (releaseAndFeedWait m) = .next (resetPart .brownout x) ∧
      x.store.inFlight = some ⟨.maintenance, .releaseWrite, 5, false, false⟩ ∧ x.mem = m ∧ x.draws = 0 := by
  obtain ⟨x, settles, inFlight, mem, draws⟩ := settle_brownout (s := releaseAndFeedWait m) (v := 4000)
    (releaseAndFeedWait m) rfl rfl rfl rfl (by decide)
  refine ⟨x, ?_, inFlight.trans (releaseAndFeedWait_starts hm), mem, draws⟩
  rw [← settles]
  exact (perform_runs (some 4000) _ rfl).trans (by rw [measure_releaseAndFeedWait])

/-- Refutes O44: its last clause. No write is in flight before the measurement, so every byte should stay; the settling starts
the release of block 5, then the feed's dot line, and the snapshot's brownout spoils that block. The statement speaks of every
state, so also of this one, in which a release and a job wait that the last settling would have started. -/
theorem not_onlyBlockWritesChangeTheStoreMemory : ¬ Obligations.OnlyBlockWritesChangeTheStoreMemory := by
  unfold Obligations.OnlyBlockWritesChangeTheStoreMemory
  rintro ⟨-, -, -, spares⟩
  obtain ⟨m, hm, known⟩ := exists_knownMemory
  obtain ⟨x, steps, writing, mem, draws⟩ := releaseAndFeedWait_measured hm
  have wf : Memory.wf m = true := by rcases hm with rfl | rfl <;> rfl
  have spared : Memory.read (resetPart .brownout x).mem 320 = Memory.read m 320 :=
    spares _ _ _ steps (by nofun) (.inr (.inr (.inr ⟨_, _, _, rfl⟩))) 320 (by nofun)
  have spoilt : Memory.read (resetPart .brownout x).mem 320 = Config.unknownByte 0 0 := by
    have inside := read_resetPart_inside (i := 0) .brownout writing rfl (by rw [mem]; exact wf) (by decide)
    rwa [draws] at inside
  exact known (spared.symm.trans spoilt)

end Sys2Proof.Machine
end

section
/-! PROOF. The canonical form of the store memory at every step (R144, R145, log entry 8): only a write attempt and a reset write
into it, and both write whole blocks. -/

namespace Sys2Proof.Machine

variable {s t : State}

/-- The store memory is in canonical form. -/
def CanonicalMemory (s : State) : Prop := Memory.wf s.mem = true

theorem CanonicalMemory.of_same (h : CanonicalMemory s) (same : t.mem = s.mem) : CanonicalMemory t := by
  rw [CanonicalMemory, same]
  exact h

theorem CanonicalMemory.setLink (l : Link) (h : CanonicalMemory s) : CanonicalMemory (s.setLink l) := h.of_same rfl

/-! ### Write attempts -/

theorem dataWriteDone_canonical (c : PortClaimant) (w : DataWrite) (b : Nat) (h : CanonicalMemory s) :
    CanonicalMemory (dataWriteDone c w b s) := by
  have written : CanonicalMemory (writeBlock b (dataImage w) s) := writeBlock_wf b _ h
  unfold dataWriteDone
  dsimp only
  split <;> exact written.of_same (by simp)

theorem attemptFailed_canonical (c : PortClaimant) (w : DataWrite) (b : Nat) (h : CanonicalMemory s) :
    CanonicalMemory (attemptFailed c w b s) := by
  have spoilt : CanonicalMemory (spoilBlock b s) := spoilBlock_wf b h
  unfold attemptFailed
  dsimp only
  (repeat' split) <;> exact spoilt.of_same (by simp)

theorem releaseDone_canonical (b : Nat) (h : CanonicalMemory s) : CanonicalMemory (releaseDone b s) := by
  have written (image : List Byte) : CanonicalMemory (writeBlock b image s) := writeBlock_wf b _ h
  unfold releaseDone
  split
  · exact (written (if b = 0 then labelImage else freeImage)).of_same (by simp)
  · exact (written freeImage).of_same (by simp)

theorem releaseFailed_canonical (b : Nat) (h : CanonicalMemory s) : CanonicalMemory (releaseFailed b s) := by
  have spoilt : CanonicalMemory (spoilBlock b s) := spoilBlock_wf b h
  unfold releaseFailed
  dsimp only
  (repeat' split) <;> exact spoilt.of_same (by simp)

theorem writeOutcome_canonical (matched : Bool) (h : CanonicalMemory s) : CanonicalMemory (writeOutcome matched s) := by
  unfold writeOutcome
  split
  · exact h
  next f _ =>
    have freed : CanonicalMemory (s.setStore { s.store with inFlight := none }) := h.of_same rfl
    split
    · unfold attemptDone
      split
      · exact dataWriteDone_canonical _ _ _ freed
      · exact releaseDone_canonical _ freed
      all_goals exact freed
    split
    · unfold attemptLost
      split
      · exact attemptFailed_canonical _ _ _ freed
      · exact releaseFailed_canonical _ freed
      all_goals exact freed
    · exact h.of_same (by simp)

/-! ### What can end in a reset -/

theorem resetPart_canonical (c : ResetCause) (h : CanonicalMemory s) : CanonicalMemory (resetPart c s) := resetPart_wf c h

theorem snapMeasure_canonical (v : Nat) (h : CanonicalMemory s) : CanonicalMemory (snapMeasure v s) := by
  unfold snapMeasure
  split
  · exact resetPart_canonical _ (h.of_same rfl)
  · exact h.of_same (by simp)

theorem startDotLine_canonical (v : Nat) (job : Job) (h : CanonicalMemory s) : CanonicalMemory (startDotLine v job s) := by
  have measured := snapMeasure_canonical (measured v)
    (h.of_same (t := linePlanned v job (s.engine.position.getD 0) s) (by simp [linePlanned]))
  rw [startDotLine_eq]
  dsimp only
  split
  · exact measured
  · exact measured.of_same (by simp)

theorem atBoundary_canonical (v : Nat) (evs : List PrintEvent) (h : CanonicalMemory s) :
    CanonicalMemory (atBoundary v evs s) := by
  unfold atBoundary
  dsimp only
  split
  · exact h.of_same (by simp)
  split
  · exact startDotLine_canonical _ _ (h.of_same (by simp))
  · exact h.of_same (by simp)

theorem engineSettle_canonical (v : Nat) (h : CanonicalMemory s) : CanonicalMemory (engineSettle v s) := by
  unfold engineSettle
  split
  · exact atBoundary_canonical _ _ (h.of_same rfl)
  · exact h

theorem engineChanged_canonical (v : Nat) (evs : List PrintEvent) (h : CanonicalMemory s) :
    CanonicalMemory (engineChanged v evs s) := by
  unfold engineChanged
  split
  · exact h
  split
  · split
    · exact h.of_same (by simp)
    · exact atBoundary_canonical _ _ h
  · exact h.of_same (by simp)

theorem completeLine_canonical (v : Nat) (h : CanonicalMemory s) : CanonicalMemory (completeLine v s) := by
  have advanced : CanonicalMemory (advancePosition (lineFired s)) := h.of_same (by simp [lineFired])
  unfold completeLine
  dsimp only
  split
  · exact advanced.of_same (by simp [lineFired])
  · exact atBoundary_canonical _ _ advanced

theorem supplyReading_canonical (v : Nat) (r : Therm) (h : CanonicalMemory s) : CanonicalMemory (supplyReading v r s) := by
  unfold supplyReading
  dsimp only
  split
  · exact resetPart_canonical _ (h.of_same rfl)
  · exact h.of_same (by simp)

theorem coincide_canonical (r : Coincident) (h : CanonicalMemory s) : CanonicalMemory (coincide r s) := by
  have seen : CanonicalMemory (paperSeen r.paper s) := h.of_same (by simp)
  unfold coincide
  dsimp only
  split
  · exact supplyReading_canonical _ _ seen
  · exact seen

theorem measure_canonical (v : Nat) (r : Therm) (snap : Nat) (paper : Option Bool) (h : CanonicalMemory s) :
    CanonicalMemory (measure v r snap paper s) := by
  have read := supplyReading_canonical v r h
  have judged : CanonicalMemory (heatCondition (powerCondition (paperSeen paper (supplyReading v r s))).1).1 :=
    read.of_same (by simp)
  unfold measure engineMeasured
  dsimp only
  split
  · exact read
  split
  · exact judged
  · exact engineChanged_canonical _ _ judged

theorem paperRestored_canonical (v : Nat) (r : Coincident) (h : CanonicalMemory s) :
    CanonicalMemory (paperRestored v r s) :=
  engineChanged_canonical _ _ (coincide_canonical r (h.of_same (t := paperTimed s) (by simp [paperTimed])))

theorem clearHeadEffect_canonical (v : Nat) (r : Coincident) (h : CanonicalMemory s) :
    CanonicalMemory (clearHeadEffect v r s).1 := by
  unfold clearHeadEffect
  split
  · split
    · exact engineChanged_canonical _ _ (coincide_canonical r (h.of_same (t := haltCleared s) (by simp [haltCleared])))
    · exact h
  · exact h

theorem settle_canonical : SettleKeeps CanonicalMemory :=
  settleKeeps_of (fun _ _ h => h.of_same (by simp)) (fun v _ => engineSettle_canonical v) (fun _ h => h.of_same (by simp))

/-! ### Every command -/

theorem request_canonical {volts : Option Nat} {kind : Byte} {payload : List Byte} {effect : State → State × List Byte}
    (h : CanonicalMemory s) (he : ∀ x, CanonicalMemory x → CanonicalMemory (effect x).1) :
    After CanonicalMemory (request volts kind payload effect s) :=
  settle_canonical.request (fun l hx => CanonicalMemory.setLink l hx) h he

theorem execStoreReadBlock_canonical (index : Half) (h : CanonicalMemory s) :
    After CanonicalMemory (execStoreReadBlock index s) := by
  unfold execStoreReadBlock
  refine settle_canonical.perform h ?_
  unfold askLinkRead
  (repeat' split) <;> exact h.of_same (by simp)

theorem execSupplyMeasurement_canonical (v : Nat) (r : Therm) (m : Resumption) (h : CanonicalMemory s) :
    After CanonicalMemory (execSupplyMeasurement v r m s) := by
  unfold execSupplyMeasurement
  split
  · exact after_next (h.of_same (by simp))
  · exact settle_canonical.perform h (measure_canonical _ _ _ _ h)

theorem execStartUp_canonical (v : Nat) (r : Therm) (paper : Bool) (h : CanonicalMemory s) :
    After CanonicalMemory (execStartUp v r paper s) := by
  unfold execStartUp
  split
  · exact after_next h
  split
  · exact after_next (settle_canonical _ _ _ (h.of_same (by simp [startPart])))
  · exact after_next (h.of_same (by simp))

theorem execUnknownRequest_canonical (k : Byte) (p : List Byte) (h : CanonicalMemory s) :
    After CanonicalMemory (execUnknownRequest k p s) := by
  unfold execUnknownRequest
  split
  · exact after_next h
  split
  · exact settle_canonical.perform h (h.of_same (by simp))
  · exact request_canonical h fun _ hx => hx

theorem execLinkFrameSent_canonical (h : CanonicalMemory s) : After CanonicalMemory (execLinkFrameSent s) := by
  unfold execLinkFrameSent
  split
  · refine settle_canonical.perform h ?_
    unfold frameSent
    split
    · exact resetPart_canonical _ (h.of_same (by simp))
    · exact h.of_same (by simp)
  · exact after_next h

theorem setParameterEffect_mem (id : Byte) (x : Half) (s : State) : (setParameterEffect id x s).1.mem = s.mem := by
  unfold setParameterEffect
  (repeat' split) <;> simp

theorem exec_canonical (c : Instr) (s : State) (h : CanonicalMemory s) : After CanonicalMemory (exec c s) := by
  cases c with
  -- Write attempts
  | blockWriteAttemptComplete _ => exact settle_canonical.performWhen h fun _ => writeOutcome_canonical _ h
  -- Commands that can end in a reset
  | dotLineComplete _ => exact settle_canonical.performWhen h fun _ => completeLine_canonical _ h
  | paperPresentExpiry _ => exact settle_canonical.performWhen h fun _ => paperRestored_canonical _ _ h
  | clearHead _ => exact request_canonical h fun _ => clearHeadEffect_canonical _ _
  | supplyMeasurement _ _ _ => exact execSupplyMeasurement_canonical _ _ _ h
  | powerOn => exact after_next (resetPart_canonical _ h)
  | linkFrameSent => exact execLinkFrameSent_canonical h
  -- The rest leave the memory as it was
  | startUp _ _ _ => exact execStartUp_canonical _ _ _ h
  | unknownRequest _ _ => exact execUnknownRequest_canonical _ _ h
  | storeReadBlock _ => exact execStoreReadBlock_canonical _ h
  | setParameter _ _ => exact request_canonical h fun x hx => hx.of_same (setParameterEffect_mem _ _ x)
  | keyScan _ | paperSensorReading _ => exact settle_canonical.perform h (h.of_same (by simp))
  | linkByteReceived _ goodStop => cases goodStop <;> exact settle_canonical.perform h (h.of_same (by simp))
  | shiftStageEmpties =>
    exact settle_canonical.performWhen h fun _ => by dsimp only; split <;> exact h.of_same (by simp)
  | breakWatchMark | autoRepeatExpiry =>
    simp only [exec, execBreakWatchMark, execAutoRepeatExpiry]
    split
    · exact settle_canonical.perform h (h.of_same (by simp))
    · exact after_next h
  | printDeposit _ | composerTakeHead _ =>
    simp only [exec, execPrintDeposit, execComposerTakeHead]
    split
    · exact settle_canonical.performWhen h fun _ => h.of_same (by simp)
    · exact after_next h
  | carrierMeasurement _ | qualifyTimeExpiry | connectTimeout | lossTimeExpiry | receiveCharacterComplete _
  | breakReceived | markWaitEnd | dispatchHead | textHeadDelivery | holdingStageRefill | breakSpaceEnd
  | breakMarkEnd | translateKeyHead _ | feedRepeatExpiry _ _ | beeperToneEnd _ | ownershipTimeout | idleFlushExpiry _
  | coolDownExpiry | hotTimerExpiry | elementPatrolExpiry | elementMeasurementComplete _ | statusReadComplete _
  | blockReadRetry | blockReadComplete _ | writeCompareMismatch | storePatrolExpiry | gapTimeout | candidateStartBit
  | falseStart =>
    exact settle_canonical.performWhen h fun _ => h.of_same (by simp)
  | connect _ | drop | transmitText _ | sendBreak | setAnswerback _ | setKeymapEntry _ _ _ | setKeyboardMode _ | lockKeyboard _
  | readKeys | printText _ | paperFeed _ _ | setHeadMark _ _ | clearHeadMap | readHeadMap | delete _ | formatStore | remount
  | storeInfo | docList | docInfo _ | send _ | stopSend | reprint _ _ | stopReprint | composeStart _ _ | composeEnd | reset
  | identify | getStatus _ | getParameter _ | readFaults | clearFaults =>
    refine request_canonical h fun x hx => ?_
    simp only [connectEffect, dropEffect, transmitTextEffect, sendBreakEffect, setAnswerbackEffect, setKeymapEntryEffect,
      setKeyboardModeEffect, lockKeyboardEffect, readKeysEffect, printTextEffect, paperFeedEffect, setHeadMarkEffect,
      clearHeadMapEffect, readHeadMapEffect, deleteEffect, formatStoreEffect, remountEffect, storeInfoEffect, docListEffect,
      docInfoEffect, sendEffect, stopSendEffect, reprintEffect, stopReprintEffect, composeStartEffect, composeEndEffect,
      resetEffect, identifyEffect, getStatusEffect, getParameterEffect, readFaultsEffect, clearFaultsEffect]
    (repeat' split) <;> exact hx.of_same (by simp)

/-- Settles O56: what writes into the memory writes whole blocks, and every block written keeps the form. -/
theorem everyStepKeepsTheMemoryCanonical : Obligations.EveryStepKeepsTheMemoryCanonical := by
  unfold Obligations.EveryStepKeepsTheMemoryCanonical
  intro s t h ht
  exact step_keeps (fun _ _ hx => CanonicalMemory.of_same hx rfl) exec_canonical h t ht

end Sys2Proof.Machine
end

section
/-! PROOF. The directory (R139, R140): the entries after each of the Store controller's updates. -/

namespace Sys2Proof.Machine

variable {s t : State} {e : DirEntry} {n m b : Nat}

/-! ### Entries -/

theorem isDocument_iff : isDocument n = true ↔ 1 ≤ n ∧ n ≤ 31 := by simp [isDocument]

theorem isDocument_false_iff : isDocument n = false ↔ n = 0 ∨ 31 < n := by
  rw [← Bool.not_eq_true, isDocument_iff]
  omega

theorem dirEntry_congr (h : t.store.dir = s.store.dir) (n : Nat) : dirEntry t n = dirEntry s n := by
  rw [dirEntry, h, dirEntry]

theorem dirEntry_setDirEntry_self (hn : isDocument n = true) (e : DirEntry) (s : State) :
    dirEntry (setDirEntry n e s) n = e := by
  have := isDocument_iff.mp hn
  rw [setDirEntry, if_pos hn]
  exact nth_put_self _ _ _ (by omega)

/-- Another document's entry; the number 0 reads as document 1 does. -/
theorem dirEntry_setDirEntry_ne (h : m - 1 ≠ n - 1) (e : DirEntry) (s : State) :
    dirEntry (setDirEntry n e s) m = dirEntry s m := by
  unfold setDirEntry
  split
  · exact nth_put_ne _ _ _ h
  · rfl

theorem dirEntry_setDirEntry_document (hn : isDocument n = true) (h : n ≠ m) (e : DirEntry) (s : State) :
    dirEntry (setDirEntry m e s) n = dirEntry s n := by
  cases hm : isDocument m with
  | false => simp [setDirEntry, hm]
  | true =>
    have := isDocument_iff.mp hn
    have := isDocument_iff.mp hm
    exact dirEntry_setDirEntry_ne (by omega) e s

/-- What is done to each entry alike, and leaves an empty one empty. -/
theorem dirEntry_map {f : DirEntry → DirEntry} (hf : f {} = {}) (ht : t.store.dir = s.store.dir.map f) (n : Nat) :
    dirEntry t n = f (dirEntry s n) := by
  unfold dirEntry
  rw [ht]
  by_cases hn : n - 1 < 31
  · simp [nth, hn]
  · simp [nth, Nat.le_of_not_lt hn, hf]

/-! ### The Store controller's updates -/

theorem dirEntry_dropStray (b : Nat) (s : State) (n : Nat) :
    dirEntry (dropStray b s) n = { dirEntry s n with strays := without b (dirEntry s n).strays } :=
  dirEntry_map (f := fun e => { e with strays := without b e.strays }) rfl rfl n

theorem dirEntry_dropListed (b : Nat) (s : State) (n : Nat) :
    dirEntry (dropListed b s) n = { dirEntry s n with blocks := dropRef b (dirEntry s n).blocks } :=
  dirEntry_map (f := fun e => { e with blocks := dropRef b e.blocks }) rfl rfl n

theorem dirEntry_joinBad (b : Nat) (s : State) (n : Nat) : dirEntry (joinBad b s) n =
    { dirEntry s n with blocks := dropRef b (dirEntry s n).blocks, strays := without b (dirEntry s n).strays } := by
  have dropped := dirEntry_dropListed b (dropStray b s) n
  rw [dirEntry_dropStray] at dropped
  exact dropped

theorem dirEntry_joinList (hn : isDocument n = true) (r : BlockRef) (s : State) : dirEntry (joinList n r s) n =
    { dirEntry s n with blocks := insertRef r (dirEntry s n).blocks } :=
  dirEntry_setDirEntry_self hn _ _

theorem dirEntry_recordStore (docs : List Nat) (damage : Bool) (o : Option StoreOutcome) (s : State) (n : Nat) :
    dirEntry (recordStore docs damage o s) n = dirEntry s n := dirEntry_congr (by simp) n

theorem dirEntry_recordDone (c : DoneChannel) (o : ChannelOutcome) (docs : List Nat) (s : State) (n : Nat) :
    dirEntry (recordDone c o docs s) n = dirEntry s n := dirEntry_congr (by simp) n

theorem dirEntry_closeDoc_self (hn : isDocument n = true) (f : DocFlags → DocFlags) (s : State) :
    dirEntry (closeDoc n f s) n = { dirEntry s n with
      state := .closed, pendingDamage := false
      flags := { f (dirEntry s n).flags with
        damaged := (f (dirEntry s n).flags).damaged || (dirEntry s n).pendingDamage } } := by
  rw [closeDoc, dirEntry_recordStore, dirEntry_setDirEntry_self hn]

theorem dirEntry_closeDoc_document (hn : isDocument n = true) (h : n ≠ m) (f : DocFlags → DocFlags) (s : State) :
    dirEntry (closeDoc m f s) n = dirEntry s n := by
  rw [closeDoc, dirEntry_recordStore, dirEntry_setDirEntry_document hn h]

end Sys2Proof.Machine
end

section
/-! PROOF. The store's requests that act: Delete, FormatStore, Remount and StoreReadBlock (R135, R148 to R151). -/

namespace Sys2Proof.Machine

variable {s : State} {d : Byte} {x : Half}

theorem storeResponds_iff (s : State) : storeResponds s = true ↔ s.store.state = .ready ∨ s.store.state = .unformatted := by
  simp [storeResponds]

/-! ### Delete -/

theorem deleteEffect_notReady (h : s.store.state ≠ .ready) : deleteEffect d s = replies .notReady [] s := by
  simp [deleteEffect, storeReady, h]

section Delete

variable (hr : s.store.state = .ready)
include hr

theorem deleteEffect_badValue (hn : isDocument d.toNat = false) : deleteEffect d s = replies .badValue [] s := by
  simp [deleteEffect, storeReady, hr, hn]

variable (hn : isDocument d.toNat = true)
include hn

theorem deleteEffect_conflict (hc : (dirEntry s d.toNat).state ≠ .closed) : deleteEffect d s = replies .conflict [] s := by
  simp [deleteEffect, storeReady, hr, hn, hc]

variable (hc : (dirEntry s d.toNat).state = .closed)
include hc

theorem deleteEffect_busy (hj : ∃ j ∈ s.store.jobs, j.forTake = false) : deleteEffect d s = replies .busy [] s := by
  simp [deleteEffect, storeReady, hr, hn, hc, hj]

theorem deleteEffect_done (hj : ∀ j ∈ s.store.jobs, j.forTake = true) : deleteEffect d s = replies .done []
    ((holdDoc d.toNat .deleting s).setStore { (holdDoc d.toNat .deleting s).store with
      jobs := s.store.jobs ++ [⟨d.toNat, false⟩] }) := by
  have taken : s.store.jobs.any (!·.forTake) = false := by simpa using hj
  simp [deleteEffect, storeReady, hr, hn, hc, taken, holdDoc]

end Delete

/-! ### FormatStore and Remount -/

theorem formatStoreEffect_notReady (h : storeResponds s = false) : formatStoreEffect s = replies .notReady [] s := by
  simp [formatStoreEffect, h]

theorem formatStoreEffect_busy (hr : storeResponds s = true) (hi : storeIdle s = false) :
    formatStoreEffect s = replies .busy [] s := by simp [formatStoreEffect, hr, hi]

theorem formatStoreEffect_done (hr : storeResponds s = true) (hi : storeIdle s = true) :
    formatStoreEffect s = replies .done [] (beginFormat s) := by simp [formatStoreEffect, hr, hi]

theorem remountEffect_notReady (h : storeAnswers s = false) : remountEffect s = replies .notReady [] s := by
  simp [remountEffect, h]

theorem remountEffect_busy (hr : s.store.state = .ready) (hi : storeIdle s = false) :
    remountEffect s = replies .busy [] s := by simp [remountEffect, storeAnswers, storeReady, hr, hi]

theorem remountEffect_done (ha : storeAnswers s = true) (hi : s.store.state = .ready → storeIdle s = true) :
    remountEffect s = replies .done [] (beginMount (withdrawPatrol s)) := by
  have free : (storeReady s && !storeIdle s) = false := by
    simpa [storeReady] using hi
  simp [remountEffect, ha, free]

/-- R149, R150: the patrol's read stays when it is in flight. -/
theorem withdrawPatrol_patrolRead (s : State) : (withdrawPatrol s).store.patrolRead =
    if (s.store.inFlight.map (·.claimant)) = some .patrol then s.store.patrolRead else none := by
  unfold withdrawPatrol
  split
  next h => simp [h]
  next h =>
    rw [if_neg]
    · rfl
    · rintro he
      obtain ⟨⟨c, op, b, again, discarded⟩, hf, rfl⟩ := Option.map_eq_some_iff.mp he
      exact h _ _ _ _ hf

/-- R149: the format begins, the emptied directory apart. -/
theorem beginFormat_keeps (s : State) : Keeps (s.setStore { s.store with
    state := .formatting, formatNext := 0, patrolTimer := .stopped,
    free := (List.range' 1 511).filter fun b => !s.store.bad.contains b,
    patrolRead := if (s.store.inFlight.map (·.claimant)) = some .patrol then s.store.patrolRead else none })
    (beginFormat s) := by
  constructor <;> simp [beginFormat, withdrawPatrol_patrolRead, emptyDirectory]

/-- R136, R150: the mount begins, the emptied directory apart. -/
theorem beginMount_keeps (s : State) : Keeps (s.setStore { s.store with
    state := .mounting, mountNext := none, patrolPos := 0, patrolTimer := .stopped,
    free := (List.range' 1 511).filter fun b => !s.store.bad.contains b,
    patrolRead := if (s.store.inFlight.map (·.claimant)) = some .patrol then s.store.patrolRead else none })
    (beginMount (withdrawPatrol s)) := by
  constructor <;> simp [beginMount, withdrawPatrol_patrolRead, emptyDirectory]

theorem withdrawPatrol_setLink (l : Link) (s : State) : withdrawPatrol (s.setLink l) = (withdrawPatrol s).setLink l := by
  simp only [withdrawPatrol, State.setLink_store]
  split <;> rfl

theorem beginFormat_setLink (l : Link) (s : State) : beginFormat (s.setLink l) = (beginFormat s).setLink l := by
  rw [beginFormat, withdrawPatrol_setLink]
  rfl

theorem beginMount_setLink (l : Link) (s : State) : beginMount (s.setLink l) = (beginMount s).setLink l := rfl

/-! ### StoreReadBlock -/

/-- R151, R179: in its turn, StoreReadBlock answers a refusal or stands at the head until its read completes. -/
theorem exec_storeReadBlock (ht : Turn (.storeReadBlock x) s) : exec (.storeReadBlock x) s =
    .next (settle s none (askLinkRead ⟨0x2A, halfBytes x⟩ x.toNat (standAtHead ⟨0x2A, halfBytes x⟩ s))) := by
  have turn : inTurn ⟨0x2A, halfBytes x⟩ s = true := ht.inTurn rfl
  simp only [exec, execStoreReadBlock]
  rw [perform_runs none _ ht.runs, if_pos turn]

/-- A StoreReadBlock that is refused is answered like any other request. -/
theorem storeReadBlock_refused {o : ReplyCode} (ht : Turn (.storeReadBlock x) s)
    (hx : ∀ l, askLinkRead ⟨0x2A, halfBytes x⟩ x.toNat (s.setLink l) = formReply ⟨0x2A, halfBytes x⟩ [o.byte] (s.setLink l)) :
    Answers (.storeReadBlock x) s (answered (.storeReadBlock x) o [] s) := by
  obtain ⟨q, hq, htail⟩ := standAtHead_eq ⟨0x2A, halfBytes x⟩ s
  refine .of_eq (s0 := s) ?_
  rw [exec_storeReadBlock ht, hq, hx, formReply_queue _ (by simpa using ht.runs)]
  simp [answered, requestOf, htail, State.setLink]

theorem storeReadBlock_notReady (ht : Turn (.storeReadBlock x) s) (h : storeResponds s = false) :
    Answers (.storeReadBlock x) s (answered (.storeReadBlock x) .notReady [] s) :=
  storeReadBlock_refused ht fun l => by simp [askLinkRead, show storeResponds (s.setLink l) = false from h]

theorem storeReadBlock_badValue (ht : Turn (.storeReadBlock x) s) (h : storeResponds s = true) (hx : 511 < x.toNat) :
    Answers (.storeReadBlock x) s (answered (.storeReadBlock x) .badValue [] s) :=
  storeReadBlock_refused ht fun l => by simp [askLinkRead, show storeResponds (s.setLink l) = true from h, hx]

theorem storeReadBlock_waits (ht : Turn (.storeReadBlock x) s) (h : storeResponds s = true) (hx : x.toNat ≤ 511) :
    Answers (.storeReadBlock x) s ((s.setStore { s.store with linkRead := some x.toNat }).setLink { s.link with
      queue := if s.link.queue = [] then [⟨0x2A, halfBytes x⟩] else s.link.queue }) := by
  refine .of_eq (s0 := s) ?_
  have stands : standAtHead ⟨0x2A, halfBytes x⟩ s = s.setLink { s.link with
      queue := if s.link.queue = [] then [⟨0x2A, halfBytes x⟩] else s.link.queue } := by
    unfold standAtHead
    split <;> rfl
  rw [exec_storeReadBlock ht, stands]
  simp only [askLinkRead, show ∀ l, storeResponds (s.setLink l) = true from fun _ => h, Nat.not_lt.mpr hx]
  rfl

/-- Settles O41, request by request: the refusals in the order of R135, and what each request begins. -/
theorem storeRequestsAreAnswered : Obligations.StoreRequestsAreAnswered := by
  unfold Obligations.StoreRequestsAreAnswered
  intro d x s withdrawn data
  refine ⟨fun ht => ⟨fun h => ?_, fun hr hn => ?_, fun hr h1 h31 hc => ?_, fun hr h1 h31 hc hj => ?_,
      fun hr h1 h31 hc hj => ?_⟩,
    fun ht => ⟨fun h hu => ?_, fun h hi => ?_, fun h hi => ?_⟩, fun ht => ⟨fun h => ?_, fun h hi => ?_, fun h => ?_⟩,
    fun ht => ⟨fun h hu => ?_, fun h => ?_, fun h => ?_⟩⟩
  -- Delete
  · exact .of_eq (exec_inquiry_of ht rfl rfl fun _ => deleteEffect_notReady h)
  · exact .of_eq (exec_inquiry_of ht rfl rfl fun _ => deleteEffect_badValue hr (isDocument_false_iff.mpr hn))
  · exact .of_eq (exec_inquiry_of ht rfl rfl fun _ => deleteEffect_conflict hr (isDocument_iff.mpr ⟨h1, h31⟩) hc)
  · exact .of_eq (exec_inquiry_of ht rfl rfl fun _ => deleteEffect_busy hr (isDocument_iff.mpr ⟨h1, h31⟩) hc hj)
  · refine exec_request_answered ht rfl rfl (fun l => ?_) (by simp) (by simpa using ht.runs)
    refine (deleteEffect_done (s := s.setLink l) hr (isDocument_iff.mpr ⟨h1, h31⟩) hc hj).trans ?_
    rw [holdDoc_setLink]
    rfl
  -- FormatStore
  · exact .of_eq (exec_inquiry_of ht rfl rfl fun _ => formatStoreEffect_notReady (by simp [storeResponds, h, hu]))
  · exact .of_eq (exec_inquiry_of ht rfl rfl fun _ => formatStoreEffect_busy ((storeResponds_iff s).mpr h) hi)
  · refine .of_settle (exec_request_answered (x := beginFormat s) ht rfl rfl (fun l => ?_) (by simp)
      (by simpa using ht.runs)) ((beginFormat_keeps s).answered _ _ _)
    rw [formatStoreEffect_done (s := s.setLink l) ((storeResponds_iff s).mpr h) hi, beginFormat_setLink]
  -- Remount
  · exact .of_eq (exec_inquiry_of ht rfl rfl fun _ =>
      remountEffect_notReady (by rcases h with h | h <;> simp [storeAnswers, h]))
  · exact .of_eq (exec_inquiry_of ht rfl rfl fun _ => remountEffect_busy h hi)
  · refine .of_settle (exec_request_answered (x := beginMount (withdrawPatrol s)) ht rfl rfl (fun l => ?_) (by simp)
      (by simpa using ht.runs)) ((beginMount_keeps s).answered _ _ _)
    have answers : storeAnswers s = true := by rcases h with ⟨h, -⟩ | h | h <;> simp [storeAnswers, h]
    have idle (hr : s.store.state = .ready) : storeIdle s = true := by
      rcases h with ⟨-, h⟩ | h | h
      · exact h
      all_goals exact absurd (hr.symm.trans h) nofun
    rw [remountEffect_done (s := s.setLink l) answers idle, withdrawPatrol_setLink, beginMount_setLink]
  -- StoreReadBlock
  · exact storeReadBlock_notReady ht (by simp [storeResponds, h, hu])
  · exact storeReadBlock_badValue ht ((storeResponds_iff s).mpr h)
  · exact storeReadBlock_waits ht ((storeResponds_iff s).mpr h)

end Sys2Proof.Machine
end

section
/-! PROOF. The requests of COMPOSE (R135, R164, R166): ComposeStart by the store, its values, the phase and the document it
names, and ComposeEnd by the phase. -/

namespace Sys2Proof.Machine

variable {s : State} {d a : Byte} {n : Nat} {r : BlockRef}

/-! ### ComposeStart -/

theorem composeStartEffect_notReady (h : s.store.state ≠ .ready) : composeStartEffect d a s = replies .notReady [] s := by
  simp [composeStartEffect, storeReady, h]

section ComposeStart

variable (hr : s.store.state = .ready)
include hr

theorem composeStartEffect_badValue (h : 31 < d.toNat ∨ 1 < a.toNat) :
    composeStartEffect d a s = replies .badValue [] s := by simp [composeStartEffect, storeReady, hr, h]

variable (hd : d.toNat ≤ 31) (ha : a.toNat ≤ 1)
include hd ha

theorem composeStartEffect_busy (hp : s.compose.phase ≠ .idle) : composeStartEffect d a s = replies .busy [] s := by
  simp [composeStartEffect, storeReady, hr, Nat.not_lt.mpr hd, Nat.not_lt.mpr ha, hp]

variable (hp : s.compose.phase = .idle)
include hp

theorem composeStartEffect_full (hn : composeDocument d.toNat s = none) :
    composeStartEffect d a s = replies .full [] s := by
  simp [composeStartEffect, storeReady, hr, Nat.not_lt.mpr hd, Nat.not_lt.mpr ha, hp, hn]

variable (hn : composeDocument d.toNat s = some n)
include hn

theorem composeStartEffect_new (hf : (dirEntry s n).state = .free) :
    composeStartEffect d a s = replies .done (byte1 n) (composeNew n s) := by
  simp [composeStartEffect, storeReady, hr, Nat.not_lt.mpr hd, Nat.not_lt.mpr ha, hp, hn, hf]

variable (hf : (dirEntry s n).state ≠ .free)
include hf

theorem composeStartEffect_append (h1 : a = 1) (hc : canAppend (dirEntry s n) = true) :
    composeStartEffect d a s = replies .done (byte1 n) (composeAppend n s) := by
  subst h1
  simp [composeStartEffect, storeReady, hr, Nat.not_lt.mpr hd, hp, hn, hf, hc]

theorem composeStartEffect_conflict (hc : a = 0 ∨ canAppend (dirEntry s n) = false) :
    composeStartEffect d a s = replies .conflict [] s := by
  rcases hc with rfl | hc
  · simp [composeStartEffect, storeReady, hr, Nat.not_lt.mpr hd, hp, hn, hf]
  · simp [composeStartEffect, storeReady, hr, Nat.not_lt.mpr hd, Nat.not_lt.mpr ha, hp, hn, hf, hc]

end ComposeStart

/-! ### The document -/

theorem composeDocument_number (h : n ≠ 0) (s : State) : composeDocument n s = some n := if_neg h

/-- R164: without a FREE document, the number 0 names none. -/
theorem composeDocument_none (h : ∀ k, 1 ≤ k → k ≤ 31 → (dirEntry s k).state ≠ .free) : composeDocument 0 s = none := by
  refine (if_pos rfl).trans (List.find?_eq_none.mpr fun k hk => ?_)
  obtain ⟨h1, h31⟩ := List.mem_range'_1.mp hk
  simpa using h k h1 (by omega)

/-- R164: the number 0 names the lowest FREE document. -/
theorem composeDocument_lowest (h1 : 1 ≤ n) (h31 : n ≤ 31) (hf : (dirEntry s n).state = .free)
    (below : ∀ k, 1 ≤ k → k < n → (dirEntry s k).state ≠ .free) : composeDocument 0 s = some n := by
  refine (if_pos rfl).trans (List.find?_range'_eq_some.mpr ⟨by simpa using hf, by simp; omega, fun k hk hkn => ?_⟩)
  simpa using below k hk hkn

theorem composeNew_setLink (n : Nat) (l : Link) (s : State) : composeNew n (s.setLink l) = (composeNew n s).setLink l := by
  rw [composeNew, holdDoc_setLink]
  rfl

theorem composeAppend_of_last (h : (dirEntry s n).blocks.getLast? = some r) : composeAppend n s =
    (holdDoc n .composing s).setCompose { phase := .loading, document := n, seq := r.seq, loading := true } := by
  simp only [composeAppend, lastRef, h]

/-! ### ComposeEnd -/

theorem composeEndEffect_notReady (h : s.compose.phase = .idle ∨ s.compose.phase = .ending) :
    composeEndEffect s = replies .notReady [] s := by
  rcases h with h | h <;> simp [composeEndEffect, composeCanEnd, h]

theorem composeEndEffect_done (h : s.compose.phase = .composing ∨ s.compose.phase = .loading) :
    composeEndEffect s = replies .done [] (endCompose s) := by
  rcases h with h | h <;> simp [composeEndEffect, composeCanEnd, h]

/-- R166: with no load and no write outstanding, the final block is asked at once. -/
theorem endCompose_asks (hl : s.compose.loading = false) (hw : s.compose.write = none) : endCompose s =
    s.setCompose { s.compose with phase := .ending, write := some { final := true } } := by
  simp [endCompose, composeFinalWrite, hl, hw]
  rfl

theorem endCompose_waits (h : s.compose.loading = true ∨ s.compose.write ≠ none) : endCompose s =
    s.setCompose { s.compose with phase := .ending } := by
  rcases h with h | h <;> simp [endCompose, composeFinalWrite, h]

/-- R166: a ComposeEnd that is answered DONE. -/
theorem exec_composeEnd_done {x : ComposeChannel} (ht : Turn .composeEnd s)
    (h : s.compose.phase = .composing ∨ s.compose.phase = .loading) (hx : ∀ l, endCompose (s.setLink l) = (s.setLink l).setCompose x) :
    exec .composeEnd s = .next (settle s none (answered .composeEnd .done [] (s.setCompose x))) :=
  exec_request_answered ht rfl rfl
    (fun l => (composeEndEffect_done (s := s.setLink l) h).trans (by rw [hx]; rfl)) rfl ht.runs

/-- Settles O46, ComposeStart by the store, the values, the phase and the document, then ComposeEnd by the phase. -/
theorem composeRequests : Obligations.ComposeRequests := by
  unfold Obligations.ComposeRequests
  intro d a s c held
  have linked (n : Nat) : (held n).link = s.link := by simp [held]
  have runs (n : Nat) (ht : Turn c s) : (held n).held = none := by simpa [held] using ht.runs
  refine ⟨fun ht => ⟨fun h => ?_, fun hr h => ?_, fun hr hd ha => ⟨fun hp => ?_, fun hp => ⟨fun h0 hfree => ?_,
      fun n hn h1 h31 hf => ?_, fun n r hn h1 happ hcl hdam hlen hlast => ?_, fun n hn h1 hf hc => ?_⟩⟩⟩,
    fun ht => ⟨fun h => ?_, fun hp hl hw => ?_, fun w hp hw => ?_, fun hp hl => ?_⟩⟩
  -- ComposeStart
  · exact .of_eq (exec_inquiry_of ht rfl rfl fun _ => composeStartEffect_notReady h)
  · exact .of_eq (exec_inquiry_of ht rfl rfl fun _ => composeStartEffect_badValue hr h)
  · exact .of_eq (exec_inquiry_of ht rfl rfl fun _ => composeStartEffect_busy hr hd ha hp)
  · subst h0
    exact .of_eq (exec_inquiry_of ht rfl rfl fun l =>
      composeStartEffect_full (s := s.setLink l) hr hd ha hp (composeDocument_none hfree))
  · have named : composeDocument d.toNat s = some n := by
      rcases hn with rfl | ⟨rfl, below⟩
      · exact composeDocument_number (by omega) s
      · exact composeDocument_lowest h1 h31 hf below
    refine exec_request_answered ht rfl rfl (fun l => ?_) (linked n) (runs n ht)
    refine (composeStartEffect_new (s := s.setLink l) hr hd ha hp named hf).trans ?_
    rw [composeNew_setLink]
    rfl
  · have named : composeDocument d.toNat s = some n := by rw [hn, composeDocument_number (by omega)]
    refine exec_request_answered ht rfl rfl (fun l => ?_) (linked n) (runs n ht)
    refine (composeStartEffect_append (s := s.setLink l) hr hd ha hp named (fun h => nomatch hcl.symm.trans h) happ
      (show canAppend (dirEntry s n) = true by simp [canAppend, hcl, hdam, hlen])).trans ?_
    rw [composeAppend_of_last (s := s.setLink l) hlast, holdDoc_setLink]
    rfl
  · have named : composeDocument d.toNat s = some n := by rw [hn, composeDocument_number (by omega)]
    refine .of_eq (exec_inquiry_of ht rfl rfl fun l =>
      composeStartEffect_conflict (s := s.setLink l) hr hd ha hp named hf (hc.imp_right fun hc => ?_))
    show canAppend (dirEntry s n) = false
    rcases hc with hc | hc | hc <;> simp [canAppend, hc]
  -- ComposeEnd
  · exact .of_eq (exec_inquiry_of ht rfl rfl fun _ => composeEndEffect_notReady h)
  · exact exec_composeEnd_done ht (.inl hp) fun l => endCompose_asks (s := s.setLink l) hl hw
  · exact exec_composeEnd_done ht (.inl hp) fun l =>
      endCompose_waits (s := s.setLink l) (.inr fun h => nomatch hw.symm.trans h)
  · exact exec_composeEnd_done ht (.inr hp) fun l => endCompose_waits (s := s.setLink l) (.inl hl)

end Sys2Proof.Machine
end

section
/-! PROOF. The requests of SEND and REPRINT (R135, R139, R145, R156, R158, R159), and what the end of SEND leaves. -/

namespace Sys2Proof.Machine

variable {s : State} {d m : Byte} {n k : Nat} {o : ChannelOutcome}

/-! ### The end of SEND -/

theorem endSend_eq (o : ChannelOutcome) (h : s.send.current = some k) : endSend o s =
    recordDone .send o (k :: s.send.staged.toList)
      ((k :: s.send.staged.toList).foldl (fun s n => closeDoc n id s) ((discardRead .send s).setSend {})) := by
  simp only [endSend, h]

/-- Closing documents touches nothing but the directory and the store report. -/
theorem closeDocs_frame (docs : List Nat) (s : State) :
    (docs.foldl (fun s n => closeDoc n id s) s).send = s.send ∧
    (docs.foldl (fun s n => closeDoc n id s) s).params = s.params ∧
    (docs.foldl (fun s n => closeDoc n id s) s).store.inFlight = s.store.inFlight := by
  induction docs generalizing s with
  | nil => exact ⟨rfl, rfl, rfl⟩
  | cons n docs ih => simpa using ih (closeDoc n id s)

/-- R139: the documents closed are CLOSED, and the others stay as they were. -/
theorem dirEntry_closeDocs (hk : isDocument k = true) (docs : List Nat) (s : State) :
    (k ∈ docs ∨ (dirEntry s k).state = .closed →
      (dirEntry (docs.foldl (fun s n => closeDoc n id s) s) k).state = .closed) ∧
    (k ∉ docs → dirEntry (docs.foldl (fun s n => closeDoc n id s) s) k = dirEntry s k) := by
  induction docs generalizing s with
  | nil => simp
  | cons n docs ih =>
    obtain ⟨closed, others⟩ := ih (closeDoc n id s)
    by_cases hn : k = n
    · subst hn
      have now : (dirEntry (closeDoc k id s) k).state = .closed := by rw [dirEntry_closeDoc_self hk]
      exact ⟨fun _ => closed (.inr now), by simp⟩
    · have same := dirEntry_closeDoc_document hk hn id s
      rw [same] at closed others
      exact ⟨fun h => closed (h.imp_left fun h => (List.mem_cons.mp h).resolve_left hn),
        fun h => others fun hm => h (List.mem_cons_of_mem _ hm)⟩

theorem discardRead_inFlight (c : PortClaimant) (s : State) : (discardRead c s).store.inFlight =
    s.store.inFlight.map fun f => if f.claimant = c then { f with discarded := true } else f := by
  unfold discardRead
  split
  next f h =>
    split <;> simp [*]
  next h => simp [h]

/-- R184: the documents of a set are named by the bits of their numbers. -/
theorem docSet_getLsbD {docs : List Nat} (h : n ∈ docs) (hn : n ≤ 31) : (docSet docs).getLsbD n = true := by
  have joins (l : List Nat) (a : DocSet) (hb : a.getLsbD n = true ∨ n ∈ l) :
      (l.foldl (fun a n => a ||| bitSet 32 n) a).getLsbD n = true := by
    induction l generalizing a with
    | nil => simpa using hb
    | cons k l ih =>
      refine ih _ ?_
      rcases hb with hb | hb
      · exact .inl (by simp [hb])
      · rcases List.mem_cons.mp hb with rfl | hb
        · exact .inl (by simp [bitSet, Nat.lt_succ_of_le hn])
        · exact .inr hb
  exact joins docs 0 (.inr h)

theorem recordDone_send (he : reportEnabled 6 s = true) (o : ChannelOutcome) (docs : List Nat) :
    (recordDone .send o docs s).reports.done =
      some { s.reports.done.getD {} with send := (s.reports.done.getD {}).send.record o docs } := by
  simp [recordDone, he]

/-- R158: the end of SEND, item by item. -/
theorem endSend_leaves (o : ChannelOutcome) (h : s.send.current = some k) :
    (endSend o s).send = {} ∧
    (endSend o s).store.inFlight =
      (s.store.inFlight.map fun f => if f.claimant = .send then { f with discarded := true } else f) ∧
    (∀ n, 1 ≤ n → n ≤ 31 →
      (n = k ∨ s.send.staged = some n → (dirEntry (endSend o s) n).state = .closed) ∧
      (¬ (n = k ∨ s.send.staged = some n) → dirEntry (endSend o s) n = dirEntry s n)) ∧
    (reportEnabled 6 s = true → ∃ x, (endSend o s).reports.done = some x ∧ x.send.outcome = some o ∧
      ∀ n, n ≤ 31 → n = k ∨ s.send.staged = some n → x.send.documents.getLsbD n = true) := by
  have named (n : Nat) : n ∈ k :: s.send.staged.toList ↔ n = k ∨ s.send.staged = some n := by simp
  obtain ⟨send, params, inFlight⟩ := closeDocs_frame (k :: s.send.staged.toList) ((discardRead .send s).setSend {})
  rw [endSend_eq o h]
  refine ⟨by simpa using send, ?_, fun n h1 h31 => ?_, fun he => ?_⟩
  · rw [← discardRead_inFlight]
    simpa using inFlight
  · obtain ⟨closed, others⟩ := dirEntry_closeDocs (isDocument_iff.mpr ⟨h1, h31⟩) (k :: s.send.staged.toList)
      ((discardRead .send s).setSend {})
    have before : dirEntry ((discardRead .send s).setSend {}) n = dirEntry s n := dirEntry_congr (by simp) n
    rw [before] at others
    rw [dirEntry_recordDone]
    exact ⟨fun hn => closed (.inl ((named n).mpr hn)), fun hn => others (mt (named n).mp hn)⟩
  · refine ⟨_, recordDone_send ?_ o _, rfl, fun n hn hm => ?_⟩
    · rw [reportEnabled, params]
      simpa [reportEnabled] using he
    · simp [DoneSlot.record, docSet_getLsbD ((named n).mpr hm) hn]

/-! ### Send and StopSend -/

theorem sendEffect_notReady (h : s.store.state ≠ .ready) : sendEffect d s = replies .notReady [] s := by
  simp [sendEffect, storeReady, h]

section SendRequest

variable (hr : s.store.state = .ready)
include hr

theorem sendEffect_badValue (hn : isDocument d.toNat = false) : sendEffect d s = replies .badValue [] s := by
  simp [sendEffect, storeReady, hr, hn]

variable (hn : isDocument d.toNat = true)
include hn

theorem sendEffect_unconnected (hc : connected s = false) : sendEffect d s = replies .notReady [] s := by
  simp [sendEffect, storeReady, hr, hn, hc]

variable (hc : connected s = true)
include hc

theorem sendEffect_busy (h1 : s.send.current ≠ none) (h2 : s.send.staged ≠ none) :
    sendEffect d s = replies .busy [] s := by
  simp [sendEffect, storeReady, hr, hn, hc, Option.isSome_iff_ne_none, h1, h2]

theorem sendEffect_conflict (hf : s.send.current = none ∨ s.send.staged = none)
    (hs : (dirEntry s d.toNat).state ≠ .closed) : sendEffect d s = replies .conflict [] s := by
  have room : (s.send.current.isSome && s.send.staged.isSome) = false := by
    rcases hf with h | h <;> simp [h]
  simp [sendEffect, storeReady, hr, hn, hc, room, hs]

variable (hs : (dirEntry s d.toNat).state = .closed)
include hs

theorem sendEffect_current (hf : s.send.current = none) : sendEffect d s =
    replies .done [] ((holdDoc d.toNat .sending s).setSend { current := some d.toNat }) := by
  simp [sendEffect, storeReady, hr, hn, hc, hs, hf, holdDoc]

theorem sendEffect_staged (h1 : s.send.current ≠ none) (hf : s.send.staged = none) : sendEffect d s =
    replies .done [] ((holdDoc d.toNat .sending s).setSend { s.send with staged := some d.toNat }) := by
  simp [sendEffect, storeReady, hr, hn, hc, hs, h1, hf, holdDoc]

end SendRequest

theorem endSend_idle (h : s.send.current = none) : endSend o s = s := by simp only [endSend, h]

theorem endSend_setLink (o : ChannelOutcome) (l : Link) (s : State) :
    endSend o (s.setLink l) = (endSend o s).setLink l := (outside_setLink l).endSend o s

/-! ### Reprint and StopReprint -/

theorem reprintEffect_notReady (h : s.store.state ≠ .ready) : reprintEffect d m s = replies .notReady [] s := by
  simp [reprintEffect, storeReady, h]

section ReprintRequest

variable (hr : s.store.state = .ready)
include hr

theorem reprintEffect_badValue (h : isDocument d.toNat = false ∨ 1 < m.toNat) :
    reprintEffect d m s = replies .badValue [] s := by
  have bad : (!isDocument d.toNat || decide (1 < m.toNat)) = true := by simpa using h
  simp only [reprintEffect, storeReady, hr, bad]
  rfl

variable (hn : isDocument d.toNat = true) (hm : m.toNat ≤ 1)
include hn hm

theorem reprintEffect_busy (h : s.reprint.document ≠ none) : reprintEffect d m s = replies .busy [] s := by
  simp [reprintEffect, storeReady, hr, hn, Nat.not_lt.mpr hm, Option.isSome_iff_ne_none, h]

variable (hf : s.reprint.document = none)
include hf

theorem reprintEffect_conflict (hs : (dirEntry s d.toNat).state ≠ .closed) :
    reprintEffect d m s = replies .conflict [] s := by
  simp [reprintEffect, storeReady, hr, hn, Nat.not_lt.mpr hm, hf, hs]

theorem reprintEffect_done (hs : (dirEntry s d.toNat).state = .closed) : reprintEffect d m s =
    replies .done [] ((holdDoc d.toNat .reprinting s).setReprint { document := some d.toNat, whole := decide (m = 1) }) := by
  simp [reprintEffect, storeReady, hr, hn, Nat.not_lt.mpr hm, hf, hs]

end ReprintRequest

theorem endReprint_idle (h : s.reprint.document = none) : endReprint o s = s := by simp only [endReprint, h]

theorem endReprint_setLink (o : ChannelOutcome) (l : Link) (s : State) :
    endReprint o (s.setLink l) = (endReprint o s).setLink l := by
  have outside := outside_setLink l
  unfold endReprint
  rw [State.setLink_reprint]
  split
  · rfl
  next k _ =>
    have closes (x : State) : recordDone .reprint o [k] (closeDoc k id (x.setLink l)) =
        (recordDone .reprint o [k] (closeDoc k id x)).setLink l := by rw [outside.closeDoc, outside.recordDone]
    have ends : recordDone .reprint o [k] (closeDoc k id ((discardRead .reprint (s.setLink l)).setReprint {})) =
        (recordDone .reprint o [k] (closeDoc k id ((discardRead .reprint s).setReprint {}))).setLink l := by
      rw [← closes, outside.discardRead]
      rfl
    dsimp only
    rw [ends, setLink_ite]
    rfl

/-- Settles O45: the end of SEND, then each request by the store, its values, the line, the channel and the document. -/
theorem sendAndReprintRequests : Obligations.SendAndReprintRequests := by
  unfold Obligations.SendAndReprintRequests
  refine ⟨fun o k s h => endSend_leaves o h, fun d m s => ?_⟩
  intro n held
  have linked (st : DocState) : (held st).link = s.link := by simp [held]
  have runs (st : DocState) (hh : s.held = none) : (held st).held = none := by simpa [held] using hh
  have document (h1 : 1 ≤ n) (h31 : n ≤ 31) : isDocument n = true := isDocument_iff.mpr ⟨h1, h31⟩
  refine ⟨fun ht => ⟨fun h => ?_, fun hr => ⟨fun hn => ?_, fun h1 h31 hc => ?_, fun h1 h31 hc => ⟨fun hcur hst => ?_,
      fun hroom hs => ?_, fun hcur hs => ?_, fun hcur hst hs => ?_⟩⟩⟩,
    fun ht => ⟨fun h => ?_, fun _ => ?_⟩,
    fun ht => ⟨fun h => ?_, fun hr => ⟨fun hn => ?_, fun h1 h31 hm => ⟨fun hb => ?_, fun hf hs => ?_, fun hf hs => ?_⟩⟩⟩,
    fun ht => ⟨fun h => ?_, fun _ => ?_⟩⟩
  -- Send
  · exact .of_eq (exec_inquiry_of ht rfl rfl fun _ => sendEffect_notReady h)
  · exact .of_eq (exec_inquiry_of ht rfl rfl fun _ => sendEffect_badValue hr (isDocument_false_iff.mpr hn))
  · exact .of_eq (exec_inquiry_of ht rfl rfl fun _ => sendEffect_unconnected hr (document h1 h31) hc)
  · exact .of_eq (exec_inquiry_of ht rfl rfl fun _ => sendEffect_busy hr (document h1 h31) hc hcur hst)
  · exact .of_eq (exec_inquiry_of ht rfl rfl fun _ => sendEffect_conflict hr (document h1 h31) hc hroom hs)
  · refine exec_request_answered ht rfl rfl (fun l => ?_) (linked _) (runs _ ht.runs)
    refine (sendEffect_current (s := s.setLink l) hr (document h1 h31) hc hs hcur).trans ?_
    rw [holdDoc_setLink]
    rfl
  · refine exec_request_answered ht rfl rfl (fun l => ?_) (linked _) (runs _ ht.runs)
    refine (sendEffect_staged (s := s.setLink l) hr (document h1 h31) hc hs hcur hst).trans ?_
    rw [holdDoc_setLink]
    rfl
  -- StopSend
  · exact .of_eq (exec_inquiry_of ht rfl rfl fun l => by rw [stopSendEffect, endSend_idle (s := s.setLink l) h])
  · exact exec_request_answered ht rfl rfl (fun l => by rw [stopSendEffect, endSend_setLink]) (by simp)
      (by simpa using ht.runs)
  -- Reprint
  · exact .of_eq (exec_inquiry_of ht rfl rfl fun _ => reprintEffect_notReady h)
  · exact .of_eq (exec_inquiry_of ht rfl rfl fun _ =>
      reprintEffect_badValue hr (by rwa [isDocument_false_iff, or_assoc]))
  · exact .of_eq (exec_inquiry_of ht rfl rfl fun _ => reprintEffect_busy hr (document h1 h31) hm hb)
  · exact .of_eq (exec_inquiry_of ht rfl rfl fun _ => reprintEffect_conflict hr (document h1 h31) hm hf hs)
  · refine exec_request_answered ht rfl rfl (fun l => ?_) (linked _) (runs _ ht.runs)
    refine (reprintEffect_done (s := s.setLink l) hr (document h1 h31) hm hf hs).trans ?_
    rw [holdDoc_setLink]
    rfl
  -- StopReprint
  · exact .of_eq (exec_inquiry_of ht rfl rfl fun l => by rw [stopReprintEffect, endReprint_idle (s := s.setLink l) h])
  · exact exec_request_answered ht rfl rfl (fun l => by rw [stopReprintEffect, endReprint_setLink]) (by simp)
      (by simpa using ht.runs)

end Sys2Proof.Machine
end

section
/-! PROOF. The reads of the store port (R134, R136 to R138, R141, R143, R146, R147, R151, R155, R164): status reads, what each
claimant makes of a block that was read, how the mount goes on and settles a document, and the patrol's next read. -/

namespace Sys2Proof.Machine

variable {s x : State} {d : ReadData} {f : InFlight} {bytes : List Byte} {r : ReadResult} {b k n seq : Nat}

/-! ### The operation in flight -/

/-- R142: the operation in flight has ended, and the port is free. -/
def portFreed (s : State) : State := s.setStore { s.store with inFlight := none }

/-- R143, R144: the operation in flight has come to its second read or comparison. -/
def lookingAgain (f : InFlight) (s : State) : State := s.setStore { s.store with inFlight := some { f with again := true } }

theorem lookAgain_eq (hf : s.store.inFlight = some f) : lookAgain s = lookingAgain f s := by
  simp [lookAgain, lookingAgain, hf]

theorem exec_statusReadComplete (answered : Bool) (hh : s.held = none) (hf : s.store.inFlight = some f)
    (hop : f.op = .statusRead) :
    exec (.statusReadComplete answered) s = .next (settle s none (statusRead answered s)) :=
  performWhen_runs _ _ (by simp [statusInFlight, hf, hop]) hh

theorem exec_blockReadRetry (hh : s.held = none) (hf : s.store.inFlight = some f) (hop : f.op = .read)
    (ha : f.again = false) : exec .blockReadRetry s = .next (settle s none (lookingAgain f s)) := by
  rw [← lookAgain_eq hf]
  exact performWhen_runs _ _ (by simp [readInFlight, secondLook, hf, hop, ha]) hh

theorem exec_blockReadComplete (d : ReadData) (hh : s.held = none) (hf : s.store.inFlight = some f) (hop : f.op = .read) :
    exec (.blockReadComplete d) s = .next (settle s none (readOutcome d s)) :=
  performWhen_runs _ _ (by simp [readInFlight, hf, hop]) hh

/-- R143: a block that passes its check, at whichever read. -/
theorem readOutcome_passes (hf : s.store.inFlight = some f) (hp : passesCheck (readBytes d f.block s) = true) :
    readOutcome d s = readDone f (if f.again then .passReread else .pass) (readBytes d f.block s) s := by
  simp only [readOutcome, hf, hp, if_true]

theorem readOutcome_retries (hf : s.store.inFlight = some f) (hp : passesCheck (readBytes d f.block s) = false)
    (ha : f.again = false) : readOutcome d s = lookingAgain f s := by
  rw [← lookAgain_eq hf]
  simp [readOutcome, hf, hp, ha]

theorem readOutcome_fails (hf : s.store.inFlight = some f) (hp : passesCheck (readBytes d f.block s) = false)
    (ha : f.again = true) : readOutcome d s = readDone f .fail (readBytes d f.block s) s := by
  simp [readOutcome, hf, hp, ha]

/-- R143: a first read that passes goes to its claimant. -/
theorem readDone_pass (hd : f.discarded = false) (bytes : List Byte) (s : State) :
    readDone f .pass bytes s = handRead f.claimant .pass bytes f.block (portFreed s) := by
  simp [readDone, hd, portFreed]

/-- R141, R143: any other result counts the sector first. -/
theorem readDone_counts (hr : r ≠ .pass) (hd : f.discarded = false) (bytes : List Byte) (s : State) :
    readDone f r bytes s = handRead f.claimant r bytes f.block (countSector f.block (portFreed s)) := by
  simp [readDone, hr, hd, portFreed]

/-! ### The mount -/

theorem mountEnds_keeps (st : StoreState) (o : StoreOutcome) (s : State) :
    Keeps (s.setStore { s.store with state := st }) (mountEnds st o (portFreed s)) := by
  constructor <;> simp [mountEnds, portFreed]

theorem statusRead_true_keeps (s : State) :
    Keeps (s.setStore { s.store with mountNext := some 0 }) (statusRead true s) := by
  constructor <;> simp [statusRead]

/-- R136: a memory that does not answer is ABSENT, which is a fault. -/
theorem statusRead_false_keeps (s : State) :
    Keeps (s.setStore { s.store with state := .absent }) (statusRead false s) :=
  (mountEnds_keeps .absent .absent s).trans (recordFault_keeps _ _ _)

theorem mountRead_block (hb : b ≠ 0) (r : ReadResult) (bytes : List Byte) (s : State) :
    mountRead r bytes b s = mountOn b (mountBlock r bytes b s) := if_neg hb

section MountBlock

variable (hr : r.passed = true)
include hr

/-- R137: a block that names no document belongs to none. -/
theorem mountBlock_none (h : (bytes.getD 0 0).toNat = 0 ∨ 31 < (bytes.getD 0 0).toNat) :
    mountBlock r bytes b s = s := by
  have skipped : (!r.passed || decide ((bytes.getD 0 0).toNat = 0) || decide (31 < (bytes.getD 0 0).toNat)) = true := by
    simpa [hr] using h
  exact if_pos skipped

variable (h1 : 1 ≤ (bytes.getD 0 0).toNat) (h31 : (bytes.getD 0 0).toNat ≤ 31)
include h1 h31

theorem mountBlock_placed : mountBlock r bytes b s =
    if 63 < (bytes.getD 1 0).toNat ∨ 58 < (bytes.getD 2 0).toNat ∨
        ∃ x ∈ (dirEntry s (bytes.getD 0 0).toNat).blocks, x.seq = (bytes.getD 1 0).toNat then
      setDirEntry (bytes.getD 0 0).toNat { dirEntry s (bytes.getD 0 0).toNat with
        strays := insertAsc b (dirEntry s (bytes.getD 0 0).toNat).strays } s
    else joinList (bytes.getD 0 0).toNat
      ⟨(bytes.getD 1 0).toNat, b, (bytes.getD 2 0).toNat, bytes.getD 3 0⟩ s := by
  have placed : (!r.passed || decide ((bytes.getD 0 0).toNat = 0) || decide (31 < (bytes.getD 0 0).toNat)) = false := by
    simp only [hr, Bool.not_true, Bool.false_or, Bool.or_eq_false_iff, decide_eq_false_iff_not]
    omega
  have stray : (decide (lastSeq < (bytes.getD 1 0).toNat) || decide (blockFill < (bytes.getD 2 0).toNat) ||
      (dirEntry s (bytes.getD 0 0).toNat).blocks.any (·.seq = (bytes.getD 1 0).toNat)) = true ↔
      63 < (bytes.getD 1 0).toNat ∨ 58 < (bytes.getD 2 0).toNat ∨
        ∃ x ∈ (dirEntry s (bytes.getD 0 0).toNat).blocks, x.seq = (bytes.getD 1 0).toNat := by
    simp [lastSeq, blockFill, or_assoc]
  unfold mountBlock
  simp only [placed, Bool.false_eq_true, if_false, stray]

/-- R137: a block whose place is free joins its document's list. -/
theorem mountBlock_joins (hq : (bytes.getD 1 0).toNat ≤ 63) (hfill : (bytes.getD 2 0).toNat ≤ 58)
    (hseq : ∀ x ∈ (dirEntry s (bytes.getD 0 0).toNat).blocks, x.seq ≠ (bytes.getD 1 0).toNat) :
    mountBlock r bytes b s = joinList (bytes.getD 0 0).toNat
      ⟨(bytes.getD 1 0).toNat, b, (bytes.getD 2 0).toNat, bytes.getD 3 0⟩ s := by
  rw [mountBlock_placed hr h1 h31, if_neg]
  rintro (h | h | ⟨x, hx, h⟩)
  · omega
  · omega
  · exact hseq x hx h

/-- R137: any other block of a document is a stray. -/
theorem mountBlock_strays (h : 63 < (bytes.getD 1 0).toNat ∨ 58 < (bytes.getD 2 0).toNat ∨
    ∃ x ∈ (dirEntry s (bytes.getD 0 0).toNat).blocks, x.seq = (bytes.getD 1 0).toNat) :
    mountBlock r bytes b s = setDirEntry (bytes.getD 0 0).toNat { dirEntry s (bytes.getD 0 0).toNat with
      strays := insertAsc b (dirEntry s (bytes.getD 0 0).toNat).strays } s := by
  rw [mountBlock_placed hr h1 h31, if_pos h]

end MountBlock

theorem nextMountBlock_eq (hb : b < k) (hk : k ≤ 511) (good : k ∉ s.store.bad)
    (between : ∀ j, b < j → j < k → j ∈ s.store.bad) : nextMountBlock b s = some k := by
  refine List.find?_range'_eq_some.mpr ⟨by simpa using good, by simp; omega, fun j hj hjk => ?_⟩
  simpa using between j hj hjk

theorem nextMountBlock_none (bad : ∀ j, b < j → j ≤ 511 → j ∈ s.store.bad) : nextMountBlock b s = none := by
  refine List.find?_eq_none.mpr fun j hj => ?_
  obtain ⟨hbj, hj⟩ := List.mem_range'_1.mp hj
  simpa using bad j hbj (by omega)

theorem settleMount_store (s : State) : (settleMount s).store = { s.store with
    state := .ready, dir := s.store.dir.map settleEntry,
    patrolTimer := if s.params.patrolInterval = 0 then .stopped else .running s.params.patrolInterval } := by
  simp only [settleMount, recordStore_frame]
  rfl

/-! ### The settling of a document (R138) -/

/-- R138, case 2, in the words of the rule. -/
theorem mountDamaged_iff (e : DirEntry) : mountDamaged e = true ↔
    e.strays ≠ [] ∨ e.blocks.map (·.seq) ≠ List.range e.blocks.length ∨ 1 < (lastRefs e.blocks).length ∨
      ∃ r ∈ lastRefs e.blocks, ∃ h, e.blocks.getLast? = some h ∧ r.seq ≠ h.seq := by
  unfold mountDamaged hasGap lastRef
  cases hh : e.blocks.getLast? with
  | none => simp [or_assoc]
  | some h =>
    cases hl : lastRefs e.blocks with
    | nil => simp
    | cons r rest =>
      cases rest with
      | nil => simp [or_assoc]
      | cons _ _ => simp

theorem mountDamaged_empty {e : DirEntry} (hb : e.blocks = []) (hs : e.strays = []) : mountDamaged e = false := by
  simp [mountDamaged, hb, hs, hasGap, lastRefs]

theorem settleEntry_empty {e : DirEntry} (hb : e.blocks = []) (hs : e.strays = []) : settleEntry e = e := if_pos ⟨hb, hs⟩

theorem settleEntry_damaged {e : DirEntry} (h : mountDamaged e = true) : settleEntry e =
    { e with state := .closed, flags := { onlyLastFlags e.blocks with damaged := true } } := by
  have held : ¬ (e.blocks = [] ∧ e.strays = []) := fun ⟨hb, hs⟩ => by simp [mountDamaged_empty hb hs] at h
  rw [settleEntry, if_neg held, if_pos h]

section Undamaged

variable {e : DirEntry} (hd : mountDamaged e = false) (hb : e.blocks ≠ [])
include hd hb

theorem settleEntry_incomplete (hl : lastRefs e.blocks = []) :
    settleEntry e = { e with state := .closed, flags := { incomplete := true } } := by
  simp [settleEntry, hd, hb, hl]

theorem settleEntry_complete (hl : lastRefs e.blocks ≠ []) :
    settleEntry e = { e with state := .closed, flags := onlyLastFlags e.blocks } := by
  simp [settleEntry, hd, hb, hl]

end Undamaged

/-! ### The reads of the channels, the link and the patrol -/

theorem linkReadDone_keeps (r : ReadResult) (bytes : List Byte) (s : State) :
    Keeps ((s.setStore { s.store with linkRead := none }).setLink { s.link with
      queue := s.link.queue.tail, reply := some ⟨0x2A, 0x00 :: BitVec.ofNat 8 r.code :: bytes⟩ })
      (linkReadDone r bytes (portFreed s)) := by
  constructor <;> simp [linkReadDone, portFreed, byte1]

theorem sendRead_passes (hr : r.passed = true) (hc : s.send.current = some k) (hq : s.send.reader.reading = some seq) :
    sendRead r bytes s = s.setSend { s.send with
      reader := s.send.reader.load seq (min (bytes.getD 2 0).toNat 58) (itemsOf true bytes) } := by
  simp only [sendRead, hc, hq, hr, if_true]
  rfl

theorem sendRead_fails (hr : r.passed = false) (hc : s.send.current = some k) (hq : s.send.reader.reading = some seq) :
    sendRead r bytes s = damageDoc k (s.setSend { s.send with reader := s.send.reader.load seq 0 [.lost] }) := by
  simp only [sendRead, hc, hq, hr, Bool.false_eq_true, if_false]
  rfl

theorem reprintRead_passes (hr : r.passed = true) (hc : s.reprint.document = some k)
    (hq : s.reprint.reader.reading = some seq) :
    reprintRead r bytes s = s.setReprint { s.reprint with
      reader := s.reprint.reader.load seq (min (bytes.getD 2 0).toNat 58) (itemsOf true bytes) } := by
  simp only [reprintRead, hc, hq, hr, if_true]
  rfl

theorem reprintRead_fails (hr : r.passed = false) (hc : s.reprint.document = some k)
    (hq : s.reprint.reader.reading = some seq) :
    reprintRead r bytes s = damageDoc k (s.setReprint { s.reprint with reader := s.reprint.reader.load seq 0 [.lost] }) := by
  simp only [reprintRead, hc, hq, hr, Bool.false_eq_true, if_false]
  rfl

theorem composeFullWrite_room (h : s.compose.chars.length < 58) : composeFullWrite s = s := by
  simp [composeFullWrite, blockFill, Nat.ne_of_lt h]

/-- R164: a block that is not full is composed on. -/
theorem composeLoad_composes (hr : r.passed = true) (hp : s.compose.phase = .loading) (hfill : (bytes.getD 2 0).toNat < 58) :
    composeLoad r bytes b s = s.setCompose { s.compose with
      phase := .composing, chars := (bytes.drop 4).take (min (bytes.getD 2 0).toNat 58), loaded := some b,
      loading := false } := by
  have room : ((bytes.drop 4).take (min (bytes.getD 2 0).toNat 58)).length < 58 := by
    rw [List.length_take]
    omega
  rw [← composeFullWrite_room (s := s.setCompose { s.compose with
      phase := .composing, chars := (bytes.drop 4).take (min (bytes.getD 2 0).toNat 58), loaded := some b,
      loading := false }) room]
  simp only [composeLoad, hr, hp]
  rfl

theorem composeLoad_fails (hr : r.passed = false) (bytes : List Byte) (b : Nat) (s : State) : composeLoad r bytes b s =
    recordDone .compose .storeFailed [s.compose.document]
      ((closeDoc s.compose.document id (damageDoc s.compose.document s)).setCompose {}) := by
  simp only [composeLoad, hr]
  rfl

theorem patrolResult_passes (hr : r.passed = true) (s : State) :
    patrolResult r s = s.setStore { s.store with patrolRead := none } := by
  unfold patrolResult
  split
  next h => rw [← h]; rfl
  · simp [hr]

theorem patrolResult_damages {p : PatrolRead} (hr : r.passed = false) (hp : s.store.patrolRead = some p)
    (hb : ∃ x ∈ (dirEntry s p.document).blocks, x.block = p.block) :
    patrolResult r s = damageDoc p.document (s.setStore { s.store with patrolRead := none }) := by
  have listed : (!r.passed && (dirEntry s p.document).blocks.any (·.block = p.block)) = true := by
    simpa [hr] using hb
  simp only [patrolResult, hp]
  exact if_pos listed

/-! ### The patrol timer (R146) -/

/-- R146: the timer has run out and runs again. -/
def patrolTimed (s : State) : State := s.setStore { s.store with patrolTimer := .running s.params.patrolInterval }

theorem exec_storePatrolExpiry (hh : s.held = none) (ht : s.store.patrolTimer ≠ .stopped) (hr : s.store.state = .ready) :
    exec .storePatrolExpiry s = .next (settle s none (patrolDue s)) :=
  performWhen_runs _ _ (by simp [(Timer.isRunning_iff _).mpr ht, hr]) hh

theorem patrolDue_busy {p : PatrolRead} (hp : s.store.patrolRead = some p) : patrolDue s = patrolTimed s := by
  simp [patrolDue, hp, patrolTimed]

theorem patrolDue_chooses (hp : s.store.patrolRead = none) : patrolDue s = patrolFrom (ownedBlocks s) (patrolTimed s) := by
  have owned : isOwned (patrolTimed s) = isOwned s := rfl
  have chooses : patrolDue s = choosePatrol (patrolTimed s) := by simp [patrolDue, hp, patrolTimed]
  rw [chooses, choosePatrol, ownedBlocks, owned, ← ownedBlocks]

theorem patrolFrom_above {owned : List Nat} (h : owned.find? (fun b => s.store.patrolPos < b) = some b) :
    patrolFrom owned s = askPatrol b s := by simp only [patrolFrom, h]

/-- R141, R146: the first block again, after a full pass. -/
theorem patrolFrom_first {rest : List Nat} (h : (b :: rest).find? (fun b => s.store.patrolPos < b) = none) :
    patrolFrom (b :: rest) s = askPatrol b (endStorePass s) := by simp only [patrolFrom, h]

/-! ### A block read that goes to its claimant -/

section Completes

variable (hh : s.held = none) (hf : s.store.inFlight = some f) (hop : f.op = .read) (hd : f.discarded = false)
include hh hf hop hd

theorem blockRead_passes (ha : f.again = false) (hp : passesCheck (readBytes d f.block s) = true)
    (hx : handRead f.claimant .pass (readBytes d f.block s) f.block (portFreed s) = x) :
    exec (.blockReadComplete d) s = .next (settle s none x) := by
  rw [exec_blockReadComplete d hh hf hop, readOutcome_passes hf hp, ha, if_neg nofun, readDone_pass hd, hx]

theorem blockRead_passesReread (ha : f.again = true) (hp : passesCheck (readBytes d f.block s) = true)
    (hx : handRead f.claimant .passReread (readBytes d f.block s) f.block (countSector f.block (portFreed s)) = x) :
    exec (.blockReadComplete d) s = .next (settle s none x) := by
  rw [exec_blockReadComplete d hh hf hop, readOutcome_passes hf hp, if_pos ha,
    readDone_counts (r := .passReread) nofun hd, hx]

theorem blockRead_fails (ha : f.again = true) (hp : passesCheck (readBytes d f.block s) = false)
    (hx : handRead f.claimant .fail (readBytes d f.block s) f.block (countSector f.block (portFreed s)) = x) :
    exec (.blockReadComplete d) s = .next (settle s none x) := by
  rw [exec_blockReadComplete d hh hf hop, readOutcome_fails hf hp ha,
    readDone_counts (r := .fail) nofun hd, hx]

end Completes

/-- Settles O39: the reads that complete by their operation and claimant, then the mount's next block, the settling of an
entry, and the patrol timer. -/
theorem storeReadsCompleteAndPatrolAsks : Obligations.StoreReadsCompleteAndPatrolAsks := by
  unfold Obligations.StoreReadsCompleteAndPatrolAsks
  refine ⟨fun d f s hh hf => ?reads, fun b s => ⟨fun k hb hk good between => ?next, fun bad => ?ready⟩, fun e => ?settles,
    fun s hh ht hr => ?patrol⟩
  case reads =>
    intro i bytes free gives
    refine ⟨fun hop => ⟨.of_settle (exec_statusReadComplete true hh hf hop) (statusRead_true_keeps s),
        .of_settle (exec_statusReadComplete false hh hf hop) (statusRead_false_keeps s)⟩,
      fun hop ha => ⟨exec_blockReadRetry hh hf hop ha, fun hp => ?retries⟩,
      fun hop hc hd => ⟨fun ha hp => ?_, fun ha hp => ?_, fun ha hp => ?_⟩,
      fun hop hc hd hb ha hp => ?label, fun hop hd ha hp => ?passes,
      fun hop hd ha hp => ?fails⟩
    case retries =>
      exact (exec_blockReadComplete d hh hf hop).trans (by rw [readOutcome_retries hf hp ha]; rfl)
    · exact .of_settle (blockRead_passes hh hf hop hd ha hp (by rw [hc]; rfl)) (linkReadDone_keeps .pass bytes s)
    · exact .of_settle (blockRead_passesReread hh hf hop hd ha hp (by rw [hc]; rfl))
        (linkReadDone_keeps .passReread bytes (countSector f.block s))
    · exact .of_settle (blockRead_fails hh hf hop hd ha hp (by rw [hc]; rfl))
        (linkReadDone_keeps .fail bytes (countSector f.block s))
    case label =>
      have reads {x : State} (hx : mountRead .pass bytes 0 free = x) : gives x :=
        blockRead_passes hh hf hop hd ha hp (by rw [hc, ← hx]; exact congrArg (mountRead .pass bytes · free) hb)
      exact ⟨fun hl => reads (mountRead_label rfl hl free),
        fun hl => .of_settle (reads (mountRead_unformatted (.inr hl) free)) (mountEnds_keeps .unformatted .unformatted s)⟩
    case passes =>
      intro n q fill chars items e
      have gives {x : State} (hx : handRead f.claimant .pass bytes f.block free = x) : gives x :=
        blockRead_passes hh hf hop hd ha hp hx
      have mounts (hc : f.claimant = .mount) (hb : f.block ≠ 0) {y : State} (hy : mountBlock .pass bytes f.block free = y) :
          handRead f.claimant .pass bytes f.block free = mountOn f.block y := by
        rw [hc, ← hy]
        exact mountRead_block hb _ _ _
      refine ⟨fun hc hb => ⟨fun hn => gives (mounts hc hb (mountBlock_none rfl hn)),
          fun h1 h31 hq hfill hseq => gives (mounts hc hb (mountBlock_joins (s := free) rfl h1 h31 hq hfill hseq)),
          fun h1 h31 hstray => gives (mounts hc hb (mountBlock_strays (s := free) rfl h1 h31 hstray))⟩,
        fun k at_ hc hk hat => gives ?_, fun k at_ hc hk hat => gives ?_, fun hc hphase hfill => gives ?_,
        fun hc => gives ?_⟩ <;> rw [hc]
      · exact sendRead_passes rfl hk hat
      · exact reprintRead_passes rfl hk hat
      · exact composeLoad_composes rfl hphase hfill
      · exact patrolResult_passes rfl _
    case fails =>
      have gives {x : State} (hx : handRead f.claimant .fail bytes f.block (countSector f.block free) = x) : gives x :=
        blockRead_fails hh hf hop hd ha hp hx
      refine ⟨fun k at_ hc hk hat => gives ?_, fun k at_ hc hk hat => gives ?_, fun hc => gives ?_,
        fun p hc hread hb => gives ?_⟩ <;> rw [hc]
      · exact sendRead_fails rfl hk hat
      · exact reprintRead_fails rfl hk hat
      · exact composeLoad_fails rfl _ _ _
      · exact patrolResult_damages rfl hread hb
  case next =>
    rw [mountOn, nextMountBlock_eq hb hk good between]
  case ready =>
    rw [mountOn, nextMountBlock_none bad]
    exact settleMount_store s
  case settles =>
    intro lasts damaged flags
    have undamaged (h : ¬ damaged) : mountDamaged e = false := Bool.eq_false_iff.mpr fun h' => h ((mountDamaged_iff e).mp h')
    have listed (h : lasts ≠ []) : e.blocks ≠ [] := fun hb => h (by simp [lasts, hb])
    exact ⟨settleEntry_empty, fun h => settleEntry_damaged ((mountDamaged_iff e).mpr h),
      fun h hb hl => settleEntry_incomplete (undamaged h) hb hl,
      fun h hl => settleEntry_complete (undamaged h) (listed hl) hl⟩
  case patrol =>
    intro on
    have answers {x : State} (hx : patrolDue s = x) : Answers .storePatrolExpiry s x :=
      .of_eq (hx ▸ exec_storePatrolExpiry hh ht hr)
    refine ⟨fun p hp => answers (patrolDue_busy hp), fun hp => ⟨fun b hb => answers ?_, fun b rest hb ho => answers ?_,
      fun ho => answers ?_⟩⟩ <;> rw [patrolDue_chooses hp]
    · exact patrolFrom_above hb
    · rw [ho] at hb ⊢
      exact patrolFrom_first hb
    · rw [ho]
      rfl

end Sys2Proof.Machine
end

section
/-! PROOF. A write attempt (R139 to R141, R144, R148, R149, R161 to R163, R165, R166): its comparisons, what TAKE and COMPOSE go on
to after it, and the releases of deletes and of the format. -/

namespace Sys2Proof.Machine

variable {s x : State} {f : InFlight} {w : DataWrite} {d : TakeDoc} {j : DeleteJob} {b k : Nat}

/-! ### The comparisons -/

section Attempt

variable (hh : s.held = none) (hf : s.store.inFlight = some f)
include hh hf

theorem exec_blockWriteAttemptComplete (matched : Bool) (hop : f.op.isWrite = true) :
    exec (.blockWriteAttemptComplete matched) s = .next (settle s none (writeOutcome matched s)) :=
  performWhen_runs _ _ (by simp [writeInFlight, hf, hop]) hh

theorem exec_writeCompareMismatch (hop : f.op.isWrite = true) (ha : f.again = false) :
    exec .writeCompareMismatch s = .next (settle s none (lookingAgain f (countSector f.block s))) := by
  have counted : mismatch s = lookingAgain f (countSector f.block s) := by
    simp only [mismatch, hf]
    exact lookAgain_eq (by simpa using hf)
  rw [← counted]
  exact performWhen_runs _ _ (by simp [writeInFlight, secondLook, hf, hop, ha]) hh

/-- R144: a first comparison that does not match asks the second. -/
theorem blockWriteAttempt_retries (hop : f.op.isWrite = true) (ha : f.again = false) :
    exec (.blockWriteAttemptComplete false) s = .next (settle s none (lookingAgain f (countSector f.block s))) := by
  have counted : writeOutcome false s = lookingAgain f (countSector f.block s) := by
    simp only [writeOutcome, hf, ha, mismatch]
    exact lookAgain_eq (by simpa using hf)
  rw [exec_blockWriteAttemptComplete hh hf false hop, counted]

/-- R144: an attempt that succeeds. -/
theorem blockWriteAttempt_done (hop : f.op.isWrite = true) (hx : attemptDone f (portFreed s) = x) :
    exec (.blockWriteAttemptComplete true) s = .next (settle s none x) := by
  rw [exec_blockWriteAttemptComplete hh hf true hop, ← hx]
  simp only [writeOutcome, hf]
  rfl

/-- R144: an attempt that fails at its second comparison. -/
theorem blockWriteAttempt_lost (hop : f.op.isWrite = true) (ha : f.again = true) (hx : attemptLost f (portFreed s) = x) :
    exec (.blockWriteAttemptComplete false) s = .next (settle s none x) := by
  rw [exec_blockWriteAttemptComplete hh hf false hop, ← hx]
  simp only [writeOutcome, hf, ha]
  rfl

end Attempt

/-! ### A data write that completes -/

/-- R144: the block holds the data and stands in the list of its document. -/
def dataStored (w : DataWrite) (b : Nat) (s : State) : State :=
  joinList w.document ⟨w.seq, b, w.chars.length, w.flags⟩ (writeBlock b (dataImage w) s)

theorem dataWriteDone_compose (w : DataWrite) (b : Nat) (s : State) :
    dataWriteDone .compose w b s = composeWriteDone w (dataStored w b s) := rfl

/-- R161: the buffer written is FREE, and no write is asked. -/
def takeFreed (w : DataWrite) (s : State) : State :=
  s.setTake { s.take.freeBufs (fun b => b.document = w.document && b.seq = w.seq) with write := none }

theorem takeWriteDone_goesOn (h : isLast w.flags = false) : takeWriteDone w s = takeFreed w s := by
  simp [takeWriteDone, h, takeFreed]

/-- R162: after the final block the document is CLOSED with the flags of its record. -/
theorem takeWriteDone_last (h : isLast w.flags = true) (hd : s.take.docs.find? (·.document = w.document) = some d) :
    takeWriteDone w s = recordDone .take d.outcome [d.document]
      (closeDoc d.document (fun _ => d.flags) (takeForget d.document (takeFreed w s))) := by
  have held : (s.take.freeBufs (fun b => b.document = w.document && b.seq = w.seq)).docs.find?
      (·.document = w.document) = some d := hd
  simp only [takeWriteDone, h, if_true, held]
  rfl

/-- R165: COMPOSE's buffer is empty, at the next sequence. -/
def composeNext (write : Option ComposeWrite) (s : State) : State :=
  s.setCompose { s.compose with chars := [], seq := s.compose.seq + 1, loaded := none, write := write }

theorem composeWriteDone_goesOn (h : isLast w.flags = false) (hp : s.compose.phase = .composing) :
    composeWriteDone w s = composeNext none s := by
  simp [composeWriteDone, h, composeFinalWrite, hp, composeNext]

/-- R166: while COMPOSE ends, the final block is asked next. -/
theorem composeWriteDone_ends (h : isLast w.flags = false) (hp : s.compose.phase = .ending)
    (hl : s.compose.loading = false) : composeWriteDone w s = composeNext (some { final := true }) s := by
  simp [composeWriteDone, h, composeFinalWrite, hp, hl, composeNext]
  rfl

theorem composeWriteDone_last (h : isLast w.flags = true) : composeWriteDone w s =
    recordDone .compose .complete [w.document] (closeDoc w.document id (s.setCompose {})) := by
  simp [composeWriteDone, h]

/-! ### A data write that fails -/

theorem attemptFailed_take (h : w.failed = none) (b : Nat) (s : State) : attemptFailed .take w b s =
    (joinBad b (spoilBlock b s)).setTake { s.take with
      write := s.take.write.map fun x => { x with failed := some b } } := by
  simp [attemptFailed, h]

theorem attemptFailed_compose (h : w.failed = none) (b : Nat) (s : State) : attemptFailed .compose w b s =
    (joinBad b (spoilBlock b s)).setCompose { s.compose with
      write := s.compose.write.map fun x => { x with failed := some b } } := by
  simp [attemptFailed, h]

/-- R144: the second attempt has failed too, which is a fault. -/
def writeLost (w : DataWrite) (b : Nat) (s : State) : State :=
  recordFault .storeWrite { document := some w.document, block := some b } (joinBad b (spoilBlock b s))

theorem writeLost_frame (w : DataWrite) (b : Nat) (s : State) :
    (writeLost w b s).take = s.take ∧ (writeLost w b s).compose = s.compose := by simp [writeLost]

theorem attemptFailed_again (h : w.failed ≠ none) (c : PortClaimant) (b : Nat) (s : State) :
    attemptFailed c w b s = dataWriteFailed c w (some b) (joinBad b (spoilBlock b s)) := by
  simp [attemptFailed, Option.isSome_iff_ne_none, h]

/-- R163: TAKE's document is CLOSED as INCOMPLETE. -/
def takeGivenUp (d : TakeDoc) (n : Nat) (s : State) : State :=
  recordDone .take .storeFailed [n] (closeDoc n (fun _ => { d.flags with incomplete := true }) (takeForget n s))

theorem attemptFailed_take_again (h : w.failed ≠ none)
    (hd : s.take.docs.find? (·.document = w.document) = some d) : attemptFailed .take w b s =
      if d.closing then takeGivenUp d w.document (writeLost w b s)
      else takeNotice (takeGivenUp d w.document (writeLost w b s)) := by
  have held : (writeLost w b s).take.docs.find? (·.document = w.document) = some d := by
    rw [(writeLost_frame w b s).1, hd]
  rw [attemptFailed_again h]
  show takeWriteFailed w (writeLost w b s) = _
  simp only [takeWriteFailed, held]
  rfl

/-- R166: COMPOSE's document is CLOSED as INCOMPLETE. -/
def composeGivenUp (n : Nat) (s : State) : State :=
  recordDone .compose .storeFailed [n] ((closeDoc n (fun g => { g with incomplete := true }) s).setCompose {})

theorem attemptFailed_compose_again (h : w.failed ≠ none) : attemptFailed .compose w b s =
    composeGivenUp s.compose.document (if s.compose.loaded.isSome then
      damageDoc s.compose.document (writeLost w b s) else writeLost w b s) := by
  rw [attemptFailed_again h]
  show composeWriteFailed (writeLost w b s) = _
  simp only [composeWriteFailed, (writeLost_frame w b s).2]
  rfl

/-! ### Releases -/

theorem releaseDone_joins (h : s.store.state ≠ .formatting) :
    releaseDone b s = joinFree b (dropListed b (writeBlock b freeImage s)) := if_neg h

/-- R148: the delete ends with its document CLOSED and damaged. -/
def deleteGivenUp (n b : Nat) (s : State) : State :=
  recordFault .storeWrite { document := some n, block := some b }
    (recordStore [n] true none (closeDoc n (fun g => { g with damaged := true }) (popJob s)))

theorem deleteGivenUp_take (n b : Nat) (s : State) : (deleteGivenUp n b s).take = s.take := by simp [deleteGivenUp]

theorem releaseFailed_deletes {rest : List DeleteJob} (h : s.store.state ≠ .formatting) (hj : s.store.jobs = j :: rest) :
    releaseFailed b s = deleteFailed j b (joinBad b (spoilBlock b s)) := by
  have jobs : (joinBad b (spoilBlock b s)).store.jobs = j :: rest := by simpa using hj
  simp only [releaseFailed, spoilBlock_frame, h, if_false, jobs]

theorem deleteFailed_request (ht : j.forTake = false) (b : Nat) (s : State) : deleteFailed j b s =
    recordDone .maintenance .storeFailed [j.document] (deleteGivenUp j.document b s) := by
  simp only [deleteFailed, ht]
  rfl

/-- R163: TAKE gives up a closing document whose delete failed, without a notice. -/
theorem deleteFailed_closing (ht : j.forTake = true) (hn : s.take.held.map (·.document) ≠ some j.document) (b : Nat) :
    deleteFailed j b s =
      recordDone .take .storeFailed [j.document] (takeForget j.document (deleteGivenUp j.document b s)) := by
  have other : (deleteGivenUp j.document b s).take.held.map (·.document) ≠ some j.document := by
    rwa [deleteGivenUp_take]
  simp only [deleteFailed, ht, if_true]
  exact if_neg other

/-! ### The format -/

theorem nextFormatBlock_congr (h : x.store.bad = s.store.bad) (b : Nat) : nextFormatBlock b x = nextFormatBlock b s := by
  rw [nextFormatBlock, h, nextFormatBlock]

theorem releaseDone_formats (h : s.store.state = .formatting) :
    releaseDone b s = formatOn b (writeBlock b (if b = 0 then labelImage else freeImage) s) := if_pos h

theorem formatOn_keeps_next (h : nextFormatBlock b s = some k) :
    Keeps (s.setStore { s.store with formatNext := k }) (formatOn b s) := by
  rw [formatOn, h]
  exact .refl _

theorem formatOn_keeps_ready (h : nextFormatBlock b s = none) (hp : s.params.patrolInterval ≠ 0) :
    Keeps (s.setStore { s.store with state := .ready, patrolTimer := .running s.params.patrolInterval })
      (formatOn b s) := by
  rw [formatOn, h]
  constructor <;> simp [enterReady, hp]

/-- R149: without its label the format ends, and the store is UNFORMATTED. -/
theorem releaseFailed_label_keeps (h : s.store.state = .formatting) :
    Keeps ((spoilBlock 0 s).setStore { s.store with state := .unformatted }) (releaseFailed 0 s) := by
  have failed : releaseFailed 0 s = formatFailed (spoilBlock 0 s) := by simp [releaseFailed, h]
  rw [failed]
  constructor <;> simp [formatFailed]

/-! ### The directory after a write -/

/-- R139, R140, R144: what each update of the directory leaves of a document's entry and of the block sets. -/
theorem directory_updates {n : Nat} (hn : isDocument n = true) (b : Nat) (r : BlockRef) (g : DocFlags → DocFlags) (s : State) :
    (dirEntry (joinList n r s) n = { dirEntry s n with blocks := insertRef r (dirEntry s n).blocks } ∧
      (joinList n r s).store.free = s.store.free.filter (· ≠ r.block)) ∧
    (dirEntry (joinBad b s) n = { dirEntry s n with
        blocks := (dirEntry s n).blocks.filter (·.block ≠ b), strays := (dirEntry s n).strays.filter (· ≠ b) } ∧
      (joinBad b s).store.free = s.store.free.filter (· ≠ b) ∧ (joinBad b s).store.bad = insertAsc b s.store.bad) ∧
    (dirEntry (joinFree b (dropListed b s)) n = { dirEntry s n with
        blocks := (dirEntry s n).blocks.filter (·.block ≠ b) } ∧
      (joinFree b (dropListed b s)).store.free = insertAsc b s.store.free) ∧
    dirEntry (closeDoc n g s) n = { dirEntry s n with
      state := .closed, pendingDamage := false,
      flags := { g (dirEntry s n).flags with
        damaged := (g (dirEntry s n).flags).damaged || (dirEntry s n).pendingDamage } } := by
  have listed : (joinList n r s).store.free = (leaveFree r.block s).store.free := by simp [joinList]
  exact ⟨⟨dirEntry_joinList hn r s, listed⟩, ⟨dirEntry_joinBad b s n, rfl, rfl⟩, ⟨dirEntry_dropListed b s n, rfl⟩,
    dirEntry_closeDoc_self hn g s⟩

/-- Settles O40: the comparisons, a data write by its claimant and its end, a release by the store's state, and the
directory's updates. -/
theorem writeAttemptsSucceedOrFail : Obligations.WriteAttemptsSucceedOrFail := by
  unfold Obligations.WriteAttemptsSucceedOrFail
  refine ⟨fun f s hh hf => ?_, fun n b r g s h1 h31 => directory_updates (isDocument_iff.mpr ⟨h1, h31⟩) b r g s⟩
  intro free gives spoilt
  have done {x : State} (hop : f.op.isWrite = true) (hx : attemptDone f free = x) : gives true x :=
    blockWriteAttempt_done hh hf hop hx
  have lost {x : State} (hop : f.op.isWrite = true) (ha : f.again = true) (hx : attemptLost f free = x) : gives false x :=
    blockWriteAttempt_lost hh hf hop ha hx
  refine ⟨fun hop ha => ⟨exec_writeCompareMismatch hh hf hop ha, blockWriteAttempt_retries hh hf hop ha⟩,
    fun w hop => ?dataWrite, fun hop hs => ?release, fun hop hs => ?format⟩
  case dataWrite =>
    intro stored
    have isWrite : f.op.isWrite = true := by rw [hop]; rfl
    have written {x : State} (hx : dataWriteDone f.claimant w f.block free = x) : gives true x :=
      done isWrite (by rw [← hx, attemptDone, hop])
    have failed (ha : f.again = true) {x : State} (hx : attemptFailed f.claimant w f.block free = x) : gives false x :=
      lost isWrite ha (by rw [← hx, attemptLost, hop])
    have storedTake : (dataStored w f.block free).take = s.take := by simp [dataStored, free]
    have storedCompose : (dataStored w f.block free).compose = s.compose := by simp [dataStored, free]
    refine ⟨fun hc => ⟨fun hl => written ?_, fun d hl hd => written ?_⟩,
      fun hc => ⟨fun hl hp => written ?_, fun hl hp hload => written ?_, fun hl => written ?_⟩,
      fun ha hw => ⟨fun hc => failed ha ?_, fun hc => failed ha ?_⟩,
      fun ha hw => ⟨fun d hc hd => ⟨fun hcl => failed ha ?_, fun hcl => failed ha ?_⟩,
        fun hc => ⟨fun hn => failed ha ?_, fun hn => failed ha ?_⟩⟩⟩ <;> rw [hc]
    · exact takeWriteDone_goesOn hl
    · exact takeWriteDone_last hl
        ((congrArg (fun t : TakeChannel => t.docs.find? (·.document = w.document)) storedTake).trans hd)
    · rw [dataWriteDone_compose, composeWriteDone_goesOn hl (by rw [storedCompose]; exact hp), composeNext, storedCompose]
      rfl
    · rw [dataWriteDone_compose, composeWriteDone_ends hl (by rw [storedCompose]; exact hp)
        (by rw [storedCompose]; exact hload), composeNext, storedCompose]
      rfl
    · exact composeWriteDone_last hl
    · exact attemptFailed_take hw f.block free
    · exact attemptFailed_compose hw f.block free
    · rw [attemptFailed_take_again (s := free) hw hd, if_pos hcl]
      rfl
    · rw [attemptFailed_take_again (s := free) hw hd, hcl]
      rfl
    · rw [attemptFailed_compose_again hw, show free.compose.loaded = none from hn]
      rfl
    · rw [attemptFailed_compose_again (s := free) hw,
        if_pos (show free.compose.loaded.isSome = true from Option.isSome_iff_ne_none.mpr hn)]
      rfl
  case release =>
    have isWrite : f.op.isWrite = true := by rw [hop]; rfl
    refine ⟨done isWrite (by rw [attemptDone, hop]; exact releaseDone_joins hs), fun ha j rest hj => ?_⟩
    have failed {x : State} (hx : deleteFailed j f.block spoilt = x) : gives false x := by
      refine lost isWrite ha ?_
      rw [← hx, attemptLost, hop]
      exact releaseFailed_deletes hs hj
    have popped : popJob spoilt = spoilt.setStore { spoilt.store with jobs := rest } := by
      have jobs : spoilt.store.jobs = j :: rest := by simpa [spoilt, free] using hj
      rw [popJob, jobs]
      rfl
    intro n given
    have given_eq : deleteGivenUp n f.block spoilt = given := by rw [deleteGivenUp, popped]
    refine ⟨fun ht => failed ?_, fun ht hn => failed ?_⟩
    · rw [deleteFailed_request ht, given_eq]
    · rw [deleteFailed_closing ht (by simpa [spoilt, free] using hn), given_eq]
  case format =>
    have isWrite : f.op.isWrite = true := by rw [hop]; rfl
    let image : List Byte := if f.block = 0 then labelImage else freeImage
    have formats : gives true (formatOn f.block (writeBlock f.block image free)) :=
      done isWrite (by rw [attemptDone, hop]; exact releaseDone_formats hs)
    have next : nextFormatBlock f.block (writeBlock f.block image free) = nextFormatBlock f.block s :=
      nextFormatBlock_congr (by simp [free]) _
    refine ⟨fun k hk => .of_settle formats (.trans ?_ (formatOn_keeps_next (next.trans hk))),
      fun hk hp => .of_settle formats (.trans ?_ (formatOn_keeps_ready (next.trans hk) hp)), fun ha hb => ?_⟩
    · constructor <;> rfl
    · constructor <;> rfl
    · have failed : gives false (releaseFailed 0 free) :=
        lost isWrite ha (by rw [attemptLost, hop, hb])
      exact .of_settle failed (.trans (by constructor <;> rfl) (releaseFailed_label_keeps (s := free) hs))

end Sys2Proof.Machine
end

section
/-! PROOF. A delete for TAKE that TAKE does not wait for (R139, R148, R160): the invariant of the holders asks that an awaited
document has its job, and not that a job for TAKE has its document, so that it is lost when such a job ends. -/

namespace Sys2Proof.Machine

/-! ### The witness -/

/-- A part that runs, with a delete job for TAKE of document 1, which has no block, while TAKE holds no document. -/
def orphanedDelete : State where
  held := none
  store := { state := .ready, dir := put (Vector.replicate 31 {}) 0 { state := .deleting }, jobs := [⟨1, true⟩] }
  pending := [.identify]

/-- Document 1 is the one that is not FREE; the number 0 reads as document 1 does. -/
theorem orphanedDelete_entry (n : Nat) : dirEntry orphanedDelete n = { state := if n ≤ 1 then .deleting else .free } := by
  unfold dirEntry
  by_cases h : n ≤ 1
  · rw [if_pos h, show n - 1 = 0 by omega]
    exact nth_put_self _ _ _ (by decide)
  · rw [if_neg h]
    exact (nth_put_ne _ _ _ (by omega)).trans (nth_replicate_self _ _)

theorem orphanedDelete_inState (n : Nat) (st : DocState) :
    inState orphanedDelete n st ↔ (1 ≤ n ∧ n ≤ 31) ∧ (if n ≤ 1 then .deleting else .free) = st := by
  rw [inState, isDocument_iff, orphanedDelete_entry]

/-- No document is held by a channel. -/
theorem orphanedDelete_not_inState (n : Nat) {st : DocState} (hd : st ≠ .deleting) (hf : st ≠ .free) :
    ¬ inState orphanedDelete n st := by
  rw [orphanedDelete_inState]
  rintro ⟨-, h⟩
  split at h
  · exact hd h.symm
  · exact hf h.symm

/-! ### The witness meets the invariant -/

theorem orphanedDelete_blocksLegal : BlocksLegal orphanedDelete where
  once b := by
    have lists : orphanedDelete.store.dir.toList.flatMap (·.blocks) = [] := by decide +kernel
    rw [lists]
    exact reset_blocksLegal.once b
  freeOrder := reset_blocksLegal.freeOrder
  badOrder := .nil
  listOrder n := by rw [orphanedDelete_entry]; exact .nil
  strays n b h := by rw [orphanedDelete_entry] at h; cases h

theorem orphanedDelete_holdersAgree : HoldersAgree orphanedDelete where
  sending n := iff_of_false (orphanedDelete_not_inState n nofun nofun) (by simp [orphanedDelete])
  staged h := absurd rfl h
  reprinting n := iff_of_false (orphanedDelete_not_inState n nofun nofun) (by simp [orphanedDelete])
  composing n := iff_of_false (orphanedDelete_not_inState n nofun nofun) (by simp [orphanedDelete])
  taking n := iff_of_false (orphanedDelete_not_inState n nofun nofun) (by simp [orphanedDelete])
  deleting n := by
    have job : (∃ j ∈ orphanedDelete.store.jobs, j.document = n) ↔ 1 = n := by simp [orphanedDelete]
    rw [orphanedDelete_inState, job]
    split <;> simp <;> omega
  awaited := nofun
  docsOnce := .nil
  jobsOnce := List.pairwise_singleton _ _
  idle h := absurd rfl h

theorem orphanedDelete_writersFresh : WritersFresh orphanedDelete where
  free _ n _ := by rw [orphanedDelete_entry]
  takeDocs := nofun
  takeBufs := nofun
  takeWrite := nofun
  phase := ⟨nofun, nofun⟩
  top h := absurd rfl h
  loading h := absurd rfl h
  newest h := absurd rfl h
  loaded h := absurd rfl h
  retried h := absurd rfl h

theorem orphanedDelete_portLegal : PortLegal orphanedDelete where
  write := nofun
  data := nofun
  free := nofun
  load := nofun
  mount := nofun
  status := nofun
  found := nofun
  next := nofun
  format := nofun
  held h := absurd rfl h

theorem orphanedDelete_storeLegal : StoreLegal orphanedDelete :=
  ⟨orphanedDelete_blocksLegal, orphanedDelete_holdersAgree, orphanedDelete_writersFresh, orphanedDelete_portLegal⟩

/-! ### The step that loses the document -/

/-- The step settles, the job has nothing to release and ends, and document 1 is TAKING. -/
theorem orphanedDelete_step : ∃ t, step orphanedDelete = .next t ∧ (dirEntry t 1).state = .taking ∧ t.take.docs = [] :=
  ⟨_, rfl, by decide +kernel, by decide +kernel⟩

/-- Refutes O59: after the step document 1 is TAKING and TAKE holds no document. The statement speaks of every legal state, and
the converse of `HoldersAgree.awaited`, which would exclude this one, is no part of being legal. -/
theorem not_everyStepKeepsTheStoreLegal : ¬ Obligations.EveryStepKeepsTheStoreLegal := by
  unfold Obligations.EveryStepKeepsTheStoreLegal
  intro keeps
  obtain ⟨t, steps, taking, docs⟩ := orphanedDelete_step
  obtain ⟨d, held, -, -⟩ := ((keeps _ _ orphanedDelete_storeLegal steps).holders.taking 1).mp ⟨rfl, taking⟩
  rw [docs] at held
  cases held

end Sys2Proof.Machine
end
